-- ==== Sys2Proof/Word.lean ====
section
/-!
DEFINITION. The word types of the Zukal 416, and the index types of its tables.
-/

namespace Sys2Proof

/-- One byte of a link frame, a panel frame or the configuration record (R203). -/
abbrev Byte := BitVec 8

/-- One audio sample, 24-bit two's complement (00_scope.md, "Audio and gain values"). -/
abbrev Sample := BitVec 24

/-- A 48-bit sample count: SC, CT, P or a send stamp (R45, R48, R110). -/
abbrev SampleCount := BitVec 48

/-- A block number, taken modulo 2^32 (R48). -/
abbrev BlockNo := BitVec 32

/-- A parcel sequence number, taken modulo 65,536 (R2). -/
abbrev SeqNo := BitVec 16

/-- A factory serial (00_scope.md, "Station identity"). -/
abbrev Serial := BitVec 48

/-- A station by its index: index n stands for station number n + 1 (R23, R199). -/
abbrev Station := Fin 16

/-- A programme lane, 0 to 7 (00_scope.md, "Names"). -/
abbrev ProgLane := Fin 8

/-- A lane, 0 to 8, lane 8 being the talk lane (00_scope.md, "Names"). -/
abbrev LaneNo := Fin 9

/-- An output line, 0 to 7. -/
abbrev OutputNo := Fin 8

/-- A mix group by its index: index n stands for group n + 1. -/
abbrev GroupIx := Fin 8

/-- A value for each station and programme lane. -/
abbrev LaneTable (α : Type) := Vector (Vector α 8) 16

/-- The station number 1 to 16 of a station index. -/
def Station.number (s : Station) : Nat := s.val + 1

/-- A programme lane as a lane. -/
def ProgLane.lane (k : ProgLane) : LaneNo := ⟨k.val, by omega⟩

/-- The talk lane, numbered 8. -/
def talkLane : LaneNo := 8

end Sys2Proof
end

