-- ==== Sys2Proof/Syntax.lean ====
section
/-!
DEFINITION. The commands of the Zukal 416: one constructor per row of spec/opcode_table.json.
The table gives the rows no operands; each operand below is the value that the row's rule names.
-/

namespace Sys2Proof

/-- The role strap (R199). -/
inductive Role where
  | venue
  | gallery
deriving DecidableEq, Repr

/-- Which of two events that fall together at a crossing is taken first: the evaluation of the digest
window left, or the entry's readers of the suspect flag (R175). -/
inductive CrossOrder where
  | evaluationFirst
  | readersFirst
deriving DecidableEq, Repr

/-- Which of two events that fall together at an agreement instant is taken first: the Time Agreement
Unit's work, or the Playout Unit's forming of its target (R115, R119, R120). With `targetOnly` the target alone
is taken, so that a slip decision can fall between it and the Time Agreement Unit's work (R117, R119). -/
inductive InstantOrder where
  | timeFirst
  | playoutFirst
  | targetOnly
deriving DecidableEq, Repr

/-- Whether a sample period's move of P is taken with the sample period, or left to be taken after the
other events that fall at the same moment (R119, R163). -/
inductive MoveTime where
  | now
  | held
deriving DecidableEq, Repr

/-- The commands. A panel message's fields are the bytes it carries (R205), so a field out of range is an
operand too. -/
inductive Instr where
  /-- POWER_ON_RESET, with the strap pins' levels (R198, R199). -/
  | powerOnReset (straps : BitVec 4) (role : Role)
  /-- RESET_PIN, with the strap pins' levels (R198, R199). -/
  | resetPin (straps : BitVec 4) (role : Role)
  /-- LOAD_END, with the bytes read from configuration addresses 0 to 61 (R200, R207). -/
  | loadEnd (record : List Byte)
  /-- RESTART (R193). -/
  | restart
  /-- FADER: group, level (R148, R190, R205). -/
  | fader (group : Byte) (level : BitVec 16)
  /-- SLOPE: group, slope time, shape code (R150, R190, R205). -/
  | slope (group : Byte) (time : BitVec 16) (shape : Byte)
  /-- SELECT: station, lane (R188, R205). -/
  | select (station : Byte) (lane : Byte)
  /-- ASSIGN: value (R189, R205). -/
  | assign (value : Byte)
  /-- FALLBACK: value (R189, R205). -/
  | fallback (value : Byte)
  /-- MATRIX: output, group, gain (R152, R190, R205). -/
  | matrix (output : Byte) (group : Byte) (gain : BitVec 16)
  /-- TAKE (R153). -/
  | take
  /-- TALK: destination (R83, R191). -/
  | talk (destination : Byte)
  /-- TALK_OFF (R83, R191). -/
  | talkOff
  /-- CONTRIBUTE: 0 off, any other value on (R77, R191). -/
  | contribute (value : Byte)
  /-- METERS: 0 off, any other value on (R163, R191). -/
  | meters (value : Byte)
  /-- QUERY with selector STATUS (R192, R195). -/
  | queryStatus
  /-- QUERY with selector PEER: station (R192, R196). -/
  | queryPeer (station : Byte)
  /-- QUERY with selector FAULTS (R192, R197). -/
  | queryFaults
  /-- ACK_FAULTS (R181, R192). -/
  | ackFaults
  /-- A complete panel frame that fails test 1, 2 or 3 of R187: type, payload, check byte. -/
  | unknownMessage (type : Byte) (payload : List Byte) (check : Byte)
  /-- A received panel byte with a low stop bit, or one above 32 in WAIT_LENGTH (R186). -/
  | panelFramingError (stopHigh : Bool) (byte : Byte)
  /-- The panel idle timer reaches 2 byte-times (R186). -/
  | panelIdleTimeout
  /-- The panel transmitter takes the head report (R194). -/
  | reportSend
  /-- The head parcel's first byte is handed over, LINK READY being asserted (R8, R9). -/
  | parcelHandover
  /-- The modem takes the last CRC byte (R8). -/
  | frameSent
  /-- The TX_OVERRUN quiet count reaches 1,000 (R7). -/
  | txOverrunEnd
  /-- The NOTICE count reaches the NOTICE period (R11). -/
  | noticeDue
  /-- LINK RXFRAME is asserted (R12, R13). -/
  | linkRxframeAssert
  /-- LINK RXFRAME is released: the bytes received while it was asserted (R12, R14). -/
  | linkRxframeRelease (bytes : List Byte)
  /-- The clean-block count reaches 1,000 (R15). -/
  | linkErrorsEnd
  /-- The ECHO_LOST count reaches 500 (R20). -/
  | echoLost
  /-- The store-full quiet count reaches 1,000 (R97). -/
  | storeFullEnd
  /-- The win count reaches 5,000 (R44). -/
  | wonEnd
  /-- A JOINING record's join count reaches 1,000 (R28). -/
  | joinExpiry (station : Station)
  /-- A PRESENT record's quiet count reaches 200 (R29). -/
  | peerLapse (station : Station)
  /-- A LAPSED record's quiet count reaches 5,200 (R30). -/
  | lapseExpiry (station : Station)
  /-- A record's RESYNC-seen timer reaches 0 (R36). -/
  | resyncSeenExpiry (station : Station)
  /-- The lag window count reaches 1,000 (R42). -/
  | lagWindowEnd
  /-- A sample period of the local clock: the eight CAPIN slots, the TALKIN sample, whether the move of P
  is taken with it, and the order of a crossing it makes (R45, R68, R113, R175). -/
  | samplePeriod (slots : Vector Sample 8) (talk : Sample) (move : MoveTime) (order : CrossOrder)
  /-- The block tick at the present SC (R46, R70). -/
  | blockTick
  /-- A lane's quiet run reaches the silence time (R72). -/
  | silentSet (lane : ProgLane)
  /-- A lane's loud run reaches 10 (R72). -/
  | silentClear (lane : ProgLane)
  /-- A lane's run of one value reaches 200 (R73). -/
  | stuckSet (lane : ProgLane)
  /-- Station Control takes the agreement instant (R77). -/
  | goOnAir
  /-- An ON_AIR station with a clear request leaves ON_AIR at a block tick (R78). -/
  | leaveOnAir
  /-- A STARTING, ENDING or SWITCHING talk session moves on at a block tick (R84). -/
  | talkSessionAdvance
  /-- The agreement instant at the present SC (R50), and the order of the TAU's work and the PLU's target. -/
  | agreementInstant (order : InstantOrder)
  /-- The founding count reaches 20 plus the station number (R55). -/
  | founding
  /-- The empty run reaches 10 (R60). -/
  | emptyRunExpiry
  /-- The large run reaches 3 (R61). -/
  | largeRunStep
  /-- The own RESYNC timer reaches 0 (R58). -/
  | resyncTimerExpiry
  /-- The Playout Unit takes the agreement instant before playout has started (R112). -/
  | playoutStart
  /-- The slip phase has reached Q: P steps by 0, 1 or 2 (R117). -/
  | slipDecision (order : CrossOrder)
  /-- A MUTED talk lane's muted count stands at 100 and the entry due releases the lane (R132). -/
  | talkLaneRelease (station : Station)
  /-- An ON_FALLBACK switch's clear run reaches 100 at the entry due (R138). -/
  | fallbackReturn (station : Station) (lane : ProgLane)
  /-- The meter count reaches 20 (R163). -/
  | meterReport
  /-- A byte with its stop bit high is received on PNL RXD (R186). -/
  | panelByte (byte : Byte)
deriving DecidableEq, Repr

end Sys2Proof
end

