-- ==== Sys2Proof/Decode.lean ====
section
/-!
DEFINITION. The commands that words spell by the table's bits. spec/opcode_table.json gives no row any bits, so no
word spells a command.
-/

namespace Sys2Proof

/-- The command that a word of so many bits spells by the opcode table: none for every word, since the table
gives no row bits (log 10). -/
def decodeTableWord (_nbits _w : Nat) : Option Instr := none

end Sys2Proof
end

