-- ==== Sys2Proof/Config.lean ====
section
/-!
DEFINITION. What the part fixes (the sizes of its tables and queues) and what the model chooses for
State.reset where the spec gives no value. The spec leaves no result undefined, so there is no free value.
-/

namespace Sys2Proof.Config

/-- Parcels the transmit queue holds (R6). -/
abbrev txQueueLimit : Nat := 8
/-- Entries the echo table holds (R17). -/
abbrev echoTableLimit : Nat := 16
/-- Bytes the frame store holds (R12). -/
abbrev frameStoreLimit : Nat := 4641
/-- Entries the bad-frame record holds (R15). -/
abbrev badFrameLimit : Nat := 10
/-- Buffers in the pool (R86). -/
abbrev poolSize : Nat := 8192
/-- Block numbers a window map covers (R88). -/
abbrev windowBlocks : Nat := 1024
/-- Records the fault list holds (R177). -/
abbrev faultListLimit : Nat := 32
/-- Reports the report queue holds (R194). -/
abbrev reportQueueLimit : Nat := 32
/-- Streams the selection set holds (R188). -/
abbrev selectionLimit : Nat := 32
/-- Bytes of the configuration record (R207). -/
abbrev configLength : Nat := 62
/-- Samples of a block, and sample periods of an interval (00_scope.md, "Time units"). -/
abbrev blockSamples : Nat := 48
abbrev intervalSamples : Nat := 4800

/-- The factory serial of State.reset. DESIGN CHOICE (log 11), unsafe: the spec fixes it per device, non-zero. -/
abbrev resetSerial : Serial := 1
/-- The station number straps of State.reset. DESIGN CHOICE (log 11), unsafe: the straps are the installer's. -/
abbrev resetStraps : BitVec 4 := 0
/-- The role strap of State.reset. DESIGN CHOICE (log 11), unsafe: the strap is the installer's. -/
abbrev resetRole : Role := .venue

end Sys2Proof.Config
end

