-- ==== Sys2Proof/Machine/Settings.lean ====
section
/-!
DEFINITION. The settings that the configuration record supplies (R201, R202, R207), and their defaults by role.
-/

namespace Sys2Proof.Machine

/-- The announced or configured role of a capture slot (R5, R68). -/
inductive SlotRole where
  | none
  | comm
  | crowd
  | aux
deriving DecidableEq, Repr

/-- The word length W of an output line (R160). -/
inductive WordLength where
  | w24
  | w20
  | w16
deriving DecidableEq, Repr

/-- The settings of one output line (08, "Output arithmetic"). -/
structure OutputSetting where
  word : WordLength
  dither : Bool
  talkReceive : Bool
  duckOnTalk : Bool
deriving DecidableEq, Repr

/-- The settings of R201, held from the load until the next power-on or pin reset (R202). -/
structure Settings where
  /-- C, the programme lane count. -/
  laneCount : Nat
  /-- The role of each slot. -/
  roles : Vector SlotRole 8
  /-- S, the span. -/
  span : Nat
  hmin : Nat
  hmax : Nat
  /-- G, the guard. -/
  guardTime : Nat
  /-- Q, the slip rate. -/
  slipRate : Nat
  silenceThreshold : Nat
  silenceTime : Nat
  /-- D, the duck gain. -/
  duckGain : Nat
  outputs : Vector OutputSetting 8
  contributeAtStart : Bool
deriving DecidableEq, Repr

/-- The default role of a slot: slot 0 COMM and slot 1 CROWD at a venue, NONE elsewhere (R201). -/
def defaultRole (r : Role) (i : Fin 8) : SlotRole :=
  match r, i.val with
  | .venue, 0 => .comm
  | .venue, 1 => .crowd
  | _, _ => .none

/-- The default settings of every output for a role (R201). -/
def defaultOutput (r : Role) : OutputSetting :=
  { word := .w24, dither := false, talkReceive := true, duckOnTalk := r == .venue }

/-- Every field at its default for the role (R201). -/
def defaultSettings (r : Role) : Settings :=
  { laneCount := if r = .venue then 2 else 0
    roles := Vector.ofFn (defaultRole r)
    span := 2
    hmin := if r = .venue then 960 else 4800
    hmax := 24000
    guardTime := if r = .venue then 480 else 2400
    slipRate := 100
    silenceThreshold := 8389
    silenceTime := 2000
    duckGain := 8192
    outputs := Vector.replicate 8 (defaultOutput r)
    contributeAtStart := r == .venue }

end Sys2Proof.Machine
end

