-- ==== Sys2Proof/Machine/State.lean ====
section
/-!
DEFINITION. The state of the Zukal 416, block by block as the Device overview gives it (00_scope.md), the
commands that wait, and the state after reset. Plain data throughout.
-/

namespace Sys2Proof.Machine

/-! ## Parcels and the Link Interface Unit (01) -/

/-- The three parcel kinds (R1). -/
inductive ParcelKind where
  | audio
  | talk
  | notice
deriving DecidableEq, Repr

/-- The flags of one lane of an AUDIO parcel (R3). -/
structure LaneFlags where
  silent : Bool
  stuck : Bool
deriving DecidableEq, Repr

/-- The samples of one block: for each lane carried, its 48 samples. -/
abbrev BlockLanes := List (List Sample)

/-- A parcel in the transmit queue. Stamp, number, RESYNC and a NOTICE's body come at handover (R2, R5, R9). -/
structure Parcel where
  kind : ParcelKind
  firstBlock : BlockNo
  laneCount : Nat
  destination : Byte
  endFlag : Bool
  digest : Option Sample
  laneFlags : List LaneFlags
  blocks : List BlockLanes
deriving DecidableEq, Repr

/-- The frame in progress: what it took at the handover of its first byte, and all its bytes (R8, R9). -/
structure TxFrame where
  parcel : Parcel
  sequence : SeqNo
  stamp : SampleCount
  resync : Bool
  bytes : List Byte
deriving DecidableEq, Repr

/-- An entry of the echo table (R17). -/
structure EchoEntry where
  sequence : SeqNo
  sc : SampleCount
deriving DecidableEq, Repr

/-- An arrival stamp (R13). -/
structure ArrivalStamp where
  sc : SampleCount
  ct : SampleCount
deriving DecidableEq, Repr

/-- The Link Interface Unit. -/
structure Liu where
  /-- The transmit queue, head first (R6). -/
  queue : List Parcel
  /-- The frame in progress; none is the transmitter IDLE (R8). -/
  tx : Option TxFrame
  /-- The sequence counter (R2). -/
  sequence : SeqNo
  /-- The echo table, oldest first (R17). -/
  echoTable : List EchoEntry
  /-- E; none is absent (R19). -/
  echoDelay : Option Nat
  echoCount : Nat
  /-- The ECHO_LOST count (R20). -/
  echoLostCount : Nat
  /-- The NOTICE count (R11). -/
  noticeCount : Nat
  linkErrors : Nat
  strays : Nat
  txDropped : Nat
  /-- The bad-frame record: block numbers in SC, oldest first (R15). -/
  badFrames : List Nat
  cleanBlocks : Nat
  txQuiet : Nat
  /-- The frame being collected, by its arrival stamp; none is waiting for LINK RXFRAME (R12, R13). -/
  rx : Option ArrivalStamp
  frameStore : List Byte
  overlength : Bool
  /-- MODEL's own: how often LINK ABORT has pulsed (log 15). -/
  aborts : Nat
deriving DecidableEq, Repr

/-! ## The Peer Table (02) -/

/-- Clock modes (R49). -/
inductive ClockMode where
  | free
  | acquiring
  | tracking
  | holdover
deriving DecidableEq, Repr

/-- Station states (R77). -/
inductive StationState where
  | loading
  | listening
  | onAir
  | conflict
deriving DecidableEq, Repr

/-- Record states (02, 2.3). -/
inductive RecordState where
  | absent
  | joining
  | present
  | lapsed
deriving DecidableEq, Repr

/-- The values a good NOTICE sets together (R23, R33). -/
structure Announced where
  /-- ON_AIR, or LISTENING. -/
  onAir : Bool
  mode : ClockMode
  /-- H_B. -/
  horizon : Nat
  /-- C_B. -/
  laneCount : Nat
  roles : Vector SlotRole 8
  /-- 0 to 16; none is FFH. -/
  talkDestination : Option Nat
deriving DecidableEq, Repr

/-- A station record (R23). -/
structure PeerRecord where
  state : RecordState
  serial : Option Serial
  announced : Option Announced
  /-- E_B. -/
  echoDelay : Option Nat
  talkActive : Bool
  resyncSeen : Nat
  reseed : Bool
  lastSequence : SeqNo
  gapCount : Nat
  outOfOrder : Nat
  lastHeard : SampleCount
  quietCount : Nat
  joinCount : Nat
  /-- F, in 1/16 sample. -/
  offset : Option Int
  measurements : Nat
  outlierRun : Nat
  lagCurrent : Nat
  lagPrevious : Nat
  late : Nat
  early : Nat
  duplicate : Nat
  format : Nat
  unsettled : Nat
deriving DecidableEq, Repr

/-- A cleared record: ABSENT, optional fields absent, counts and timers 0, flags clear (R25). -/
def PeerRecord.cleared : PeerRecord :=
  { state := .absent, serial := none, announced := none, echoDelay := none, talkActive := false
    resyncSeen := 0, reseed := false, lastSequence := 0, gapCount := 0, outOfOrder := 0, lastHeard := 0
    quietCount := 0, joinCount := 0, offset := none, measurements := 0, outlierRun := 0, lagCurrent := 0
    lagPrevious := 0, late := 0, early := 0, duplicate := 0, format := 0, unsettled := 0 }

/-- The Peer Table (R23, R42, R44). -/
structure PeerTable where
  records : Vector PeerRecord 16
  lagWindow : Nat
  winCount : Nat
deriving DecidableEq, Repr

/-! ## The Time Agreement Unit (03) -/

/-- The Time Agreement Unit (R49). -/
structure Tau where
  sc : SampleCount
  mode : ClockMode
  /-- K. -/
  correction : Int
  /-- I, in 0.01 ppm. -/
  integral : Int
  /-- T, in 0.01 ppm. -/
  trim : Int
  resyncTimer : Nat
  foundingCount : Nat
  emptyRun : Nat
  largeRun : Nat
  /-- The trim word sent last (R64). -/
  trimWord : BitVec 16
  /-- MODEL's own: how many trim words have been sent (log 15). -/
  trimWords : Nat
deriving DecidableEq, Repr

/-! ## The Capture Unit and Station Control (04) -/

/-- What the capture line and the talk input deliver in one sample period (R68). -/
structure InputSample where
  slots : Vector Sample 8
  talk : Sample
deriving DecidableEq, Repr

/-- The block in capture (R69). -/
structure CaptureBlock where
  /-- The number formed with the K in force at its first sample. -/
  number : BlockNo
  /-- The station was ON_AIR at the block tick that began it (R71). -/
  onAir : Bool
  /-- An own K step took effect at the block tick that began it (R76). -/
  afterStep : Bool
  samples : List InputSample
deriving DecidableEq, Repr

/-- The SILENT and STUCK detectors of one programme lane (R72, R73). -/
structure Detector where
  silent : Bool
  quietRun : Nat
  loudRun : Nat
  stuck : Bool
  held : Sample
  stuckRun : Nat
deriving DecidableEq, Repr

/-- A parcel in assembly: AUDIO, or TALK to a destination (R71, R84). -/
structure Assembly where
  firstBlock : BlockNo
  destination : Byte
  digest : Option Sample
  blocks : List BlockLanes
deriving DecidableEq, Repr

/-- The talk session (R82). -/
inductive TalkSession where
  | idle
  | starting (d : Byte)
  | opened (d : Byte)
  | ending (d : Byte)
  | switching (d next : Byte)
deriving DecidableEq, Repr

/-- The sender digest record (R75). -/
structure SenderDigest where
  window : Option Nat
  sum : Sample
  last : Option BlockNo
  spoiled : Bool
deriving DecidableEq, Repr

/-- The Capture Unit and Station Control. -/
structure Cap where
  station : StationState
  /-- The contribute request (R77). -/
  contribute : Bool
  /-- CAPIN and TALKIN of the present sample period (R68). -/
  input : InputSample
  block : Option CaptureBlock
  detectors : Vector Detector 8
  audio : Option Assembly
  talkParcel : Option Assembly
  session : TalkSession
  digest : SenderDigest
deriving DecidableEq, Repr

/-! ## The Alignment Store (05) -/

/-- What a buffer holds for one lane of its lane-present set (R87). -/
structure StoredLane where
  silent : Bool
  stuck : Bool
  resync : Bool
  endMark : Bool
  samples : List Sample
deriving DecidableEq, Repr

/-- A buffer in use (R87). A lane that is none is not in the lane-present set. -/
structure Buffer where
  peer : Station
  block : BlockNo
  lanes : Vector (Option StoredLane) 9
deriving DecidableEq, Repr

/-- The Alignment Store: the buffers in use in rising order of (peer, block number), and how many are
free. The free list has no order (R86), so its length is all there is to it. -/
structure Ast where
  buffers : List Buffer
  free : Nat
  notPlaying : Nat
  storeFull : Nat
  quiet : Nat
deriving DecidableEq, Repr

/-! ## The Playout Unit (06, 07) -/

/-- Lane states (R123). CONCEALING carries n − 1. -/
inductive LaneState where
  | idle
  | playing
  | concealing (n : Fin 4)
  | muted
  | recovering
deriving DecidableEq, Repr

/-- A lane record (R123). The last-good copy holds the block played while the lane is PLAYING or
RECOVERING (R131). -/
structure LaneRecord where
  state : LaneState
  copy : List Sample
  silent : Bool
  stuck : Bool
  endSeen : Bool
  mutedCount : Nat
deriving DecidableEq, Repr

/-- A move of P that is due and not yet taken: an ordinary step of 1, or a slip decision (R113, R117). -/
inductive Move where
  | step
  | slip
deriving DecidableEq, Repr

/-- The Playout Unit. -/
structure Plu where
  /-- P; none is playout not started (R110). -/
  position : Option SampleCount
  /-- Ht. -/
  target : Nat
  slipPhase : Nat
  slipCount : Nat
  lanes : Vector (Vector LaneRecord 9) 16
  /-- MODEL's own: the present sample period's move of P, while it is still to be taken (log 5). -/
  owed : Option Move
deriving DecidableEq, Repr

/-! ## The Mix Engine (07.7, 08) -/

/-- A lane-to-group map entry (R143): group 0 is not mixed. -/
inductive MapEntry where
  | byRole
  | group (g : Fin 9)
deriving DecidableEq, Repr

inductive RampShape where
  | linear
  | eased
deriving DecidableEq, Repr

/-- A running group ramp (R147, R148). -/
structure GroupRamp where
  start : Nat
  length : Nat
  shape : RampShape
  k : Nat
deriving DecidableEq, Repr

/-- A group (R147). -/
structure MixGroup where
  gain : Nat
  target : Nat
  slope : Nat
  shape : RampShape
  ramp : Option GroupRamp
deriving DecidableEq, Repr

/-- The duck ramp (R156). -/
structure DuckRamp where
  start : Nat
  aim : Nat
  k : Nat
deriving DecidableEq, Repr

inductive SwitchState where
  | onPrimary
  | toFallback
  | onFallback
  | toPrimary
deriving DecidableEq, Repr

/-- A fallback switch (R137). -/
structure FallbackSwitch where
  state : SwitchState
  inUse : Option ProgLane
  clearRun : Nat
deriving DecidableEq, Repr

/-- A matrix bank: a gain for each output and group (R152). -/
abbrev MatrixBank := Vector (Vector Nat 8) 8

/-- The Mix Engine. -/
structure Mxe where
  map : LaneTable MapEntry
  /-- The group each entry resolved to at the last boundary (R144). -/
  resolved : LaneTable (Fin 9)
  /-- The stations held digest-suspect at the last boundary (R146). -/
  silenced : Vector Bool 16
  groups : Vector MixGroup 8
  active : MatrixBank
  pendingBank : MatrixBank
  takeCount : Nat
  crossfade : Bool
  duckLevel : Nat
  duckRamp : Option DuckRamp
  dither : Vector (BitVec 32) 8
  metersOn : Bool
  meterCount : Nat
  peaks : Vector Nat 8
  clips : Vector Bool 8
  clipCount : Nat
  fallback : LaneTable (Option ProgLane)
  switches : LaneTable FallbackSwitch
  /-- OUT0 to OUT7 (R162). -/
  outputs : Vector Sample 8
deriving DecidableEq, Repr

/-! ## The Integrity Monitor (09) -/

/-- The outcome of a window's evaluation (R174). -/
inductive DigestOutcome where
  | agreed
  | mismatch
  | incomplete
deriving DecidableEq, Repr

/-- A window entry (R168). -/
structure WindowEntry where
  window : Nat
  expected : Option Sample
  sum : Sample
  fills : Nat
  spoiled : Bool
deriving DecidableEq, Repr

/-- A digest record (R168). -/
structure DigestRecord where
  entries : List WindowEntry
  mismatchRun : Nat
  suspect : Bool
  outcome : Option DigestOutcome
deriving DecidableEq, Repr

/-- The fault kinds (R177). -/
inductive FaultKind where
  | linkErrors
  | txOverrun
  | echoLost
  | numberConflict
  | peerLapsed
  | digestSuspect
  | captureSilent
  | captureStuck
  | laneLoss
  | storeFull
  | horizonLimit
  | configDefaulted
  | overflow
deriving DecidableEq, Repr

/-- The subject of a fault (R177). -/
inductive FaultSubject where
  | none
  | station (s : Station)
  | lane (s : Station) (k : ProgLane)
deriving DecidableEq, Repr

/-- A fault by its kind and subject (R177). -/
structure FaultKey where
  kind : FaultKind
  subject : FaultSubject
deriving DecidableEq, Repr

/-- The verdict of a station-number conflict (R43, R44). -/
inductive Verdict where
  | won
  | lost
deriving DecidableEq, Repr

/-- A record of the fault list (R177). -/
structure FaultRecord where
  key : FaultKey
  detail : Option Verdict
  active : Bool
  firstBlock : Nat
  count : Nat
deriving DecidableEq, Repr

/-- The fault list, and the active marks that the raising blocks hold (R178). -/
structure Faults where
  list : List FaultRecord
  /-- The active mark of each kind and subject but NUMBER_CONFLICT. -/
  marks : List FaultKey
  /-- The NUMBER_CONFLICT mark, with its detail. -/
  conflict : Option Verdict
deriving DecidableEq, Repr

/-! ## The Panel Line and the Start-up Loader (10) -/

/-- States of the panel receive framer (R186). -/
inductive FramerState where
  | waitType
  | waitLength
  | payload
  | waitCheck
deriving DecidableEq, Repr

/-- The reasons of a refusal on the panel line (R197). -/
inductive RefusalReason where
  | badFrame
  | unknown
  | loading
  | range
  | setFull
  | conflict
  | notSettled
deriving DecidableEq, Repr

/-- The reports (R206). -/
inductive ReportKind where
  | status
  | peer
  | meter
  | fault
  | faults
  | refused
deriving DecidableEq, Repr

/-- A report in the queue: the payload of each frame it is sent as (R194). -/
structure Report where
  kind : ReportKind
  payloads : List (List Byte)
deriving DecidableEq, Repr

/-- The Panel Line. -/
structure Pnl where
  framer : FramerState
  /-- The type byte of the message in progress. -/
  msgType : Byte
  /-- The length byte of the message in progress. -/
  msgLength : Byte
  /-- The payload bytes received so far. -/
  msgPayload : List Byte
  discard : Bool
  /-- The idle timer, in byte-times, 0 to 2 (R186, log 16). -/
  idle : Nat
  /-- The selection set, in order of insertion (R188). -/
  selection : List (Station × ProgLane)
  reports : List Report
  reportsLost : Bool
  /-- The frames of the report the transmitter took last (R194). -/
  sending : List (List Byte)
deriving DecidableEq, Repr

/-- The configuration source (R195, R200). -/
inductive ConfigSource where
  | loading
  | loaded
  | defaulted
deriving DecidableEq, Repr

/-- The device and the Start-up Loader (R198 to R202). -/
structure Sul where
  serial : Serial
  own : Station
  role : Role
  source : ConfigSource
  /-- The bytes sent on CFG DO at the last load (R200). -/
  configCommand : List Byte
deriving DecidableEq, Repr

/-! ## The present moment (the model's own) -/

/-- A part of a block tick's work that is taken once at that tick. -/
inductive TickJob where
  | capture
  | notice
  | echoLost
  | txQuiet
  | cleanBlocks
  | storeQuiet
  | win
  | lagWindow
  | resyncTimer
  | meter
  | join (s : Station)
  | quiet (s : Station)
  | resyncSeen (s : Station)
deriving DecidableEq, Repr

/-- MODEL's own (log 1): what of the block tick and agreement instant at the present SC is still due. -/
structure Moment where
  /-- A block tick is due. -/
  tick : Bool
  /-- The jobs of that tick already taken by a command of their own. -/
  done : List TickJob
  /-- An agreement instant is due at the TAU's mode work. -/
  tauDue : Bool
  /-- Its trim word is due. -/
  trimDue : Bool
  /-- It is due at the Playout Unit. -/
  pluDue : Bool
  /-- It is due at Station Control. -/
  controlDue : Bool
  /-- An own K step took effect at this moment. -/
  stepped : Bool
deriving DecidableEq, Repr

/-! ## The whole -/

/-- The part: everything but the queue of commands. -/
structure Part where
  sul : Sul
  settings : Settings
  liu : Liu
  ptb : PeerTable
  tau : Tau
  cap : Cap
  ast : Ast
  plu : Plu
  mxe : Mxe
  imn : Vector DigestRecord 16
  faults : Faults
  pnl : Pnl
  moment : Moment
deriving DecidableEq, Repr

/-- The machine: the part, and the commands that wait, first in, first out. -/
structure State where
  pending : List Instr
  part : Part
deriving DecidableEq, Repr

/-- Faults that stop the machine. The spec has none: its own faults are records of the fault list, and
every command has an effect. No meaning answers one. -/
inductive Fault where
deriving DecidableEq, Repr

/-- Refusals. A meaning never answers one: a message refused on the panel line is a REFUSED report, which is state. -/
inductive Refusal where
  /-- Raised by exec's arm of a command that has no meaning yet (none is left); safe, since it only stops. -/
  | notModelled (mnemonic : String)
deriving DecidableEq, Repr

/-! ## Reset values, block by block -/

/-- The NOTICE count after reset and RESTART: one short of the period in FREE, so that a NOTICE falls due at
the first block tick (R11). DEDUCED (log 13). -/
def noticeCountReset : Nat := 19

/-- The LIU after RESTART (R21): `sequence` is kept, and LINK ABORT pulses if a frame was in progress (R10). -/
def Liu.restarted (l : Liu) : Liu :=
  { queue := [], tx := none, sequence := l.sequence, echoTable := [], echoDelay := none, echoCount := 0
    echoLostCount := 0, noticeCount := noticeCountReset, linkErrors := 0, strays := 0, txDropped := 0
    badFrames := [], cleanBlocks := 0, txQuiet := 0, rx := none, frameStore := [], overlength := false
    aborts := if l.tx.isSome then l.aborts + 1 else l.aborts }

/-- The LIU after power-on: the sequence counter 0 too (R22). -/
def Liu.reset : Liu :=
  { queue := [], tx := none, sequence := 0, echoTable := [], echoDelay := none, echoCount := 0
    echoLostCount := 0, noticeCount := noticeCountReset, linkErrors := 0, strays := 0, txDropped := 0
    badFrames := [], cleanBlocks := 0, txQuiet := 0, rx := none, frameStore := [], overlength := false
    aborts := 0 }

/-- The Peer Table after each kind of reset (R25). -/
def PeerTable.reset : PeerTable :=
  { records := Vector.replicate 16 PeerRecord.cleared, lagWindow := 0, winCount := 0 }

/-- The TAU after each kind of reset, SC and the trim words sent aside (R49, R66, R67): a word of 0 has been sent. -/
def Tau.restarted (t : Tau) : Tau :=
  { sc := t.sc, mode := .free, correction := 0, integral := 0, trim := 0, resyncTimer := 0, foundingCount := 0
    emptyRun := 0, largeRun := 0, trimWord := 0, trimWords := t.trimWords + 1 }

/-- The TAU after power-on (R49, R64). -/
def Tau.reset : Tau :=
  { sc := 0, mode := .free, correction := 0, integral := 0, trim := 0, resyncTimer := 0, foundingCount := 0
    emptyRun := 0, largeRun := 0, trimWord := 0, trimWords := 1 }

/-- A detector after each kind of reset (R80). -/
def Detector.reset : Detector :=
  { silent := false, quietRun := 0, loudRun := 0, stuck := false, held := 0, stuckRun := 0 }

/-- The sender digest record after each kind of reset and at entry to CONFLICT: no window, spoiled (R75). The sum and
the last block taken, of which R75 says nothing there, are 0 and none (DESIGN CHOICE, log 14). -/
def SenderDigest.reset : SenderDigest := { window := none, sum := 0, last := none, spoiled := true }

/-- CAP and Station Control after power-on (R80). -/
def Cap.reset : Cap :=
  { station := .loading, contribute := false, input := ⟨Vector.replicate 8 0, 0⟩, block := none
    detectors := Vector.replicate 8 Detector.reset, audio := none, talkParcel := none, session := .idle
    digest := SenderDigest.reset }

/-- The Alignment Store after each kind of reset (R105). -/
def Ast.reset : Ast := { buffers := [], free := Config.poolSize, notPlaying := 0, storeFull := 0, quiet := 0 }

/-- The samples of a lane at rest: 48 zeros (R123). -/
def silentBlock : List Sample := List.replicate 48 0

/-- A lane record after each kind of reset and at removal (R123, R133). -/
def LaneRecord.reset : LaneRecord :=
  { state := .idle, copy := silentBlock, silent := false, stuck := false, endSeen := false, mutedCount := 0 }

/-- The Playout Unit after each kind of reset (R110, R121, R123). -/
def Plu.reset : Plu :=
  { position := none, target := 0, slipPhase := 0, slipCount := 0
    lanes := Vector.replicate 16 (Vector.replicate 9 LaneRecord.reset), owed := none }

/-- Unity gain. -/
def unityGain : Nat := 32768

/-- A group after power-on (R147). -/
def MixGroup.reset : MixGroup :=
  { gain := unityGain, target := unityGain, slope := 10, shape := .linear, ramp := none }

/-- A matrix bank after power-on: groups 1 and 2 at 32,768 on every output, the others 0 (R152). -/
def MatrixBank.reset : MatrixBank :=
  Vector.replicate 8 (Vector.ofFn fun g : GroupIx => if g.val < 2 then unityGain else 0)

/-- A fallback switch after each kind of reset (R137). -/
def FallbackSwitch.reset : FallbackSwitch := { state := .onPrimary, inUse := none, clearRun := 0 }

/-- The Mix Engine after power-on (08, table after R167). -/
def Mxe.reset : Mxe :=
  { map := Vector.replicate 16 (Vector.replicate 8 .byRole)
    resolved := Vector.replicate 16 (Vector.replicate 8 0)
    silenced := Vector.replicate 16 false
    groups := Vector.replicate 8 MixGroup.reset
    active := MatrixBank.reset, pendingBank := MatrixBank.reset, takeCount := 0, crossfade := false
    duckLevel := unityGain, duckRamp := none
    dither := Vector.ofFn fun o : OutputNo => BitVec.ofNat 32 (1 + o.val)
    metersOn := false, meterCount := 0, peaks := Vector.replicate 8 0, clips := Vector.replicate 8 false
    clipCount := 0, fallback := Vector.replicate 16 (Vector.replicate 8 none)
    switches := Vector.replicate 16 (Vector.replicate 8 FallbackSwitch.reset)
    outputs := Vector.replicate 8 0 }

/-- A digest record cleared, while playout is not started (R176). -/
def DigestRecord.reset : DigestRecord := { entries := [], mismatchRun := 0, suspect := false, outcome := none }

/-- The fault list and the marks after power-on (R178, R184). -/
def Faults.reset : Faults := { list := [], marks := [], conflict := none }

/-- The Panel Line after power-on (R186, R188, R194). -/
def Pnl.reset : Pnl :=
  { framer := .waitType, msgType := 0, msgLength := 0, msgPayload := [], discard := false, idle := 0
    selection := [], reports := [], reportsLost := false, sending := [] }

/-- The moment after power-on: SC = 0 is a block tick and an agreement instant (R46). -/
def Moment.reset : Moment :=
  { tick := true, done := [], tauDue := true, trimDue := true, pluDue := true, controlDue := true, stepped := false }

/-- The station that the strap value names: strap value n is station number n + 1 (R199). -/
def stationOfStraps (straps : BitVec 4) : Station := ⟨straps.toNat, straps.isLt⟩

/-- The part after a power-on reset or a reset pin assertion with these straps and this serial (R198). The
settings stand at the role's defaults until the load supplies them (DESIGN CHOICE, log 12). -/
def Part.powerOn (serial : Serial) (straps : BitVec 4) (role : Role) : Part :=
  { sul := { serial := serial, own := stationOfStraps straps, role := role, source := .loading, configCommand := [] }
    settings := defaultSettings role
    liu := Liu.reset, ptb := PeerTable.reset, tau := Tau.reset, cap := Cap.reset, ast := Ast.reset
    plu := Plu.reset, mxe := Mxe.reset, imn := Vector.replicate 16 DigestRecord.reset
    faults := Faults.reset, pnl := Pnl.reset, moment := Moment.reset }

/-- The machine right after reset (R198), with nothing waiting. -/
def State.reset : State :=
  { pending := [], part := Part.powerOn Config.resetSerial Config.resetStraps Config.resetRole }

/-- The state with its part replaced. -/
def State.withPart (s : State) (p : Part) : State := { s with part := p }

end Sys2Proof.Machine
end

