-- ==== Sys2Proof/Machine/Arith.lean ====
section
/-!
DEFINITION. The arithmetic conventions of the manual (00_scope.md, "Conventions"): rounding, clamping,
saturating counts, and the modular comparison of counts and block numbers.
-/

namespace Sys2Proof.Machine

/-- The largest value of a 16-bit count (R23). -/
def max16 : Nat := 65535
/-- The largest value of a 32-bit count (R7). -/
def max32 : Nat := 4294967295

/-- A saturating count raised by k. -/
def satAdd (limit a k : Nat) : Nat := min (a + k) limit

/-- Division rounded toward zero ("truncated"). -/
def truncDiv (a b : Int) : Int := Int.tdiv a b

/-- Division rounded toward −∞ ("floored"). -/
def floorDiv (a b : Int) : Int := Int.fdiv a b

/-- Division by a positive b rounded to the nearest integer, ties away from zero ("nearest"). -/
def nearestDiv (a b : Int) : Int :=
  if 0 ≤ a then (2 * a + b) / (2 * b) else -((2 * -a + b) / (2 * b))

/-- A value clamped to a range. -/
def clampInt (lo hi x : Int) : Int := max lo (min hi x)

/-- A count clamped to a range. -/
def clampNat (lo hi x : Nat) : Nat := max lo (min hi x)

/-- The difference of two 48-bit quantities, taken modulo 2^48 and read as signed. -/
def diff48 (a b : SampleCount) : Int := (a - b).toInt

/-- The difference of two block numbers, taken modulo 2^32 and read as signed. -/
def diff32 (a b : BlockNo) : Int := (a - b).toInt

/-- Common time (SC + K) modulo 2^48 (R48). -/
def commonTime (sc : SampleCount) (k : Int) : SampleCount := sc + BitVec.ofInt 48 k

/-- The block number of a CT sample c: floor(c/48) modulo 2^32 (R48). -/
def blockOf (c : SampleCount) : BlockNo := BitVec.ofNat 32 (c.toNat / 48)

/-- The position of a CT sample within its block: c − 48 × floor(c/48). -/
def posInBlock (c : SampleCount) : Nat := c.toNat % 48

/-- SC/48, floored: a block number in SC (R15, R177). -/
def localBlock (sc : SampleCount) : Nat := sc.toNat / 48

/-- The window a block belongs to: floor(b/64) (R75, R168). -/
def windowOf (b : BlockNo) : Nat := b.toNat / 64

/-- The magnitude of a sample; that of −8,388,608 is 8,388,608 (R72). -/
def magnitude (x : Sample) : Nat := x.toInt.natAbs

/-- Saturation to the 24-bit sample range (R159). -/
def saturate24 (x : Int) : Int := clampInt (-8388608) 8388607 x

/-- A value of the sample range as a sample. -/
def sampleOf (x : Int) : Sample := BitVec.ofInt 24 x

/-- The sum of samples, each read as an unsigned 24-bit value, modulo 2^24 (R75, R170). -/
def sampleSum (xs : List Sample) : Sample := xs.foldl (· + ·) 0

/-- A scaled gain: value × gain / 32,768, floored (R158, R159). -/
def scale (x : Int) (gain : Nat) : Int := floorDiv (x * gain) 32768

/-- A crossfade across a block, at position i: to × i/48, truncated, plus from × (48 − i)/48, truncated
(R139, R154). -/
def crossfadeAt (i : Nat) (from_ to_ : Int) : Int :=
  truncDiv (to_ * i) 48 + truncDiv (from_ * (48 - (i : Int))) 48

/-- A vector with the entry at one index changed by a function. -/
def vmodify {α : Type} {n : Nat} (v : Vector α n) (i : Fin n) (f : α → α) : Vector α n :=
  v.set i.val (f v[i]) i.isLt

/-- A lane table with one entry replaced. -/
def laneSet {α : Type} (t : LaneTable α) (s : Station) (k : ProgLane) (x : α) : LaneTable α :=
  vmodify t s fun row => row.set k.val x k.isLt

/-- The sum of a function over a list. -/
def sumBy {α : Type} (f : α → Int) (xs : List α) : Int := xs.foldl (fun acc x => acc + f x) 0

/-- Every station. -/
def allStations : List Station := List.finRange 16
/-- Every programme lane. -/
def allProgLanes : List ProgLane := List.finRange 8
/-- Every lane. -/
def allLanes : List LaneNo := List.finRange 9

end Sys2Proof.Machine
end

