-- ==== Sys2Proof/Machine/Bytes.lean ====
section
/-!
DEFINITION. Numbers in bytes, the CRC and the layout of samples (R203), and the check byte of a panel frame (R185).
-/

namespace Sys2Proof.Machine

/-- A number in n bytes, most significant byte first (R203). -/
def beBytes : Nat → Nat → List Byte
  | 0, _ => []
  | n + 1, v => BitVec.ofNat 8 (v / 256 ^ n) :: beBytes n v

/-- A signed number in n bytes, two's complement, most significant byte first (R203). -/
def beInt (n : Nat) (v : Int) : List Byte := beBytes n (v % 256 ^ n).toNat

/-- A number in n bytes, least significant byte first: the CRC's order (R203). -/
def leBytes (n : Nat) (v : Nat) : List Byte := (beBytes n v).reverse

/-- The number that bytes spell, most significant byte first. -/
def beNat (bs : List Byte) : Nat := bs.foldl (fun acc b => acc * 256 + b.toNat) 0

/-- The number that bytes spell, least significant byte first. -/
def leNat (bs : List Byte) : Nat := beNat bs.reverse

/-- n bytes from an offset on. -/
def bytesAt (off n : Nat) (bs : List Byte) : List Byte := (bs.drop off).take n

/-- The number in n bytes from an offset on. -/
def numAt (off n : Nat) (bs : List Byte) : Nat := beNat (bytesAt off n bs)

/-- The byte at an offset, 0 past the end. -/
def byteAt (off : Nat) (bs : List Byte) : Byte := bs.getD off 0

/-- A mark as a byte: 01H set, 00H clear. -/
def markByte (b : Bool) : Byte := if b then 1 else 0

/-- One shift of the CRC register toward its least significant bit (R203). -/
def crcShift (r : BitVec 32) : BitVec 32 :=
  if r.getLsbD 0 then (r >>> 1) ^^^ 0xEDB88320#32 else r >>> 1

/-- One byte into the CRC register: exclusive-OR into the low 8 bits, then eight shifts (R203). -/
def crcByte (r : BitVec 32) (b : Byte) : BitVec 32 :=
  let x := r ^^^ b.zeroExtend 32
  crcShift (crcShift (crcShift (crcShift (crcShift (crcShift (crcShift (crcShift x)))))))

/-- The CRC of link frames and of the configuration record (R203). -/
def crc32 (bs : List Byte) : BitVec 32 := bs.foldl crcByte 0xFFFFFFFF#32 ^^^ 0xFFFFFFFF#32

/-- The CRC over bytes, as the 4 bytes that carry it (R203). -/
def crcBytes (bs : List Byte) : List Byte := leBytes 4 (crc32 bs).toNat

/-- The last four bytes carry the CRC of those before them (R14, R200). -/
def crcAgrees (bs : List Byte) : Bool :=
  (crc32 (bs.take (bs.length - 4))).toNat == leNat (bs.drop (bs.length - 4))

/-- The first `count` runs of n entries. -/
def chunks {α : Type} (n : Nat) : Nat → List α → List (List α)
  | 0, _ => []
  | count + 1, xs => xs.take n :: chunks n count (xs.drop n)

/-- A sample as its 3 bytes (R203). -/
def sampleBytes (x : Sample) : List Byte := beBytes 3 x.toNat

/-- The sample that 3 bytes spell (R203). -/
def sampleOfBytes (bs : List Byte) : Sample := BitVec.ofNat 24 (beNat bs)

/-- The payload of blocks: block by block, lane by lane, sample by sample (R3, R204). -/
def payloadBytes (blocks : List BlockLanes) : List Byte :=
  blocks.flatMap fun lanes => lanes.flatMap fun xs => xs.flatMap sampleBytes

/-- The blocks that a payload spells: span blocks of so many lanes of 48 samples (R204). -/
def blocksOfPayload (span lanes : Nat) (bs : List Byte) : List BlockLanes :=
  (chunks (144 * lanes) span bs).map fun block =>
    (chunks 144 lanes block).map fun lane => (chunks 3 48 lane).map sampleOfBytes

/-- The byte sum of a frame, modulo 256 (R185). -/
def byteSum (bs : List Byte) : Byte := bs.foldl (· + ·) 0

/-- A panel frame: type, length, payload and the check byte that makes the byte sum a multiple of 256 (R185). -/
def panelFrame (type : Byte) (payload : List Byte) : List Byte :=
  let front := type :: BitVec.ofNat 8 payload.length :: payload
  front ++ [0 - byteSum front]

/-- The code of a parcel kind (R204). -/
def ParcelKind.code : ParcelKind → Byte
  | .audio => 0x01
  | .talk => 0x02
  | .notice => 0x03

/-- The code of a slot role (R204). -/
def SlotRole.code : SlotRole → Byte
  | .none => 0x00
  | .comm => 0x01
  | .crowd => 0x02
  | .aux => 0x03

/-- The role that a code names (R204). -/
def slotRoleOfCode (b : Byte) : Option SlotRole :=
  if b = 0x00 then some .none else if b = 0x01 then some .comm
  else if b = 0x02 then some .crowd else if b = 0x03 then some .aux else none

/-- The code of a clock mode (R204). -/
def ClockMode.code : ClockMode → Byte
  | .free => 0x00
  | .acquiring => 0x01
  | .tracking => 0x02
  | .holdover => 0x03

/-- The clock mode that a code names (R204). -/
def clockModeOfCode (b : Byte) : Option ClockMode :=
  if b = 0x00 then some .free else if b = 0x01 then some .acquiring
  else if b = 0x02 then some .tracking else if b = 0x03 then some .holdover else none

/-- The code of a station state (R206; LISTENING and ON_AIR as R204). -/
def StationState.code : StationState → Byte
  | .loading => 0x00
  | .listening => 0x01
  | .onAir => 0x02
  | .conflict => 0x03

/-- The state that a NOTICE announces: ON_AIR, or LISTENING. In LOADING and CONFLICT no NOTICE is handed over, and
the next one is handed over in LISTENING (R5, R77, R204; DEDUCED, log 22). -/
def StationState.announcedCode (s : StationState) : Byte :=
  if s = .onAir then StationState.onAir.code else StationState.listening.code

/-- The code of a role strap (R206). -/
def roleCode : Role → Byte
  | .venue => 0x00
  | .gallery => 0x01

/-- The code of a configuration source (R206). -/
def ConfigSource.code : ConfigSource → Byte
  | .loading => 0x00
  | .loaded => 0x01
  | .defaulted => 0x02

/-- The code of a record state (R206). -/
def RecordState.code : RecordState → Byte
  | .absent => 0x00
  | .joining => 0x01
  | .present => 0x02
  | .lapsed => 0x03

/-- The code of a lane state (R206). -/
def LaneState.code : LaneState → Byte
  | .idle => 0x00
  | .playing => 0x01
  | .concealing n => BitVec.ofNat 8 (2 + n.val)
  | .muted => 0x06
  | .recovering => 0x07

/-- The code of a switch state (R206). -/
def SwitchState.code : SwitchState → Byte
  | .onPrimary => 0x00
  | .toFallback => 0x01
  | .onFallback => 0x02
  | .toPrimary => 0x03

/-- The code of an outcome; none is 00H (R206). -/
def outcomeCode : Option DigestOutcome → Byte
  | none => 0x00
  | some .agreed => 0x01
  | some .mismatch => 0x02
  | some .incomplete => 0x03

/-- The code of a map entry, as in ASSIGN (R205, R206). -/
def MapEntry.code : MapEntry → Byte
  | .byRole => 0xFF
  | .group g => BitVec.ofNat 8 g.val

/-- The code of a fault kind (R206). -/
def FaultKind.code : FaultKind → Byte
  | .linkErrors => 0x01
  | .txOverrun => 0x02
  | .echoLost => 0x03
  | .numberConflict => 0x04
  | .peerLapsed => 0x05
  | .digestSuspect => 0x06
  | .captureSilent => 0x07
  | .captureStuck => 0x08
  | .laneLoss => 0x09
  | .storeFull => 0x0A
  | .horizonLimit => 0x0B
  | .configDefaulted => 0x0C
  | .overflow => 0x0D

/-- The code of a verdict; none is 00H (R206). -/
def detailCode : Option Verdict → Byte
  | none => 0x00
  | some .won => 0x01
  | some .lost => 0x02

/-- The code of a refusal reason (R206). -/
def RefusalReason.code : RefusalReason → Byte
  | .badFrame => 0x01
  | .unknown => 0x02
  | .loading => 0x03
  | .range => 0x04
  | .setFull => 0x05
  | .conflict => 0x06
  | .notSettled => 0x07

/-- The type byte of a report (R206). -/
def ReportKind.code : ReportKind → Byte
  | .status => 0x81
  | .peer => 0x82
  | .meter => 0x83
  | .fault => 0x84
  | .faults => 0x85
  | .refused => 0x86

end Sys2Proof.Machine
end

