-- ==== Sys2Proof/Machine/Flags.lean ====
section
/-!
DEFINITION. The conditions and derived values that the rules read from the state: settled, valid, started,
expected, bad, the horizon H, the playout block pb, the fault line.
-/

namespace Sys2Proof.Machine

/-- A clock mode is settled when it is TRACKING or HOLDOVER (03, "Clock modes"). -/
def ClockMode.settled : ClockMode → Bool
  | .tracking => true
  | .holdover => true
  | _ => false

/-- A peer is settled (R37). -/
def PeerRecord.settled (r : PeerRecord) : Bool :=
  r.state == .present && (match r.announced with | some a => a.mode.settled | none => false) &&
    r.resyncSeen == 0 && decide (8 ≤ r.measurements)

/-- A record's lag peak Lpk (R42). -/
def PeerRecord.lagPeak (r : PeerRecord) : Nat := max r.lagCurrent r.lagPrevious

/-- The record of a station. -/
def Part.peer (p : Part) (s : Station) : PeerRecord := p.ptb.records[s]

/-- The settled peers. The self record is ABSENT, so it is never among them (R24). -/
def Part.settledPeers (p : Part) : List Station := allStations.filter fun s => (p.peer s).settled

/-- Own E is valid (R19). -/
def Liu.echoValid (l : Liu) : Bool := l.echoCount == 4

/-- E while it is valid. -/
def Liu.validEcho (l : Liu) : Option Nat := if l.echoValid then l.echoDelay else none

/-- The CT of the present sample period (R48). -/
def Part.now (p : Part) : SampleCount := commonTime p.tau.sc p.tau.correction

/-- The present local block number SC/48 (R177). -/
def Part.localBlock (p : Part) : Nat := Machine.localBlock p.tau.sc

/-- Playout is started (R110). -/
def Part.started (p : Part) : Bool := p.plu.position.isSome

/-- pb, the block number of the playout position, while playout is started (R110). -/
def Part.playBlock (p : Part) : Option BlockNo := p.plu.position.map blockOf

/-- H = CT − P, read as signed (R114). While this sample period's move of P is still due, CT has advanced
and P has not, so one sample is taken off: H stands as before the move (R117, R119; DEDUCED, log 28). -/
def Part.horizon (p : Part) : Int :=
  match p.plu.position with
  | none => 0
  | some pos => diff48 p.now pos - (if p.plu.owed.isSome then 1 else 0)

/-- The talk destination that a NOTICE announces (R82). -/
def TalkSession.announced : TalkSession → Option Byte
  | .idle => none
  | .starting _ => none
  | .opened d => some d
  | .ending d => some d
  | .switching d _ => some d

/-- A station is a peer: any station but this one. -/
def Part.isPeer (p : Part) (s : Station) : Bool := s != p.sul.own

/-- A TALK with this destination is addressed to this station (R91). -/
def Part.addressed (p : Part) (d : Nat) : Bool := d == p.sul.own.number || d == 0

/-- A lane is expected at an entry (R124). -/
def PeerRecord.expects (r : PeerRecord) (k : LaneNo) : Bool :=
  if k = talkLane then r.talkActive
  else match r.announced with
    | some a => decide (k.val < a.laneCount)
    | none => false

/-- The lane record of a station's lane. -/
def Plu.lane (u : Plu) (s : Station) (k : LaneNo) : LaneRecord := u.lanes[s][k]

/-- A lane is bad, as it stands after an entry (R136). -/
def LaneRecord.bad (r : LaneRecord) (suspect : Bool) : Bool :=
  r.silent || r.stuck || r.state == .muted || r.state == .idle || suspect

/-- The fallback lane that a map entry names; one that names its own lane is none (R135). -/
def fallbackNamed (entry : Option ProgLane) (own : ProgLane) : Option ProgLane :=
  if entry = some own then none else entry

/-- A fault without a subject. -/
def FaultKey.plain (k : FaultKind) : FaultKey := ⟨k, .none⟩

/-- A fault is active at the block that raises it: its mark is set (R178). -/
def Faults.isActive (f : Faults) (key : FaultKey) : Bool := f.marks.contains key

/-- The fault line FAULT is asserted exactly while the fault list is not empty (R182). -/
def Part.faultLine (p : Part) : Bool := !p.faults.list.isEmpty

/-- The contribute request is reported as pending (R77). -/
def Cap.pendingRequest (c : Cap) : Bool := c.contribute && c.station != .onAir

/-- The station hands parcels to the link: LISTENING or ON_AIR (R8). -/
def StationState.hands : StationState → Bool
  | .listening => true
  | .onAir => true
  | _ => false

/-- A job of the block tick that is due is still to be taken (log 1). -/
def Moment.jobDue (m : Moment) (j : TickJob) : Bool := m.tick && !m.done.contains j

/-- A job of the tick marked as taken (log 1). -/
def Moment.took (m : Moment) (j : TickJob) : Moment := { m with done := j :: m.done }

end Sys2Proof.Machine
end

