-- ==== Sys2Proof/Machine/Reports.lean ====
section
/-!
DEFINITION. The contents of the reports (R195, R196, R197), byte by byte as R206 lays them out.
-/

namespace Sys2Proof.Machine

/-- A serial that may be absent, in 6 bytes. -/
def serialBytes (s : Option Serial) : List Byte := beBytes 6 ((s.map BitVec.toNat).getD 0)

/-- The STATUS payload, 57 bytes (R195, R206). -/
def statusPayload (p : Part) : List Byte :=
  [BitVec.ofNat 8 p.sul.own.number, roleCode p.sul.role, p.sul.source.code, p.cap.station.code,
    markByte p.cap.pendingRequest, p.tau.mode.code] ++
  beInt 6 p.tau.correction ++ beInt 2 p.tau.trim ++ beInt 2 p.tau.integral ++
  beBytes 3 (p.liu.validEcho.getD 0xFFFFFF) ++
  [markByte p.started] ++ beInt 3 p.horizon ++ beBytes 2 (if p.started then p.plu.target else 0) ++
  beBytes 2 p.ast.free ++
  beBytes 4 p.liu.linkErrors ++ beBytes 4 p.liu.txDropped ++ beBytes 4 p.liu.strays ++
  beBytes 4 p.ast.notPlaying ++ beBytes 4 p.ast.storeFull ++ beBytes 4 p.plu.slipCount ++
  beBytes 4 p.mxe.clipCount ++
  [BitVec.ofNat 8 p.faults.list.length, markByte p.pnl.reportsLost]

/-- The STATUS report of the present state. -/
def statusReport (p : Part) : Report := ⟨.status, [statusPayload p]⟩

/-- The presence byte of a PEER report (R206). -/
def presenceByte (serial announced echo offset : Bool) : Byte :=
  (if serial then 1 else 0) + (if announced then 2 else 0) + (if echo then 4 else 0) + (if offset then 8 else 0)

/-- The announced values that follow the serial: station state, mode, E_B, H_B, C_B, roles, destination (R206). -/
def announcedBytes (r : PeerRecord) : List Byte :=
  match r.announced with
  | none => [0, 0] ++ beBytes 3 (r.echoDelay.getD 0) ++ List.replicate 13 0
  | some a =>
    [if a.onAir then StationState.onAir.code else StationState.listening.code, a.mode.code] ++
    beBytes 3 (r.echoDelay.getD 0) ++ beBytes 3 a.horizon ++ [BitVec.ofNat 8 a.laneCount] ++
    a.roles.toList.map SlotRole.code ++ [BitVec.ofNat 8 (a.talkDestination.getD 0xFF)]

/-- The switch state, fallback in use, map entry and resolved group of one programme lane (R206). -/
def laneMixBytes (m : Mxe) (s : Station) (k : ProgLane) : List Byte :=
  let w := m.switches[s][k]
  [w.state.code, match w.inUse with | some u => BitVec.ofNat 8 u.val | none => 0xFF,
    m.map[s][k].code, BitVec.ofNat 8 m.resolved[s][k].val]

/-- The PEER payload of a peer, 109 bytes (R196, R206). -/
def peerPayload (p : Part) (s : Station) : List Byte :=
  let r := p.peer s
  let d := p.imn[s]
  [presenceByte r.serial.isSome r.announced.isSome r.echoDelay.isSome r.offset.isSome,
    BitVec.ofNat 8 s.number, r.state.code] ++
  serialBytes r.serial ++ announcedBytes r ++
  [markByte r.talkActive + (if r.reseed then 2 else 0), BitVec.ofNat 8 r.resyncSeen] ++
  beBytes 2 r.lastSequence.toNat ++ beBytes 2 r.gapCount ++ beBytes 2 r.outOfOrder ++
  beBytes 6 r.lastHeard.toNat ++ beBytes 2 r.quietCount ++ beBytes 2 r.joinCount ++
  beInt 4 (r.offset.getD 0) ++ [BitVec.ofNat 8 r.measurements, BitVec.ofNat 8 r.outlierRun] ++
  beBytes 2 r.lagCurrent ++ beBytes 2 r.lagPrevious ++
  beBytes 2 r.late ++ beBytes 2 r.early ++ beBytes 2 r.duplicate ++ beBytes 2 r.format ++ beBytes 2 r.unsettled ++
  (allLanes.map fun k => (p.plu.lane s k).state.code) ++
  (allProgLanes.flatMap fun k => laneMixBytes p.mxe s k) ++
  [BitVec.ofNat 8 d.mismatchRun, markByte d.suspect, outcomeCode d.outcome]

/-- The roles that a NOTICE announces: slots C to 7 as NONE (R5). -/
def roleBytes (set : Settings) : List Byte :=
  allProgLanes.map fun k => if k.val < set.laneCount then set.roles[k].code else SlotRole.none.code

/-- The PEER payload for the own number: the own serial, the values the next NOTICE would carry, lanes and
switches as none, the own map entries as held, each resolved to 0 (R24, R196, R206; log 22). -/
def ownPeerPayload (p : Part) : List Byte :=
  [presenceByte true true p.liu.validEcho.isSome false, BitVec.ofNat 8 p.sul.own.number, RecordState.absent.code] ++
  serialBytes (some p.sul.serial) ++ [p.cap.station.announcedCode, p.tau.mode.code] ++
  beBytes 3 (p.liu.validEcho.getD 0) ++ beInt 3 p.horizon ++ [BitVec.ofNat 8 p.settings.laneCount] ++
  roleBytes p.settings ++ [p.cap.session.announced.getD 0xFF] ++
  List.replicate 38 0 ++ List.replicate 9 0xFF ++
  (allProgLanes.flatMap fun k => [0xFF, 0xFF, p.mxe.map[p.sul.own][k].code, 0]) ++
  List.replicate 3 0

/-- The PEER report of a station (R196). -/
def peerReport (p : Part) (s : Station) : Report :=
  ⟨.peer, [if s = p.sul.own then ownPeerPayload p else peerPayload p s]⟩

/-- The METER report: each output's peak and clip flag (R163, R206). -/
def meterReport (m : Mxe) : Report :=
  ⟨.meter, [(List.finRange 8).flatMap fun o : OutputNo => beBytes 3 m.peaks[o] ++ [markByte m.clips[o]]]⟩

/-- The subject's station and lane bytes (R206). -/
def subjectBytes : FaultSubject → List Byte
  | .none => [0, 0xFF]
  | .station s => [BitVec.ofNat 8 s.number, 0xFF]
  | .lane s k => [BitVec.ofNat 8 s.number, BitVec.ofNat 8 k.val]

/-- A fault record's 12 bytes (R206). -/
def faultBytes (r : FaultRecord) : List Byte :=
  [r.key.kind.code] ++ subjectBytes r.key.subject ++ [detailCode r.detail, if r.active then 0x01 else 0x02] ++
  beBytes 6 r.firstBlock ++ [BitVec.ofNat 8 r.count]

/-- The FAULT report of a record (R183). -/
def faultReport (r : FaultRecord) : Report := ⟨.fault, [faultBytes r]⟩

/-- The FAULTS report of the list: one frame, or two for more than 16 records (R197, R206). -/
def faultsReport (list : List FaultRecord) : Report :=
  let frame (position : Byte) (rs : List FaultRecord) : List Byte :=
    [BitVec.ofNat 8 list.length, position] ++ rs.flatMap faultBytes
  ⟨.faults,
    if list.length ≤ 16 then [frame 1 list] else [frame 1 (list.take 16), frame 17 (list.drop 16)]⟩

/-- The REFUSED report of a message type (R197, R206). -/
def refusedReport (reason : RefusalReason) (type : Byte) : Report := ⟨.refused, [[reason.code, type]]⟩

/-- The frames in which a report is sent (R185, R194). -/
def reportFrames (r : Report) : List (List Byte) := r.payloads.map (panelFrame r.kind.code)

end Sys2Proof.Machine
end

