-- ==== Sys2Proof/Machine/Ops.lean ====
section
/-!
DEFINITION. The operations that every block shares: emitting a report into the report queue (R194), and
raising and ending a fault at the fault list (R178 to R180). Each leaves every other block as it was.
-/

namespace Sys2Proof.Machine

/-! ## The report queue -/

/-- The queue with its oldest METER removed (R194). -/
def dropOldestMeter : List Report → List Report
  | [] => []
  | r :: rs => if r.kind = .meter then rs else r :: dropOldestMeter rs

/-- A report emitted (R194). -/
def Pnl.emit (q : Pnl) (r : Report) : Pnl :=
  if q.reports.length < Config.reportQueueLimit then { q with reports := q.reports ++ [r] }
  else if r.kind ≠ .meter ∧ q.reports.any (·.kind == .meter) then
    { q with reports := dropOldestMeter q.reports ++ [r], reportsLost := true }
  else { q with reportsLost := true }

/-- Reports emitted in order. -/
def Pnl.emitAll (q : Pnl) (rs : List Report) : Pnl := rs.foldl Pnl.emit q

/-- The part emits a report. -/
def Part.emit (r : Report) (p : Part) : Part := { p with pnl := p.pnl.emit r }

/-- The part emits the PEER report of a station, as the station stands (R196). -/
def Part.emitPeer (s : Station) (p : Part) : Part := p.emit (peerReport p s)

/-- The part emits a REFUSED report (R187). -/
def Part.refuse (reason : RefusalReason) (type : Byte) (p : Part) : Part := p.emit (refusedReport reason type)

/-! ## The fault list -/

/-- The fault list with the record of a key changed, and the changed records. -/
def updateRecord (key : FaultKey) (f : FaultRecord → FaultRecord) (list : List FaultRecord) : List FaultRecord :=
  list.map fun r => if r.key = key then f r else r

/-- The record of a key. -/
def findRecord (key : FaultKey) (list : List FaultRecord) : Option FaultRecord := list.find? (·.key == key)

/-- The list without its oldest ENDED record, or without its oldest record when none is ENDED (R180). -/
def displace (list : List FaultRecord) : List FaultRecord :=
  if list.any (!·.active) then list.eraseP (!·.active) else list.drop 1

/-- A fault list after an event, and the records whose FAULT reports the event emits. -/
abbrev ListChange := List FaultRecord × List FaultRecord

/-- A raise that finds the list full (R180). -/
def overflowRaise (block : Nat) (list : List FaultRecord) : ListChange :=
  match findRecord (FaultKey.plain .overflow) list with
  | some r =>
    let r' := { r with count := satAdd 255 r.count 1 }
    (updateRecord r.key (fun _ => r') list, [r'])
  | none =>
    let r : FaultRecord := ⟨FaultKey.plain .overflow, none, false, block, 1⟩
    (displace list ++ [r], [r])

/-- A raise at the fault list (R178): the present SC/48, the kind and subject, the detail, and whether the
raising rule counts a raise of an ACTIVE record as a recurrence. -/
def raiseRecord (block : Nat) (key : FaultKey) (detail : Option Verdict) (recurs : Bool)
    (list : List FaultRecord) : ListChange :=
  match findRecord key list with
  | some r =>
    let count := if r.active && !recurs then r.count else satAdd 255 r.count 1
    let r' := { r with active := true, detail := detail, count := count }
    (updateRecord key (fun _ => r') list, if r' = r then [] else [r'])
  | none =>
    if list.length < Config.faultListLimit then
      let r : FaultRecord := ⟨key, detail, true, block, 1⟩
      (list ++ [r], [r])
    else overflowRaise block list

/-- An end at the fault list (R179). An end with a detail acts only on a record of that detail. -/
def endRecord (key : FaultKey) (onlyDetail : Option Verdict) (list : List FaultRecord) : ListChange :=
  match findRecord key list with
  | some r =>
    if r.active ∧ (onlyDetail = none ∨ r.detail = onlyDetail) then
      let r' := { r with active := false }
      (updateRecord key (fun _ => r') list, [r'])
    else (list, [])
  | none => (list, [])

/-- A change of the fault list taken into the part, with its FAULT reports in order (R183). -/
def Part.withList (p : Part) (marks : List FaultKey) (conflict : Option Verdict) (c : ListChange) : Part :=
  { p with
    faults := { list := c.1, marks := marks, conflict := conflict }
    pnl := p.pnl.emitAll (c.2.map faultReport) }

/-- A fault raised when it is not active at its block; its mark is set (R178). -/
def Part.raiseFault (key : FaultKey) (p : Part) : Part :=
  p.withList (if p.faults.isActive key then p.faults.marks else p.faults.marks ++ [key]) p.faults.conflict
    (if p.faults.isActive key then (p.faults.list, [])
      else raiseRecord p.localBlock key none false p.faults.list)

/-- A fault ended when it is active at its block; its mark is cleared (R178, R179). -/
def Part.endFault (key : FaultKey) (p : Part) : Part :=
  p.withList (p.faults.marks.filter (· != key)) p.faults.conflict
    (if p.faults.isActive key then endRecord key none p.faults.list else (p.faults.list, []))

/-- Faults ended in order. -/
def Part.endFaults (keys : List FaultKey) (p : Part) : Part := keys.foldl (fun q k => q.endFault k) p

/-- CONFIG_DEFAULTED, raised and ended in one event (R179). -/
def Part.raiseConfigDefaulted (p : Part) : Part :=
  (p.raiseFault (FaultKey.plain .configDefaulted)).endFault (FaultKey.plain .configDefaulted)

/-- The NUMBER_CONFLICT fault's key: its subject is the own station number (R43). -/
def Part.conflictKey (p : Part) : FaultKey := ⟨.numberConflict, .station p.sul.own⟩

/-- NUMBER_CONFLICT raised with a verdict; a WON raise counts as a recurrence (R43, R44, R178). -/
def Part.raiseConflict (v : Verdict) (p : Part) : Part :=
  p.withList p.faults.marks (some v)
    (raiseRecord p.localBlock p.conflictKey (some v) (v == .won) p.faults.list)

/-- NUMBER_CONFLICT ended by the win count, while it is active with detail WON: an end with detail WON (R44, R179). -/
def Part.endConflictWon (p : Part) : Part :=
  p.withList p.faults.marks (if p.faults.conflict = some .won then none else p.faults.conflict)
    (if p.faults.conflict = some .won then endRecord p.conflictKey (some .won) p.faults.list
      else (p.faults.list, []))

/-- NUMBER_CONFLICT ended by RESTART, whatever its detail (R43, R44, R179). -/
def Part.endConflict (p : Part) : Part :=
  p.withList p.faults.marks none
    (if p.faults.conflict.isSome then endRecord p.conflictKey none p.faults.list else (p.faults.list, []))

/-- The keys of the faults that concern a station and a lane, or a station. -/
def laneLossKey (s : Station) (k : ProgLane) : FaultKey := ⟨.laneLoss, .lane s k⟩
def captureSilentKey (s : Station) (k : ProgLane) : FaultKey := ⟨.captureSilent, .lane s k⟩
def captureStuckKey (s : Station) (k : ProgLane) : FaultKey := ⟨.captureStuck, .lane s k⟩
def peerLapsedKey (s : Station) : FaultKey := ⟨.peerLapsed, .station s⟩
def digestSuspectKey (s : Station) : FaultKey := ⟨.digestSuspect, .station s⟩

/-! ## The work of a block tick -/

/-- A job of the block tick taken once, if it is due (log 1). -/
def Part.takeJob (j : TickJob) (work : Part → Part) (p : Part) : Part :=
  if p.moment.jobDue j then
    work { p with moment := p.moment.took j }
  else p

end Sys2Proof.Machine
end

