-- ==== Sys2Proof/Machine/Mix.lean ====
section
/-!
DEFINITION. The Mix Engine (07.7, 08): fallback switch decisions, the mix boundary, what a lane hands over and
the output arithmetic.
-/

namespace Sys2Proof.Machine

/-! ## Fallback switches -/

/-- A switch that completes the crossfade it was running (R138). -/
def FallbackSwitch.complete (w : FallbackSwitch) : FallbackSwitch :=
  match w.state with
  | .toFallback => { w with state := .onFallback }
  | .toPrimary => { w with state := .onPrimary, inUse := none }
  | _ => w

/-- A switch's decision at an entry (R138): the fallback lane the map names, whether the primary is bad, and
which lanes are bad. -/
def FallbackSwitch.decide (named : Option ProgLane) (primaryBad : Bool) (bad : ProgLane → Bool)
    (w : FallbackSwitch) : FallbackSwitch :=
  let v := w.complete
  match v.state with
  | .onFallback =>
    if named = none ∨ named ≠ v.inUse then { v with state := .toPrimary, clearRun := 0 }
    else if primaryBad then { v with clearRun := 0 }
    else if 100 ≤ v.clearRun + 1 then { v with state := .toPrimary, clearRun := 0 }
    else { v with clearRun := v.clearRun + 1 }
  | _ =>
    match named with
    | none => v
    | some f => if primaryBad && !bad f then ⟨.toFallback, some f, 0⟩ else v

/-- A programme lane of a station is bad, as it stands (R136). -/
def Part.laneBad (p : Part) (s : Station) (k : ProgLane) : Bool :=
  (p.plu.lane s k.lane).bad p.imn[s].suspect

/-- Every switch of every peer decides at an entry (R137, R138). -/
def Part.decideSwitches (p : Part) : Part :=
  { p with mxe := { p.mxe with
      switches := Vector.ofFn fun s : Station => Vector.ofFn fun k : ProgLane =>
        if p.isPeer s then
          FallbackSwitch.decide (fallbackNamed p.mxe.fallback[s][k] k) (p.laneBad s k) (p.laneBad s)
            p.mxe.switches[s][k]
        else p.mxe.switches[s][k] } }

/-! ## The mix boundary -/

/-- The group that a role resolves to (R144). -/
def roleGroup : SlotRole → Fin 9
  | .none => 0
  | .comm => 1
  | .crowd => 2
  | .aux => 3

/-- The group that a map entry resolves to (R144). -/
def resolveEntry (r : PeerRecord) (k : ProgLane) : MapEntry → Fin 9
  | .group g => g
  | .byRole => match r.announced with | some a => roleGroup a.roles[k] | none => 0

/-- A ramp's gain at ramp block k toward a target (R149). -/
def GroupRamp.valueAt (r : GroupRamp) (target k : Nat) : Nat :=
  let span : Int := (target : Int) - r.start
  match r.shape with
  | .linear => (r.start + truncDiv (span * k) r.length).toNat
  | .eased => (r.start + truncDiv (span * (3 * k ^ 2 * r.length - 2 * k ^ 3)) (r.length ^ 3)).toNat

/-- A group at a mix boundary: a running ramp advances, and ends at its target (R149). -/
def MixGroup.advance (g : MixGroup) : MixGroup :=
  match g.ramp with
  | none => g
  | some r =>
    let k := r.k + 1
    if r.length ≤ k then { g with gain := g.target, ramp := none }
    else { g with gain := r.valueAt g.target k, ramp := some { r with k := k } }

/-- A group ended at its target (R151). -/
def MixGroup.endRamp (g : MixGroup) : MixGroup :=
  match g.ramp with
  | none => g
  | some _ => { g with gain := g.target, ramp := none }

/-- The duck condition: a peer's talk lane stands in PLAYING or RECOVERING (R156). -/
def Part.duckCondition (p : Part) : Bool :=
  allStations.any fun s =>
    p.isPeer s && ((p.plu.lane s talkLane).state == .playing || (p.plu.lane s talkLane).state == .recovering)

/-- The duck ramp in force at a boundary with an aim: a new one when the aim differs from that of the ramp in
force, or when none is in force and the level differs from the aim (R156). -/
def duckRampFor (aim level : Nat) : Option DuckRamp → Option DuckRamp
  | some r => if r.aim = aim then some r else some ⟨level, aim, 0⟩
  | none => if level = aim then none else some ⟨level, aim, 0⟩

/-- The duck ramp's first or next step: the level and the ramp after it (R156). -/
def duckStep (level : Nat) : Option DuckRamp → Nat × Option DuckRamp
  | none => (level, none)
  | some r =>
    let k := r.k + 1
    if 10 ≤ k then (r.aim, none)
    else ((r.start + truncDiv (((r.aim : Int) - r.start) * k) 10).toNat, some { r with k := k })

/-- The duck level and ramp after a boundary (R156). -/
def Part.duckAfter (p : Part) : Nat × Option DuckRamp :=
  let aim := if p.duckCondition then p.settings.duckGain else unityGain
  duckStep p.mxe.duckLevel (duckRampFor aim p.mxe.duckLevel p.mxe.duckRamp)

/-- The take is decided: an odd count exchanges the banks (R153). -/
def Mxe.exchanges (m : Mxe) : Bool := m.takeCount % 2 == 1

/-- The mix boundary (R142): the map resolves (R144, R146), every ramp advances (R149), the take is decided
(R153, R154) and the duck level moves (R156). -/
def Part.mixBoundary (p : Part) : Part :=
  { p with mxe := { p.mxe with
      resolved := Vector.ofFn fun s : Station => Vector.ofFn fun k : ProgLane =>
        resolveEntry (p.peer s) k p.mxe.map[s][k]
      silenced := Vector.ofFn fun s : Station => p.isPeer s && p.imn[s].suspect
      groups := Vector.ofFn fun g : GroupIx => p.mxe.groups[g].advance
      active := if p.mxe.exchanges then p.mxe.pendingBank else p.mxe.active
      pendingBank := if p.mxe.exchanges then p.mxe.active else p.mxe.pendingBank
      takeCount := 0
      crossfade := p.mxe.exchanges && p.started
      duckLevel := p.duckAfter.1
      duckRamp := p.duckAfter.2 } }

/-! ## What a lane hands over -/

/-- The sample that a lane hands for position i (R128). -/
def LaneRecord.sampleAt (r : LaneRecord) (i : Nat) : Int :=
  let c := (r.copy.getD i 0).toInt
  match r.state with
  | .playing => c
  | .recovering => truncDiv (c * i) 48
  | .concealing n => truncDiv (c * (96 - (i : Int))) (96 * 2 ^ n.val)
  | .muted => 0
  | .idle => 0

/-- The sample that stands for a primary at position i (R137, R139). -/
def Part.switchSample (p : Part) (s : Station) (k : ProgLane) (i : Nat) : Int :=
  let own := (p.plu.lane s k.lane).sampleAt i
  let w := p.mxe.switches[s][k]
  let other := match w.inUse with
    | some u => (p.plu.lane s u.lane).sampleAt i
    | none => own
  match w.state with
  | .onPrimary => own
  | .toFallback => crossfadeAt i own other
  | .onFallback => other
  | .toPrimary => crossfadeAt i other own

/-- A programme lane's contribution to its group (R145, R146): none from the own number, 0 from a station held
digest-suspect at the last boundary. -/
def Part.contribution (p : Part) (s : Station) (k : ProgLane) (i : Nat) : Int :=
  if p.isPeer s && !p.mxe.silenced[s] then p.switchSample s k i else 0

/-! ## Output arithmetic -/

/-- The group sum G_g (R158). -/
def Part.groupSum (p : Part) (g : GroupIx) (i : Nat) : Int :=
  sumBy (fun s => sumBy (fun k =>
    if (p.mxe.resolved[s][k]).val = g.val + 1 then p.contribution s k i else 0) allProgLanes) allStations

/-- The scaled group value U_g (R158). -/
def Part.scaledGroup (p : Part) (g : GroupIx) (i : Nat) : Int := scale (p.groupSum g i) p.mxe.groups[g].gain

/-- The result of a bank for an output, from the scaled group values (R158). -/
def bankResult (scaled : GroupIx → Int) (bank : MatrixBank) (o : OutputNo) : Int :=
  sumBy (fun g => scale (scaled g) bank[o][g]) (List.finRange 8)

/-- The programme result, blended during a take crossfade (R154, R158). -/
def Part.programme (p : Part) (o : OutputNo) (i : Nat) : Int :=
  let scaled := fun g => p.scaledGroup g i
  if p.mxe.crossfade then
    crossfadeAt i (bankResult scaled p.mxe.pendingBank o) (bankResult scaled p.mxe.active o)
  else bankResult scaled p.mxe.active o

/-- The talk sum (R155). -/
def Part.talkSum (p : Part) (i : Nat) : Int :=
  sumBy (fun s => if p.isPeer s then (p.plu.lane s talkLane).sampleAt i else 0) allStations

/-- The value of an output before saturation: ducked, with the talk added (R159). -/
def Part.unsaturated (p : Part) (o : OutputNo) (i : Nat) : Int :=
  let set := p.settings.outputs[o]
  let b := p.programme o i
  (if set.duckOnTalk then scale b p.mxe.duckLevel else b) + (if set.talkReceive then p.talkSum i else 0)

/-- A value outside the 24-bit range is a clip (R159). -/
def isClip (x : Int) : Bool := decide (x < -8388608 ∨ 8388607 < x)

/-- The bits that a word length W takes off: 24 − W (R160). -/
def WordLength.dropped : WordLength → Nat
  | .w24 => 0
  | .w20 => 4
  | .w16 => 8

/-- One advance of a dither register (R161). -/
def ditherAdvance (r : BitVec 32) : BitVec 32 :=
  if r.getLsbD 0 then (r >>> 1) ^^^ 0x80200003#32 else r >>> 1

/-- An output draws dither: W below 24 and dither on (R161). -/
def OutputSetting.draws (o : OutputSetting) : Bool := o.dither && o.word != .w24

/-- The largest multiple of q not above x (R160). -/
def floorTo (q x : Int) : Int := floorDiv x q * q

/-- A saturated value reduced to the output's word length, with the register that dither is drawn from (R160, R161). -/
def reduceWord (o : OutputSetting) (register : BitVec 32) (x : Int) : Int :=
  let q : Int := 2 ^ o.word.dropped
  if o.draws then
    let first := ditherAdvance register
    let second := ditherAdvance first
    let r1 : Int := (first.toNat % 2 ^ o.word.dropped : Nat)
    let r2 : Int := (second.toNat % 2 ^ o.word.dropped : Nat)
    clampInt (-8388608) (8388608 - q) (floorTo q (x + r1 + r2 - (q - 1)))
  else floorTo q x

/-- The value y of an output at position i (R160). -/
def Part.outputValue (p : Part) (o : OutputNo) (i : Nat) : Int :=
  reduceWord p.settings.outputs[o] p.mxe.dither[o] (saturate24 (p.unsaturated o i))

/-- The output lines driven for the sample at P, with clips counted, dither drawn and meters kept (R158 to R163). -/
def Part.drive (p : Part) : Part :=
  match p.plu.position with
  | none => p
  | some pos =>
    let i := posInBlock pos
    let clip := fun o : OutputNo => isClip (p.unsaturated o i)
    { p with mxe := { p.mxe with
        outputs := Vector.ofFn fun o : OutputNo => sampleOf (p.outputValue o i)
        dither := Vector.ofFn fun o : OutputNo =>
          if p.settings.outputs[o].draws then ditherAdvance (ditherAdvance p.mxe.dither[o]) else p.mxe.dither[o]
        clipCount := satAdd max32 p.mxe.clipCount ((List.finRange 8).countP fun o => clip o)
        peaks := Vector.ofFn fun o : OutputNo =>
          if p.mxe.metersOn then max p.mxe.peaks[o] (p.outputValue o i).natAbs else p.mxe.peaks[o]
        clips := Vector.ofFn fun o : OutputNo => p.mxe.clips[o] || (p.mxe.metersOn && clip o) } }

/-- Every output line at 0 (R112, R162). -/
def Mxe.mute (m : Mxe) : Mxe := { m with outputs := Vector.replicate 8 0 }

/-- The meters cleared (R163, R164). -/
def Mxe.clearMeters (m : Mxe) : Mxe :=
  { m with meterCount := 0, peaks := Vector.replicate 8 0, clips := Vector.replicate 8 false }

/-- The meter count at a block tick (R163): not in LOADING (R164). At 20 a METER report is emitted and the
meters are cleared. -/
def Part.meterTick (p : Part) : Part :=
  if p.mxe.metersOn && p.cap.station != .loading then
    if 20 ≤ p.mxe.meterCount + 1 then { p.emit (meterReport p.mxe) with mxe := p.mxe.clearMeters }
    else { p with mxe := { p.mxe with meterCount := p.mxe.meterCount + 1 } }
  else p

/-- The Mix Engine after RESTART (R167, R140). -/
def Mxe.restarted (m : Mxe) : Mxe :=
  ({ m with
      groups := Vector.ofFn fun g : GroupIx => m.groups[g].endRamp
      crossfade := false
      duckLevel := unityGain
      duckRamp := none
      switches := Vector.replicate 16 (Vector.replicate 8 FallbackSwitch.reset)
      clipCount := 0 }).clearMeters.mute

end Sys2Proof.Machine
end

