-- ==== Sys2Proof/Machine/Operands.lean ====
section
/-!
DEFINITION. The forms in which the commands carry their operands: a received link frame (R12, R14, R204), the
body of a NOTICE (R33), the configuration record (R201, R207), and the fields of a panel message (R205).
-/

namespace Sys2Proof.Machine

/-! ## Link frames -/

/-- The kind that a code names (R204). -/
def parcelKindOfCode (b : Byte) : Option ParcelKind :=
  if b = 0x01 then some .audio else if b = 0x02 then some .talk
  else if b = 0x03 then some .notice else none

/-- A received parcel, by its fields (R1, R204). A NOTICE's body is kept as its 24 bytes. -/
structure RxParcel where
  kind : ParcelKind
  source : Station
  resync : Bool
  digestPresent : Bool
  endFlag : Bool
  sequence : SeqNo
  stamp : SampleCount
  firstBlock : BlockNo
  span : Nat
  laneCount : Nat
  destination : Nat
  laneFlags : List LaneFlags
  digest : Sample
  blocks : List BlockLanes
  notice : List Byte
deriving DecidableEq, Repr

/-- The length that a frame's kind, span, lane count and flags require (R14). -/
def requiredFrameLength (kind : ParcelKind) (span lanes : Nat) (digest : Bool) : Nat :=
  match kind with
  | .audio => 22 + lanes + 144 * span * lanes + (if digest then 3 else 0)
  | .talk => 23 + 144 * span
  | .notice => 46

/-- The flag bits of the header (R204). -/
def flagResync (bs : List Byte) : Bool := (byteAt 2 bs).getLsbD 0
def flagDigest (bs : List Byte) : Bool := (byteAt 2 bs).getLsbD 1
def flagEnd (bs : List Byte) : Bool := (byteAt 2 bs).getLsbD 2

/-- The checks of R14 in their order; none when the frame fails one, else its kind. -/
def checkFrame (overlength : Bool) (bs : List Byte) : Option ParcelKind :=
  if overlength then none
  else if bs.length < 22 then none
  else if !crcAgrees bs then none
  else match parcelKindOfCode (byteAt 0 bs) with
    | none => none
    | some kind =>
      let source := (byteAt 1 bs).toNat
      let span := (byteAt 15 bs).toNat
      let lanes := (byteAt 16 bs).toNat
      if source = 0 ∨ 16 < source then none
      else if kind ≠ .notice ∧ (span = 0 ∨ 4 < span) then none
      else if kind = .audio ∧ (lanes = 0 ∨ 8 < lanes) then none
      else if kind = .talk ∧ lanes ≠ 1 then none
      else if bs.length ≠ requiredFrameLength kind span lanes (flagDigest bs) then none
      else some kind

/-- A source number 1 to 16 as a station. -/
def stationOfNumber (n : Nat) : Station := ⟨(n - 1) % 16, Nat.mod_lt _ (by decide)⟩

/-- The flags that a lane-flag byte carries (R204). -/
def laneFlagsOfByte (b : Byte) : LaneFlags := ⟨b.getLsbD 0, b.getLsbD 1⟩

/-- The fields of a good frame of a kind (R204). -/
def readParcel (kind : ParcelKind) (bs : List Byte) : RxParcel :=
  let span := (byteAt 15 bs).toNat
  let lanes := (byteAt 16 bs).toNat
  let digest := kind == .audio && flagDigest bs
  let body := (bs.drop 18).take (bs.length - 22)
  { kind := kind
    source := stationOfNumber (byteAt 1 bs).toNat
    resync := flagResync bs
    digestPresent := digest
    endFlag := kind == .talk && flagEnd bs
    sequence := BitVec.ofNat 16 (numAt 3 2 bs)
    stamp := BitVec.ofNat 48 (numAt 5 6 bs)
    firstBlock := BitVec.ofNat 32 (numAt 11 4 bs)
    span := span
    laneCount := lanes
    destination := (byteAt 17 bs).toNat
    laneFlags := if kind = .audio then (body.take lanes).map laneFlagsOfByte else []
    digest := if digest then sampleOfBytes (bytesAt lanes 3 body) else 0
    blocks :=
      match kind with
      | .audio => blocksOfPayload span lanes (body.drop (if digest then lanes + 3 else lanes))
      | .talk => blocksOfPayload span 1 (body.drop 1)
      | .notice => []
    notice := if kind = .notice then body else [] }

/-- A frame that passes every check of R14, by its fields; none is a frame dropped. -/
def goodFrame (overlength : Bool) (bs : List Byte) : Option RxParcel :=
  (checkFrame overlength bs).map fun kind => readParcel kind bs

/-- The block numbers that a parcel carries, in order (R3). -/
def RxParcel.blockNumbers (x : RxParcel) : List BlockNo :=
  (List.range x.span).map fun i => x.firstBlock + BitVec.ofNat 32 i

/-- A NOTICE's serial (R204). -/
def noticeSerial (body : List Byte) : Serial := BitVec.ofNat 48 (numAt 0 6 body)

/-- The values of a good NOTICE body (R33). -/
structure NoticeValues where
  serial : Serial
  echoDelay : Option Nat
  announced : Announced
deriving DecidableEq, Repr

/-- The roles that eight bytes name; none when a byte names no role (R33). -/
def rolesOfBytes (bs : List Byte) : Option (Vector SlotRole 8) :=
  if (List.range 8).all fun i => (slotRoleOfCode (byteAt i bs)).isSome then
    some (Vector.ofFn fun i : Fin 8 => (slotRoleOfCode (byteAt i.val bs)).getD .none)
  else none

/-- A NOTICE's body when it is good: every field holds a value a sender can announce (R33). -/
def goodNotice (body : List Byte) : Option NoticeValues :=
  let serial := noticeSerial body
  let state := byteAt 6 body
  let echo := numAt 8 3 body
  let lanes := (byteAt 14 body).toNat
  let dest := (byteAt 23 body).toNat
  match clockModeOfCode (byteAt 7 body), rolesOfBytes (bytesAt 15 8 body) with
  | some mode, some roles =>
    if serial = 0 then none
    else if state ≠ 0x01 ∧ state ≠ 0x02 then none
    else if 65535 < echo ∧ echo ≠ 0xFFFFFF then none
    else if 8 < lanes then none
    else if 16 < dest ∧ dest ≠ 0xFF then none
    else some
      { serial := serial
        echoDelay := if echo = 0xFFFFFF then none else some echo
        announced :=
          { onAir := state == 0x02, mode := mode, horizon := numAt 11 3 body, laneCount := lanes
            roles := roles, talkDestination := if dest = 0xFF then none else some dest } }
  | _, _ => none

/-! ## The configuration record -/

/-- An on or off field; any other byte takes the default (R201, R207). -/
def switchField (b : Byte) (default : Bool) : Bool :=
  if b = 0x00 then false else if b = 0x01 then true else default

/-- A word length field (R207). -/
def wordField (b : Byte) (default : WordLength) : WordLength :=
  if b = 0x18 then .w24 else if b = 0x14 then .w20 else if b = 0x10 then .w16 else default

/-- An enumerated number: a value outside its set takes the default (R201). -/
def enumField (set : List Nat) (v default : Nat) : Nat := if set.contains v then v else default

/-- The settings of output o, four bytes at address 25 + 4 × o (R207). -/
def outputField (rec : List Byte) (d : OutputSetting) (o : OutputNo) : OutputSetting :=
  let a := 25 + 4 * o.val
  { word := wordField (byteAt a rec) d.word
    dither := switchField (byteAt (a + 1) rec) d.dither
    talkReceive := switchField (byteAt (a + 2) rec) d.talkReceive
    duckOnTalk := switchField (byteAt (a + 3) rec) d.duckOnTalk }

/-- The fields of a record whose CRC agrees, each clamped or defaulted for the role (R201, R207). -/
def readSettings (role : Role) (rec : List Byte) : Settings :=
  let d := defaultSettings role
  let c := clampNat 0 8 (byteAt 0 rec).toNat
  let hmin := clampNat 96 48000 (numAt 10 2 rec)
  { laneCount := c
    roles := Vector.ofFn fun i : Fin 8 =>
      if i.val < c then (slotRoleOfCode (byteAt (1 + i.val) rec)).getD d.roles[i] else .none
    span := enumField [1, 2, 4] (byteAt 9 rec).toNat d.span
    hmin := hmin
    hmax := clampNat hmin 48000 (numAt 12 2 rec)
    guardTime := clampNat 0 4800 (numAt 14 2 rec)
    slipRate := enumField [100, 250, 500, 1000] (numAt 16 2 rec) d.slipRate
    silenceThreshold := clampNat 1 8388607 (numAt 18 3 rec)
    silenceTime := clampNat 100 30000 (numAt 21 2 rec)
    duckGain := numAt 23 2 rec
    outputs := Vector.ofFn fun o : OutputNo => outputField rec d.outputs[o] o
    contributeAtStart := switchField (byteAt 57 rec) d.contributeAtStart }

/-- A record of all 00H or all FFH: a memory that does not answer (R200). -/
def blankRecord (rec : List Byte) : Bool := rec.all (· == 0x00) || rec.all (· == 0xFF)

/-- The record is usable: not blank, and its CRC agrees (R200). -/
def usableRecord (rec : List Byte) : Bool := !blankRecord rec && crcAgrees rec

/-- The 62 bytes that the loader takes (R207); an address past the bytes given reads 00H (log 26). -/
def configBytes (bs : List Byte) : List Byte := (List.range Config.configLength).map fun i => byteAt i bs

/-! ## Panel messages -/

/-- The length that each message type requires; none is an unknown type (R205). -/
def messageLength (type : Byte) : Option Nat :=
  if type = 0x01 then some 3 else if type = 0x02 then some 4 else if type = 0x03 then some 2
  else if type = 0x04 then some 1 else if type = 0x05 then some 1 else if type = 0x06 then some 4
  else if type = 0x07 then some 0 else if type = 0x08 then some 1 else if type = 0x09 then some 0
  else if type = 0x0A then some 1 else if type = 0x0B then some 1 else if type = 0x0C then some 2
  else if type = 0x0D then some 0 else if type = 0x0E then some 0 else none

/-- Tests 1, 2 and 3 of R187 on a complete frame; none when it passes them. -/
def frameRefusal (type length : Byte) (payload : List Byte) (check : Byte) : Option RefusalReason :=
  if byteSum (type :: length :: payload ++ [check]) ≠ 0 then some .badFrame
  else match messageLength type with
    | none => some .unknown
    | some n => if length.toNat = n then none else some .badFrame

/-- A group number 1 to 8 as an index (R190). -/
def groupOf (b : Byte) : Option GroupIx :=
  if h : 1 ≤ b.toNat ∧ b.toNat ≤ 8 then some ⟨b.toNat - 1, by omega⟩ else none

/-- An output number 0 to 7 (R190). -/
def outputOf (b : Byte) : Option OutputNo := if h : b.toNat < 8 then some ⟨b.toNat, h⟩ else none

/-- A station number 1 to 16 as a station (R188). -/
def stationOf (b : Byte) : Option Station :=
  if h : 1 ≤ b.toNat ∧ b.toNat ≤ 16 then some ⟨b.toNat - 1, by omega⟩ else none

/-- A programme lane 0 to 7 (R188). -/
def progLaneOf (b : Byte) : Option ProgLane := if h : b.toNat < 8 then some ⟨b.toNat, h⟩ else none

/-- The slope times (R190). -/
def slopeTimes : List Nat := [0, 1, 2, 10, 50, 100, 200, 500]

/-- A slope time when it is one of the eight (R190). -/
def slopeOf (t : BitVec 16) : Option Nat := if slopeTimes.contains t.toNat then some t.toNat else none

/-- A shape code (R205). -/
def shapeOf (b : Byte) : Option RampShape :=
  if b = 0x00 then some .linear else if b = 0x01 then some .eased else none

/-- An ASSIGN value: BY_ROLE or a group 0 to 8 (R189, R205). -/
def mapEntryOf (b : Byte) : Option MapEntry :=
  if b = 0xFF then some .byRole
  else if h : b.toNat < 9 then some (.group ⟨b.toNat, h⟩) else none

/-- A FALLBACK value: a lane 0 to 7, or none (R189, R205). -/
def fallbackOf (b : Byte) : Option (Option ProgLane) :=
  if b = 0xFF then some none else (progLaneOf b).map some

end Sys2Proof.Machine
end

