-- ==== Sys2Proof/Machine/Integrity.lean ====
section
/-!
DEFINITION. The Integrity Monitor's digest records (09, 9.1 to 9.4): window entries, fills, refusals, digests,
and the evaluation as playout leaves a window.
-/

namespace Sys2Proof.Machine

/-- A window entry as it begins (R168). -/
def WindowEntry.fresh (k : Nat) : WindowEntry :=
  { window := k, expected := none, sum := 0, fills := 0, spoiled := false }

/-- The windows with at least one block inside pb to pb + 1,023: 16 when pb is a multiple of 64, else 17 (R168). -/
def windowsFrom (pb : BlockNo) : List Nat :=
  (List.range (if pb.toNat % 64 = 0 then 16 else 17)).map fun i => (windowOf pb + i) % 2 ^ 26

/-- Entries begun afresh for the range at pb (R168). -/
def freshEntries (pb : BlockNo) : List WindowEntry := (windowsFrom pb).map WindowEntry.fresh

/-- The entries for the range at pb: those held whose window stays, through a function, and fresh ones for the
windows that enter. Entries whose window leaves are discarded. -/
def rangeEntries (pb : BlockNo) (kept : WindowEntry → WindowEntry) (old : List WindowEntry) : List WindowEntry :=
  (windowsFrom pb).map fun k =>
    match old.find? (·.window == k) with
    | some e => kept e
    | none => WindowEntry.fresh k

/-- An entry marked spoiled. -/
def WindowEntry.spoil (e : WindowEntry) : WindowEntry := { e with spoiled := true }

/-- A digest record of one station changed. -/
def Part.mapDigest (s : Station) (f : DigestRecord → DigestRecord) (p : Part) : Part :=
  { p with imn := vmodify p.imn s f }

/-- The digest record of every peer changed; the own number has none (R168). -/
def Part.mapDigests (f : DigestRecord → DigestRecord) (p : Part) : Part :=
  { p with imn := Vector.ofFn fun s : Station => if p.isPeer s then f p.imn[s] else p.imn[s] }

/-- An event applied to the entry of block b's window, if the record holds one (R169). -/
def DigestRecord.atBlock (b : BlockNo) (f : WindowEntry → WindowEntry) (d : DigestRecord) : DigestRecord :=
  { d with entries := d.entries.map fun e => if e.window = windowOf b then f e else e }

/-- The Integrity Monitor is told of the first fill of a lane (R98, R170). The fill count of an entry whose blocks are
filled again after a re-anchor back, which is spoiled, may pass R170's 512 (DESIGN CHOICE, log 49). -/
def Part.tellFill (s : Station) (b : BlockNo) (k : LaneNo) (x : StoredLane) (p : Part) : Part :=
  p.mapDigest s fun d =>
    if k = talkLane then d
    else d.atBlock b fun e =>
      { e with sum := e.sum + sampleSum x.samples, fills := e.fills + 1, spoiled := e.spoiled || x.resync }

/-- The Integrity Monitor is told of a refused block (R98, R171). -/
def Part.tellRefusal (s : Station) (b : BlockNo) (p : Part) : Part :=
  p.mapDigest s fun d => d.atBlock b WindowEntry.spoil

/-- The Integrity Monitor is told of a parcel refused as a whole, once for each block number it carries (R98, R171). -/
def Part.tellRefusals (s : Station) (bs : List BlockNo) (p : Part) : Part :=
  bs.foldl (fun q b => q.tellRefusal s b) p

/-- The digest applied to its window's entry (R172). -/
def WindowEntry.takeDigest (digest : Sample) (e : WindowEntry) : WindowEntry :=
  match e.expected with
  | none => { e with expected := some digest }
  | some d => if d = digest then e else e.spoil

/-- An AUDIO parcel's digest taken: it belongs to the window of the block numbered 64k + 63 that the parcel
carries, and is discarded when it carries none (R172). -/
def Part.takeParcelDigest (s : Station) (x : RxParcel) (p : Part) : Part :=
  if x.digestPresent then
    match x.blockNumbers.find? (fun b => b.toNat % 64 == 63) with
    | some b => p.mapDigest s fun d => d.atBlock b (·.takeDigest x.digest)
    | none => p
  else p

/-- The outcome of a window as playout leaves it, with the peer's C_B (R174). -/
def WindowEntry.evaluate (laneCount : Option Nat) (e : WindowEntry) : DigestOutcome :=
  match e.expected, laneCount with
  | some digest, some c =>
    if e.spoiled ∨ c = 0 ∨ e.fills ≠ 64 * c then .incomplete
    else if e.sum = digest then .agreed else .mismatch
  | _, _ => .incomplete

/-- An outcome taken into the record (R175). -/
def DigestRecord.takeOutcome (o : DigestOutcome) (d : DigestRecord) : DigestRecord :=
  match o with
  | .agreed => { d with mismatchRun := 0, suspect := false, outcome := some o }
  | .mismatch =>
    { d with
      mismatchRun := satAdd 3 d.mismatchRun 1
      suspect := d.suspect || decide (2 ≤ d.mismatchRun)
      outcome := some o }
  | .incomplete => { d with outcome := some o }

/-- DIGEST_SUSPECT follows the suspect flag (R175). -/
def Part.suspectFault (s : Station) (p : Part) : Part :=
  if p.imn[s].suspect then p.raiseFault (digestSuspectKey s) else p.endFault (digestSuspectKey s)

/-- One peer's entry for window k evaluated, if the record holds one (R174, R175). -/
def Part.evaluateStation (k : Nat) (p : Part) (s : Station) : Part :=
  if p.isPeer s then
    match p.imn[s].entries.find? (·.window == k) with
    | some e =>
      let c := (p.peer s).announced.map (·.laneCount)
      (p.mapDigest s (DigestRecord.takeOutcome (e.evaluate c))).suspectFault s
    | none => p
  else p

/-- Playout crosses from block pb into the next: the window left, if any, is evaluated at every peer and then
discarded, and entries for windows that enter the range begin (R168, R174). A window that a re-anchor back has brought
into range again is evaluated each time playout crosses out of it, though R174 also says once at most (DESIGN CHOICE,
log 51). -/
def Part.digestCrossing (pb pb' : BlockNo) (p : Part) : Part :=
  let q := if pb.toNat % 64 = 63 then allStations.foldl (Part.evaluateStation (windowOf pb)) p else p
  q.mapDigests fun d => { d with entries := rangeEntries pb' id d.entries }

/-- A re-anchor: entries whose window stays in range are spoiled, those that leave are discarded (R173). -/
def Part.digestReanchor (pb' : BlockNo) (p : Part) : Part :=
  p.mapDigests fun d => { d with entries := rangeEntries pb' WindowEntry.spoil d.entries }

/-- Playout starts: entries begin for the range at pb (R168). -/
def Part.digestStart (pb : BlockNo) (p : Part) : Part :=
  p.mapDigests fun d => { d with entries := freshEntries pb }

/-- A digest record cleared at removal (R176). While playout is started its entries begin afresh, so that the
record still holds one for each window in range, as R168 gives (DEDUCED, log 19). -/
def Part.clearDigest (s : Station) (p : Part) : Part :=
  p.mapDigest s fun _ =>
    { DigestRecord.reset with entries := match p.playBlock with | some pb => freshEntries pb | none => [] }

/-- The peer's announced C_B changes: every entry of the peer is spoiled (R173). -/
def Part.spoilDigest (s : Station) (p : Part) : Part :=
  p.mapDigest s fun d => { d with entries := d.entries.map WindowEntry.spoil }

end Sys2Proof.Machine
end

