-- ==== Sys2Proof/Machine/Store.lean ====
section
/-!
DEFINITION. The Alignment Store (05): the buffers in their canonical order, freeing, and the admission of a
parcel's blocks.
-/

namespace Sys2Proof.Machine

/-! ## The buffers -/

/-- A buffer's place: its peer, then its block number (R88). -/
def bufferKey (s : Station) (b : BlockNo) : Nat := s.val * 2 ^ 32 + b.toNat

def Buffer.key (x : Buffer) : Nat := bufferKey x.peer x.block

/-- The buffers' canonical form: keys strictly rising, so that no two buffers hold the same peer and block
number (R88), and in use plus free always 8,192 (R86). -/
abbrev Ast.wf (a : Ast) : Prop :=
  List.Pairwise (fun x y : Buffer => x.key < y.key) a.buffers ∧ a.free + a.buffers.length = Config.poolSize

/-- The buffer held for a peer's block (R88, R89). -/
def Ast.find (a : Ast) (s : Station) (b : BlockNo) : Option Buffer :=
  a.buffers.find? fun x => x.key == bufferKey s b

/-- What the store holds of a lane of a peer's block (R89). -/
def Ast.lane (a : Ast) (s : Station) (b : BlockNo) (k : LaneNo) : Option StoredLane :=
  match a.find s b with
  | some x => x.lanes[k]
  | none => none

/-- A buffer filed in its place. -/
def fileBuffer (x : Buffer) : List Buffer → List Buffer
  | [] => [x]
  | y :: ys => if x.key < y.key then x :: y :: ys else y :: fileBuffer x ys

/-- A buffer as taken from the free list: no lane present (R87). -/
def Buffer.empty (s : Station) (b : BlockNo) : Buffer := ⟨s, b, Vector.replicate 9 none⟩

/-- A free buffer taken and filed (R94). -/
def Ast.take (a : Ast) (s : Station) (b : BlockNo) : Ast :=
  { a with buffers := fileBuffer (Buffer.empty s b) a.buffers, free := a.free - 1 }

/-- A lane filled in a buffer, if it is absent there; a lane present is left as it is (R93, R95). -/
def Buffer.fill (k : LaneNo) (x : StoredLane) (buf : Buffer) : Buffer :=
  { buf with lanes := vmodify buf.lanes k fun held => if held.isSome then held else some x }

/-- A lane filled in the buffer held for a peer's block. -/
def Ast.fill (a : Ast) (s : Station) (b : BlockNo) (k : LaneNo) (x : StoredLane) : Ast :=
  { a with buffers := a.buffers.map fun buf => if buf.key = bufferKey s b then buf.fill k x else buf }

/-- Buffers returned to the free list (R99, R102, R103). -/
def Ast.release (a : Ast) (gone : Buffer → Bool) : Ast :=
  { a with
    buffers := a.buffers.filter fun x => !gone x
    free := a.free + (a.buffers.filter gone).length }

/-- Every buffer held for a block number returned (R99). -/
def Ast.releaseBlock (a : Ast) (b : BlockNo) : Ast := a.release (·.block == b)

/-- Every buffer of a peer returned (R102). -/
def Ast.releasePeer (a : Ast) (s : Station) : Ast := a.release (·.peer == s)

/-- A block number lies inside the window at pb (R88). -/
def inWindow (pb b : BlockNo) : Bool := decide ((b - pb).toNat < Config.windowBlocks)

/-- Every buffer outside the window at pb returned (R103). -/
def Ast.releaseOutside (a : Ast) (pb : BlockNo) : Ast := a.release fun x => !inWindow pb x.block

/-! ## Admission -/

/-- A station record changed. -/
def Part.mapPeer (s : Station) (f : PeerRecord → PeerRecord) (p : Part) : Part :=
  { p with ptb := { p.ptb with records := vmodify p.ptb.records s f } }

/-- The lanes that the j-th block of a parcel carries, with the marks they take (R95). -/
def RxParcel.fills (x : RxParcel) (resync : Bool) (j : Nat) : List (LaneNo × StoredLane) :=
  let lanes := x.blocks.getD j []
  match x.kind with
  | .audio =>
    (allProgLanes.filter fun k => k.val < x.laneCount).map fun k =>
      let f := x.laneFlags.getD k.val ⟨false, false⟩
      (k.lane, ⟨f.silent, f.stuck, resync, false, lanes.getD k.val []⟩)
  | .talk => [(talkLane, ⟨false, false, resync, x.endFlag && j + 1 == x.span, lanes.getD 0 []⟩)]
  | .notice => []

/-- One lane filled in a held buffer, and told when it is a first fill (R93, R98). -/
def Part.fillLane (s : Station) (b : BlockNo) (p : Part) (f : LaneNo × StoredLane) : Part :=
  if (p.ast.lane s b f.1).isSome then p
  else ({ p with ast := p.ast.fill s b f.1 f.2 }).tellFill s b f.1 f.2

/-- The lanes of a block filled in the buffer held for it (R93). -/
def Part.fillLanes (s : Station) (b : BlockNo) (fs : List (LaneNo × StoredLane)) (p : Part) : Part :=
  fs.foldl (Part.fillLane s b) p

/-- A STORE_FULL refusal (R94, R97). -/
def Part.refuseFull (s : Station) (b : BlockNo) (p : Part) : Part :=
  (({ p with ast := { p.ast with storeFull := satAdd max32 p.ast.storeFull 1, quiet := 0 } }).raiseFault
    (FaultKey.plain .storeFull)).tellRefusal s b

/-- One block of an admitted parcel, with the window at pb (R92, R93, R94). -/
def Part.admitBlock (s : Station) (pb b : BlockNo) (fs : List (LaneNo × StoredLane)) (p : Part) : Part :=
  if diff32 b pb < 0 then
    (p.mapPeer s fun r => { r with late := satAdd max16 r.late 1 }).tellRefusal s b
  else if 1023 < diff32 b pb then
    (p.mapPeer s fun r => { r with early := satAdd max16 r.early 1 }).tellRefusal s b
  else if (p.ast.find s b).isSome then p.fillLanes s b fs
  else if p.ast.free = 0 then p.refuseFull s b
  else ({ p with ast := p.ast.take s b }).fillLanes s b fs

/-- A lane that the block carries is already present in the buffer held for it (R93). -/
def Part.blockDuplicates (s : Station) (pb b : BlockNo) (fs : List (LaneNo × StoredLane)) (p : Part) : Bool :=
  decide (0 ≤ diff32 b pb ∧ diff32 b pb ≤ 1023) && fs.any fun f => (p.ast.lane s b f.1).isSome

/-- The blocks of an admitted parcel from the j-th on, and whether a lane was found present (R90, R93). -/
def Part.admitBlocks (s : Station) (pb : BlockNo) (x : RxParcel) : List Nat → Part × Bool → Part × Bool
  | [], acc => acc
  | j :: js, (p, dup) =>
    let b := x.firstBlock + BitVec.ofNat 32 j
    let fs := x.fills (p.tau.resyncTimer != 0) j
    Part.admitBlocks s pb x js (p.admitBlock s pb b fs, dup || p.blockDuplicates s pb b fs)

/-- The peer's duplicate count raised, once for the parcel (R93). -/
def Part.countDuplicate (s : Station) (r : Part × Bool) : Part :=
  if r.2 then r.1.mapPeer s fun q => { q with duplicate := satAdd max16 q.duplicate 1 } else r.1

/-- A parcel refused as a whole as NOT_PLAYING (R90, R96). -/
def Part.refuseNotPlaying (s : Station) (x : RxParcel) (p : Part) : Part :=
  ({ p with ast := { p.ast with notPlaying := satAdd max32 p.ast.notPlaying 1 } }).tellRefusals s x.blockNumbers

/-- A parcel refused as a whole as UNSETTLED (R90, R96). -/
def Part.refuseUnsettled (s : Station) (x : RxParcel) (p : Part) : Part :=
  (p.mapPeer s fun r => { r with unsettled := satAdd max16 r.unsettled 1 }).tellRefusals s x.blockNumbers

/-- A parcel refused as a whole as FORMAT (R90, R96). -/
def Part.refuseFormat (s : Station) (x : RxParcel) (p : Part) : Part :=
  (p.mapPeer s fun r => { r with format := satAdd max16 r.format 1 }).tellRefusals s x.blockNumbers

/-- The admission of an AUDIO or TALK parcel from a peer: the tests of 5.3 in their order (R90 to R95). -/
def Part.admitParcel (s : Station) (x : RxParcel) (p : Part) : Part :=
  if x.kind = .talk ∧ ¬p.addressed x.destination then p
  else match p.playBlock with
    | none => p.refuseNotPlaying s x
    | some pb =>
      if ¬p.tau.mode.settled then p.refuseNotPlaying s x
      else if ¬(p.peer s).settled then p.refuseUnsettled s x
      else if x.kind = .audio ∧ (p.peer s).announced.map (·.laneCount) ≠ some x.laneCount then p.refuseFormat s x
      else Part.countDuplicate s (Part.admitBlocks s pb x (List.range x.span) (p, false))

end Sys2Proof.Machine
end

