-- ==== Sys2Proof/Machine/Playout.lean ====
section
/-!
DEFINITION. The Playout Unit (06, 07): entries into a block, crossings, re-anchors, the move of P, the horizon
target, and the start of playout.
-/

namespace Sys2Proof.Machine

/-! ## Entries -/

/-- A lane at rest: IDLE, its copy 48 zeros, its muted count 0 (R127, R132). R127 names the copy alone: that the count
of a MUTED talk lane no longer expected is cleared too is the model's (DESIGN CHOICE, log 47). -/
def LaneRecord.toIdle (r : LaneRecord) : LaneRecord := { r with state := .idle, copy := silentBlock, mutedCount := 0 }

/-- The talk lane whose END was seen goes IDLE before it takes the entry (R132). -/
def LaneRecord.endTalk (k : LaneNo) (r : LaneRecord) : LaneRecord :=
  if k = talkLane ∧ r.endSeen = true ∧ (r.state = .playing ∨ r.state = .recovering) then r.toIdle else r

/-- A lane that finds itself present (R126). -/
def LaneRecord.enterPresent (expected : Bool) (x : StoredLane) (r : LaneRecord) : LaneRecord :=
  match r.state with
  | .playing | .recovering => { r with state := .playing, copy := x.samples }
  | .concealing _ | .muted => { r with state := .recovering, copy := x.samples, mutedCount := 0 }
  | .idle => if expected then { r with state := .recovering, copy := x.samples } else r

/-- A lane that finds itself absent (R127, R132). -/
def LaneRecord.enterAbsent (k : LaneNo) (expected : Bool) (r : LaneRecord) : LaneRecord :=
  match r.state with
  | .playing | .recovering => { r with state := .concealing 0 }
  | .concealing n =>
    if h : n.val < 3 then { r with state := .concealing ⟨n.val + 1, by omega⟩ }
    else if expected then { r with state := .muted, mutedCount := if k = talkLane then 1 else 0 }
    else r.toIdle
  | .muted =>
    if !expected then r.toIdle
    else if k = talkLane then
      if r.mutedCount < 100 then { r with mutedCount := r.mutedCount + 1 } else r.toIdle
    else r
  | .idle => r

/-- A lane's block flags and END seen, from what it finds (R125). -/
def LaneRecord.readFlags (k : LaneNo) (found : Option StoredLane) (r : LaneRecord) : LaneRecord :=
  match found with
  | some x => { r with silent := x.silent, stuck := x.stuck, endSeen := decide (k = talkLane) && x.endMark }
  | none => { r with silent := false, stuck := false, endSeen := false }

/-- A lane's entry into a block (R125): what the store holds of it there, and whether it is expected. -/
def LaneRecord.enter (k : LaneNo) (expected : Bool) (found : Option StoredLane) (r : LaneRecord) : LaneRecord :=
  let r' := (r.endTalk k).readFlags k found
  match found with
  | some x => r'.enterPresent expected x
  | none => r'.enterAbsent k expected

/-- Every lane of every peer takes one entry into block pb (R125). -/
def Part.enterLanes (pb : BlockNo) (p : Part) : Part :=
  { p with plu := { p.plu with
      lanes := Vector.ofFn fun s : Station => Vector.ofFn fun k : LaneNo =>
        if p.isPeer s then
          (p.plu.lane s k).enter k ((p.peer s).expects k) (p.ast.lane s pb k)
        else p.plu.lane s k } }

/-- LANE_LOSS of one programme lane, as it stands after an entry (R134). -/
def Part.laneLoss (p : Part) (x : Station × ProgLane) : Part :=
  if p.isPeer x.1 then
    if (p.plu.lane x.1 x.2.lane).state = .muted ∧ (p.peer x.1).expects x.2.lane = true ∧
        (p.peer x.1).state = .present then
      p.raiseFault (laneLossKey x.1 x.2)
    else p.endFault (laneLossKey x.1 x.2)
  else p

/-- Every station and programme lane, in order. -/
def allStreams : List (Station × ProgLane) := allStations.flatMap fun s => allProgLanes.map fun k => (s, k)

/-- LANE_LOSS of every programme lane after an entry (R134). -/
def Part.laneLosses (p : Part) : Part := allStreams.foldl Part.laneLoss p

/-- The Playout Unit enters block pb: the lanes, then the fallback switches, then the mix boundary (R125, R138, R142). -/
def Part.enterBlock (pb : BlockNo) (p : Part) : Part :=
  (p.enterLanes pb).laneLosses.decideSwitches.mixBoundary

/-! ## Moves of P -/

/-- P at a value. -/
def Part.setPosition (pos : SampleCount) (p : Part) : Part := { p with plu := { p.plu with position := some pos } }

/-- A crossing from the block of `old` into the block of `pos` (R99, R113, R174), with the order of the digest
evaluation and the entry's readers (R175). -/
def Part.crossTo (order : CrossOrder) (old pos : SampleCount) (p : Part) : Part :=
  let q := { p.setPosition pos with ast := p.ast.releaseBlock (blockOf old) }
  match order with
  | .evaluationFirst => (q.digestCrossing (blockOf old) (blockOf pos)).enterBlock (blockOf pos)
  | .readersFirst => (q.enterBlock (blockOf pos)).digestCrossing (blockOf old) (blockOf pos)

/-- A re-anchor of P to a value (R103, R120, R173). -/
def Part.reanchorTo (pos : SampleCount) (p : Part) : Part :=
  (({ p with
      plu := { p.plu with position := some pos, slipPhase := 0 }
      ast := p.ast.releaseOutside (blockOf pos) }).digestReanchor (blockOf pos)).enterBlock (blockOf pos)

/-- P moved by a step from `old`: within its block, across into the next (R113), or past 2^48 − 1, which is
taken as a re-anchor to the value reached (R113). -/
def Part.moveBy (order : CrossOrder) (old : SampleCount) (step : Nat) (p : Part) : Part :=
  let pos := old + BitVec.ofNat 48 step
  if 2 ^ 48 ≤ old.toNat + step then p.reanchorTo pos
  else if blockOf pos = blockOf old then p.setPosition pos
  else p.crossTo order old pos

/-- The step of P at a slip decision: 0, 2 or 1 (R117). -/
def slipStep (h target : Int) : Nat := if h < target then 0 else if target < h then 2 else 1

/-- The move due is taken: the step, the slip count, any crossing, and the sample at P played (R113, R117). A slip of
2 that passes 2^48 − 1 is counted as a slip, though the re-anchor it is taken as keeps the count (DEDUCED, log 29). -/
def Part.takeMove (order : CrossOrder) (p : Part) : Part :=
  match p.plu.position, p.plu.owed with
  | some old, some m =>
    let step := match m with
      | .step => 1
      | .slip => slipStep p.horizon p.plu.target
    let slips := if step = 1 then p.plu.slipCount else satAdd max32 p.plu.slipCount 1
    (({ p with plu := { p.plu with owed := none, slipCount := slips } }).moveBy order old step).drive
  | _, _ => p

/-- The move of a sample period falls due (R113, R117): the slip phase advances, and at Q the period is a slip
decision. -/
def Part.oweMove (p : Part) : Part :=
  let phase := p.plu.slipPhase + 1
  let slip := decide (p.settings.slipRate ≤ phase)
  { p with plu := { p.plu with
      slipPhase := if slip then 0 else phase
      owed := some (if slip then .slip else .step) } }

/-! ## The horizon target and the start -/

/-- The raw target: the largest lag peak of the settled peers plus G; none with no settled peer (R115). -/
def Part.rawTarget (p : Part) : Option Nat :=
  if p.settledPeers.isEmpty then none
  else some ((p.settledPeers.map fun s => (p.peer s).lagPeak).foldl max 0 + p.settings.guardTime)

/-- The target formed, and HORIZON_LIMIT with it (R115, R116). -/
def Part.formTarget (p : Part) : Part :=
  match p.rawTarget with
  | none => p
  | some raw =>
    let q := { p with plu := { p.plu with target := clampNat p.settings.hmin p.settings.hmax raw } }
    if p.settings.hmax < raw then q.raiseFault (FaultKey.plain .horizonLimit)
    else q.endFault (FaultKey.plain .horizonLimit)

/-- The common time that lies Ht before the present: where a start or a re-anchor puts P (R112, R120). -/
def Part.anchor (p : Part) : SampleCount := p.now - BitVec.ofNat 48 p.plu.target

/-- Playout starts: the target, P = CT − Ht, the first entry, and the sample at P played (R112). -/
def Part.beginPlayout (p : Part) : Part :=
  let q := p.formTarget
  let q := { q with plu := { q.plu with position := some q.anchor, slipPhase := 0, owed := none } }
  ((q.digestStart (blockOf p.formTarget.anchor)).enterBlock (blockOf p.formTarget.anchor)).drive

/-- The Playout Unit finds the own mode settled and a peer settled, playout not started (R112). -/
def Part.canStart (p : Part) : Bool := !p.started && p.tau.mode.settled && !p.settledPeers.isEmpty

/-- The Playout Unit's turn at an agreement instant while playout is not started: it starts, or waits (R112). -/
def Part.startTurn (p : Part) : Part :=
  if p.moment.pluDue && !p.started then
    let q := { p with moment := { p.moment with pluDue := false } }
    if p.canStart then q.beginPlayout else q
  else p

/-- The Playout Unit's turn at an agreement instant while playout is started: the target (R115). -/
def Part.targetTurn (p : Part) : Part :=
  if p.moment.pluDue && p.started then
    ({ p with moment := { p.moment with pluDue := false } }).formTarget
  else p

/-- An own K step reaches the Playout Unit: P is kept, and a horizon outside 48 to 49,104 is re-anchored. A
move still due is then replaced by the re-anchor, and the sample at P is played (R119, R120). -/
def Part.stepPlayout (p : Part) : Part :=
  if p.started ∧ (p.horizon < 48 ∨ 49104 < p.horizon) then
    let q := ({ p with plu := { p.plu with owed := none } }).reanchorTo p.anchor
    if p.plu.owed.isSome then q.drive else q
  else p

end Sys2Proof.Machine
end

