-- ==== Sys2Proof/Machine/Peers.lean ====
section
/-!
DEFINITION. The Peer Table (02): removal, the taking of a parcel step by step, offsets, lags, the expiries at a
block tick, and the station-number conflict.
-/

namespace Sys2Proof.Machine

/-! ## Removal -/

/-- What the four other blocks do at a removal: the store frees, the lanes go IDLE, the switches return, the
digest record is cleared (R31, R102, R133, R140, R176). -/
def Part.clearStation (s : Station) (p : Part) : Part :=
  ({ p with
      ptb := { p.ptb with records := p.ptb.records.set s.val PeerRecord.cleared s.isLt }
      ast := p.ast.releasePeer s
      plu := { p.plu with lanes := p.plu.lanes.set s.val (Vector.replicate 9 LaneRecord.reset) s.isLt }
      mxe := { p.mxe with
        switches := p.mxe.switches.set s.val (Vector.replicate 8 FallbackSwitch.reset) s.isLt } }).clearDigest s

/-- The faults that a removal ends (R31, R134, R176). -/
def removalFaults (s : Station) : List FaultKey :=
  peerLapsedKey s :: allProgLanes.map (laneLossKey s) ++ [digestSuspectKey s]

/-- A record removed (R31): the PEER report carries the cleared record. -/
def Part.removePeer (s : Station) (p : Part) : Part :=
  ((p.clearStation s).emitPeer s).endFaults (removalFaults s)

/-! ## The steps of R26 -/

/-- A good NOTICE with a serial different from the one recorded removes the record first (R32). -/
def Part.serialChange (s : Station) (v : Option NoticeValues) (p : Part) : Part :=
  match v, (p.peer s).serial with
  | some n, some held => if n.serial = held then p else p.removePeer s
  | _, _ => p

/-- A record created from its first parcel (R27). -/
def PeerRecord.created (seq : SeqNo) (sc : SampleCount) : PeerRecord :=
  { PeerRecord.cleared with state := .joining, lastSequence := seq, lastHeard := sc }

/-- Presence (R26 step 1, R27, R30). -/
def Part.takePresence (s : Station) (seq : SeqNo) (sc : SampleCount) (p : Part) : Part :=
  match (p.peer s).state with
  | .absent => (p.mapPeer s fun _ => PeerRecord.created seq sc).emitPeer s
  | .lapsed =>
    ((p.mapPeer s fun r => { r with state := .present, lastHeard := sc, quietCount := 0 }).emitPeer s).endFault
      (peerLapsedKey s)
  | _ => p.mapPeer s fun r => { r with lastHeard := sc, quietCount := 0 }

/-- Sequence accounting (R35). -/
def PeerRecord.account (seq : SeqNo) (r : PeerRecord) : PeerRecord :=
  let d := (seq - r.lastSequence - 1).toNat
  if d = 0 then { r with lastSequence := seq }
  else if d ≤ 32767 then { r with lastSequence := seq, gapCount := satAdd max16 r.gapCount d }
  else { r with outOfOrder := satAdd max16 r.outOfOrder 1 }

/-- A RESYNC parcel loads the timer and sets the re-seed mark (R36). -/
def PeerRecord.hearResync (r : PeerRecord) : PeerRecord := { r with resyncSeen := 200, reseed := true }

/-- The block tick at the present SC is still to bring a record's RESYNC-seen timer to 0 (R36). -/
def Part.resyncSeenFalling (s : Station) (p : Part) : Bool :=
  p.moment.jobDue (.resyncSeen s) && (p.peer s).resyncSeen == 1

/-- A RESYNC parcel (R26 step 3). Taken before the tick that would bring the timer to 0, it leaves that tick
nothing to count: the timer is 200 after both (R36; log 36). -/
def Part.takeResync (s : Station) (p : Part) : Part :=
  let q := p.mapPeer s PeerRecord.hearResync
  if p.resyncSeenFalling s then { q with moment := { q.moment with done := .resyncSeen s :: q.moment.done } } else q

/-- The announced values of a good NOTICE replace those held (R33). -/
def PeerRecord.announce (v : NoticeValues) (r : PeerRecord) : PeerRecord :=
  { r with serial := some v.serial, echoDelay := v.echoDelay, announced := some v.announced }

/-- A new C_B differs from the one held (R33, R173; log 20). -/
def laneCountChanges (held : Option Announced) (v : NoticeValues) : Bool :=
  match held with
  | some a => a.laneCount != v.announced.laneCount
  | none => false

/-- A NOTICE is examined (R26 step 4, R28, R33). -/
def Part.takeNotice (s : Station) (v : Option NoticeValues) (p : Part) : Part :=
  match v with
  | none => p.mapPeer s fun r => { r with format := satAdd max16 r.format 1 }
  | some n =>
    let q := if laneCountChanges (p.peer s).announced n then p.spoilDigest s else p
    let q := q.mapPeer s (PeerRecord.announce n)
    if (p.peer s).state = .joining then (q.mapPeer s fun r => { r with state := .present }).emitPeer s else q

/-- The talk-active flag after a TALK (R34). A destination that names neither this station nor all clears it, a
byte above 16 as well as another station's number (DESIGN CHOICE, log 37). -/
def Part.talkFlagAfter (p : Part) (x : RxParcel) : Bool := p.addressed x.destination && !x.endFlag

/-- The talk-active flag after a good NOTICE (R34). -/
def Part.talkFlagAnnounced (p : Part) (v : NoticeValues) : Bool :=
  match v.announced.talkDestination with
  | some d => p.addressed d
  | none => false

/-- A TALK or a good NOTICE acts on the talk-active flag (R26 step 5, R34). -/
def Part.takeTalkFlag (s : Station) (x : RxParcel) (v : Option NoticeValues) (p : Part) : Part :=
  match x.kind, v with
  | .talk, _ => p.mapPeer s fun r => { r with talkActive := p.talkFlagAfter x }
  | .notice, some n => p.mapPeer s fun r => { r with talkActive := p.talkFlagAnnounced n }
  | _, _ => p

/-! ## Offset and lag -/

/-- The arrival CT: the stamp's SC with the K now in force (R38). -/
def Part.arrivalTime (p : Part) (st : ArrivalStamp) : SampleCount := commonTime st.sc p.tau.correction

/-- The raw offset θ, clamped (R38). -/
def rawOffset (e eb : Nat) (arrival stamp : SampleCount) : Int :=
  clampInt (-8388608) 8388607 (arrival - BitVec.ofNat 48 ((e + eb) / 2) - stamp).toInt

/-- The filter (R39): a measurement of 16θ against the record's F. -/
def PeerRecord.measure (theta : Int) (r : PeerRecord) : PeerRecord :=
  let m := 16 * theta
  match r.offset with
  | none => { r with offset := some m, measurements := 1, outlierRun := 0, reseed := false }
  | some f =>
    if r.reseed then
      { r with offset := some m, measurements := satAdd 255 r.measurements 1, outlierRun := 0, reseed := false }
    else if 8 ≤ r.measurements ∧ 7680 < (m - f).natAbs then
      if r.outlierRun < 3 then { r with outlierRun := r.outlierRun + 1 }
      else { r with offset := some m, measurements := satAdd 255 r.measurements 1, outlierRun := 0 }
    else
      { r with
        offset := some (f + floorDiv (m - f) 8)
        measurements := satAdd 255 r.measurements 1
        outlierRun := 0 }

/-- An offset measurement, when R38 allows it (R26 step 6). -/
def Part.takeOffset (s : Station) (st : ArrivalStamp) (stamp : SampleCount) (p : Part) : Part :=
  match p.liu.validEcho, (p.peer s).echoDelay with
  | some e, some eb =>
    if p.tau.mode = .free then p
    else p.mapPeer s (PeerRecord.measure (rawOffset e eb (p.arrivalTime st) stamp))
  | _, _ => p

/-- A lag sample ℓ (R41). -/
def lagSample (arrival : SampleCount) (firstBlock : BlockNo) (span : Nat) : Nat :=
  let n := diff32 (blockOf arrival) (firstBlock + BitVec.ofNat 32 span)
  (clampInt 0 65535 (48 * n + posInBlock arrival)).toNat

/-- A lag sample recorded, when R41 allows it (R26 step 7). -/
def Part.takeLag (s : Station) (x : RxParcel) (st : ArrivalStamp) (p : Part) : Part :=
  if x.kind ≠ .notice ∧ p.tau.mode.settled = true ∧ (p.peer s).settled = true then
    p.mapPeer s fun r =>
      { r with lagCurrent := max r.lagCurrent (lagSample (p.arrivalTime st) x.firstBlock x.span) }
  else p

/-- The parcel's blocks and its digest are handed on (R26 step 8, R172). -/
def Part.takeBlocks (s : Station) (x : RxParcel) (p : Part) : Part :=
  if x.kind = .notice then p else (p.admitParcel s x).takeParcelDigest s x

/-- A good parcel from a peer, taken as one event in the order of R26. -/
def Part.takeParcel (x : RxParcel) (st : ArrivalStamp) (p : Part) : Part :=
  let s := x.source
  let v := if x.kind = .notice then goodNotice x.notice else none
  let p := p.serialChange s v
  let isNew := decide ((p.peer s).state = .absent)
  let p := p.takePresence s x.sequence st.sc
  let p := if isNew then p else p.mapPeer s (PeerRecord.account x.sequence)
  let p := if x.resync then p.takeResync s else p
  let p := if x.kind = .notice then p.takeNotice s v else p
  let p := p.takeTalkFlag s x v
  let p := p.takeOffset s st x.stamp
  let p := p.takeLag s x st
  p.takeBlocks s x

/-! ## The own K step -/

/-- A record corrected for an own step of Δ (R40). -/
def PeerRecord.stepped (delta : Int) (r : PeerRecord) : PeerRecord :=
  { r with
    offset := r.offset.map fun f => clampInt (-134217728) 134217712 (f - 16 * delta)
    lagCurrent := (clampInt 0 65535 (r.lagCurrent - delta)).toNat
    lagPrevious := (clampInt 0 65535 (r.lagPrevious - delta)).toNat }

/-- Every peer record corrected for an own step of Δ (R40). An ABSENT record stays the cleared one, as R25, R31 and
R196 say of it (DEDUCED, log 38). -/
def Part.stepPeers (delta : Int) (p : Part) : Part :=
  { p with ptb := { p.ptb with
      records := Vector.ofFn fun s : Station =>
        if p.isPeer s && (p.peer s).state != .absent then (p.peer s).stepped delta else p.peer s } }

/-! ## Expiries at a block tick -/

/-- The station is not in LOADING, where the counts of block ticks do not advance. -/
def Part.running (p : Part) : Bool := p.cap.station != .loading

/-- The join count of a JOINING record at a block tick; at 1,000 the record is removed (R28). -/
def Part.joinTick (s : Station) (p : Part) : Part :=
  if p.running && (p.peer s).state == .joining then
    if 1000 ≤ (p.peer s).joinCount + 1 then p.removePeer s
    else p.mapPeer s fun r => { r with joinCount := r.joinCount + 1 }
  else p

/-- A PRESENT record lapses (R29). -/
def Part.lapsePeer (s : Station) (p : Part) : Part :=
  ((p.mapPeer s fun r => { r with state := .lapsed, quietCount := satAdd 5200 r.quietCount 1 }).emitPeer s).raiseFault
    (peerLapsedKey s)

/-- The quiet count of a PRESENT or LAPSED record at a block tick: at 200 it lapses, at 5,200 it is removed (R29, R30). -/
def Part.quietTick (s : Station) (p : Part) : Part :=
  if !p.running then p
  else match (p.peer s).state with
    | .present =>
      if 200 ≤ (p.peer s).quietCount + 1 then p.lapsePeer s
      else p.mapPeer s fun r => { r with quietCount := r.quietCount + 1 }
    | .lapsed =>
      if 5200 ≤ (p.peer s).quietCount + 1 then p.removePeer s
      else p.mapPeer s fun r => { r with quietCount := r.quietCount + 1 }
    | _ => p

/-- A RESYNC-seen timer at a block tick (R36). -/
def Part.resyncSeenTick (s : Station) (p : Part) : Part :=
  if p.running then p.mapPeer s fun r => { r with resyncSeen := r.resyncSeen - 1 } else p

/-- A record at a lag window end (R42). -/
def PeerRecord.endLagWindow (r : PeerRecord) : PeerRecord :=
  { r with lagPrevious := r.lagCurrent, lagCurrent := 0 }

/-- The lag window count at a block tick; at 1,000 every maximum moves (R42). -/
def Part.lagWindowTick (p : Part) : Part :=
  if p.running then
    if 1000 ≤ p.ptb.lagWindow + 1 then
      { p with ptb := { p.ptb with
          lagWindow := 0
          records := Vector.ofFn fun s : Station => (p.peer s).endLagWindow } }
    else { p with ptb := { p.ptb with lagWindow := p.ptb.lagWindow + 1 } }
  else p

/-- The win count at a block tick while the WON fault is active; at 5,000 the fault ends (R44). -/
def Part.winTick (p : Part) : Part :=
  if p.running ∧ p.faults.conflict = some .won then
    let q := { p with ptb := { p.ptb with winCount := satAdd 5000 p.ptb.winCount 1 } }
    if 5000 ≤ p.ptb.winCount + 1 then q.endConflictWon else q
  else p

/-- The store-full quiet count at a block tick while STORE_FULL is active; at 1,000 the fault ends (R97). -/
def Part.storeQuietTick (p : Part) : Part :=
  if p.running ∧ p.faults.isActive (FaultKey.plain .storeFull) = true then
    let q := { p with ast := { p.ast with quiet := satAdd 1000 p.ast.quiet 1 } }
    if 1000 ≤ p.ast.quiet + 1 then q.endFault (FaultKey.plain .storeFull) else q
  else p

end Sys2Proof.Machine
end

