-- ==== Sys2Proof/Machine/Link.lean ====
section
/-!
DEFINITION. The Link Interface Unit (01): the transmit queue, handover, aborts, the receive framer, echoes and
the counts of a block tick; and the loss of a station-number conflict, which it shares with CAP.
-/

namespace Sys2Proof.Machine

/-! ## The transmit queue -/

/-- A NOTICE placed behind every NOTICE queued and ahead of every AUDIO or TALK (R6). -/
def placeNotice (x : Parcel) (q : List Parcel) : List Parcel :=
  q.takeWhile (·.kind == .notice) ++ [x] ++ q.dropWhile (·.kind == .notice)

/-- A parcel placed in a queue that is not full (R6). -/
def placeParcel (x : Parcel) (q : List Parcel) : List Parcel :=
  if x.kind = .notice then placeNotice x q else q ++ [x]

/-- A full queue with room made for a new parcel, and the new parcel placed or discarded (R7). -/
def placeFull (x : Parcel) (q : List Parcel) : List Parcel :=
  if q.any (·.kind != .notice) then placeParcel x (q.eraseP (·.kind != .notice))
  else if x.kind = .notice then placeParcel x (q.drop 1)
  else q

/-- A parcel created: it joins the queue; at a full queue one is dropped, counted, and TX_OVERRUN raised (R6, R7). The
quiet count of the tick is then settled at 0: R7's 1,000 block ticks after an eviction are those that follow its tick. -/
def Part.enqueue (x : Parcel) (p : Part) : Part :=
  if p.liu.queue.length < Config.txQueueLimit then
    { p with liu := { p.liu with queue := placeParcel x p.liu.queue } }
  else
    ({ p with
      liu := { p.liu with
        queue := placeFull x p.liu.queue
        txDropped := satAdd max32 p.liu.txDropped 1
        txQuiet := 0 }
      moment := p.moment.took .txQuiet }).raiseFault (FaultKey.plain .txOverrun)

/-- A NOTICE as it waits in the queue: its body comes at handover (R1, R5). -/
def waitingNotice : Parcel :=
  { kind := .notice, firstBlock := 0, laneCount := 0, destination := 0, endFlag := false, digest := none
    laneFlags := [], blocks := [] }

/-- The NOTICE period of the own clock mode (R11). -/
def noticePeriod (m : ClockMode) : Nat := if m.settled then 100 else 20

/-- The NOTICE count at a block tick (R11). -/
def Part.noticeTick (p : Part) : Part :=
  if p.cap.station.hands then
    if noticePeriod p.tau.mode ≤ p.liu.noticeCount + 1 then
      ({ p with liu := { p.liu with noticeCount := 0 } }).enqueue waitingNotice
    else { p with liu := { p.liu with noticeCount := p.liu.noticeCount + 1 } }
  else p

/-! ## Handover -/

/-- A NOTICE's body, composed from the values the station holds (R5, R204). -/
def Part.noticeBody (p : Part) : List Byte :=
  beBytes 6 p.sul.serial.toNat ++ [p.cap.station.announcedCode, p.tau.mode.code] ++
  beBytes 3 (p.liu.validEcho.getD 0xFFFFFF) ++ beInt 3 p.horizon ++
  [BitVec.ofNat 8 p.settings.laneCount] ++
  roleBytes p.settings ++
  [p.cap.session.announced.getD 0xFF]

/-- The flags byte of a parcel (R1, R204). -/
def flagsByte (resync : Bool) (x : Parcel) : Byte :=
  (if resync then 1 else 0) + (if x.digest.isSome then 2 else 0) + (if x.endFlag then 4 else 0)

/-- A lane-flag byte (R204). -/
def LaneFlags.byte (f : LaneFlags) : Byte := (if f.silent then 1 else 0) + (if f.stuck then 2 else 0)

/-- A parcel's body (R3, R4, R5, R204); a NOTICE's is given. -/
def parcelBody (noticeBody : List Byte) (x : Parcel) : List Byte :=
  match x.kind with
  | .audio =>
    x.laneFlags.map LaneFlags.byte ++ (match x.digest with | some d => sampleBytes d | none => []) ++
    payloadBytes x.blocks
  | .talk => 0 :: payloadBytes x.blocks
  | .notice => noticeBody

/-- The header of a parcel handed over (R1, R204). -/
def headerBytes (own : Station) (x : Parcel) (seq : SeqNo) (stamp : SampleCount) (resync : Bool) : List Byte :=
  [x.kind.code, BitVec.ofNat 8 own.number, flagsByte resync x] ++ beBytes 2 seq.toNat ++
  beBytes 6 stamp.toNat ++ beBytes 4 x.firstBlock.toNat ++
  [BitVec.ofNat 8 x.blocks.length, BitVec.ofNat 8 x.laneCount, x.destination]

/-- All the bytes of a frame: header, body, CRC (R204). -/
def frameBytes (header body : List Byte) : List Byte := header ++ body ++ crcBytes (header ++ body)

/-- The echo table without the entry of a sequence number. -/
def dropEcho (seq : SeqNo) (t : List EchoEntry) : List EchoEntry := t.filter fun e => e.sequence != seq

/-- An entry joins the echo table; at 16 the oldest leaves (R17). No two entries hold the same sequence number,
so an entry left over from 65,536 handovers before gives way (DEDUCED, log 34). -/
def joinEcho (x : EchoEntry) (t : List EchoEntry) : List EchoEntry :=
  let kept := dropEcho x.sequence t
  (if kept.length < Config.echoTableLimit then kept else kept.drop 1) ++ [x]

/-- A handover can begin: the transmitter IDLE, the queue not empty, the station LISTENING or ON_AIR (R8). -/
def Part.canHandOver (p : Part) : Bool :=
  p.liu.tx.isNone && !p.liu.queue.isEmpty && p.cap.station.hands

/-- The frame that a parcel becomes at its handover at this moment (R9). -/
def Part.frameOf (p : Part) (x : Parcel) : TxFrame :=
  let resync := p.tau.resyncTimer != 0
  { parcel := x, sequence := p.liu.sequence, stamp := p.now, resync := resync
    bytes := frameBytes (headerBytes p.sul.own x p.liu.sequence p.now resync) (parcelBody p.noticeBody x) }

/-- The handover of the head parcel's first byte (R2, R8, R9, R17). -/
def Part.handOver (p : Part) : Part :=
  match p.liu.queue with
  | [] => p
  | x :: rest =>
    { p with liu := { p.liu with
        queue := rest
        tx := some (p.frameOf x)
        sequence := p.liu.sequence + 1
        echoTable := joinEcho ⟨p.liu.sequence, p.tau.sc⟩ p.liu.echoTable } }

/-- The frame in progress aborted, its echo entry removed, and the queue emptied (R10). -/
def Liu.abort (l : Liu) : Liu :=
  match l.tx with
  | none => { l with queue := [] }
  | some f =>
    { l with
      queue := []
      tx := none
      echoTable := dropEcho f.sequence l.echoTable
      aborts := l.aborts + 1 }

/-! ## Receiving -/

/-- A frame dropped (R15): counted, recorded, and LINK_ERRORS raised when ten span fewer than 1,000 blocks. -/
def Part.dropFrame (st : ArrivalStamp) (p : Part) : Part :=
  let joined := p.liu.badFrames ++ [Machine.localBlock st.sc]
  let record := if Config.badFrameLimit < joined.length then joined.drop 1 else joined
  let q := { p with liu := { p.liu with
      linkErrors := satAdd max32 p.liu.linkErrors 1, badFrames := record, cleanBlocks := 0 } }
  if record.length = Config.badFrameLimit ∧
      ((record.getLastD 0 : Nat) : Int) - ((record.headD 0 : Nat) : Int) < 1000 then
    q.raiseFault (FaultKey.plain .linkErrors)
  else q

/-- A counted measurement e taken into E, and the ECHO_LOST count restarted (R19, R20). -/
def Liu.takeEcho (e : Nat) (l : Liu) : Liu :=
  let held : Int := l.echoDelay.getD e
  { l with
    echoDelay := some (if l.echoCount = 0 then e else (held + floorDiv ((e : Int) - held) 8).toNat)
    echoCount := min (l.echoCount + 1) 4
    echoLostCount := 0 }

/-- An own frame's echo, or a stray (R16, R17, R18, R20). -/
def Part.takeOwnFrame (seq : SeqNo) (st : ArrivalStamp) (p : Part) : Part :=
  match p.liu.echoTable.find? (·.sequence == seq) with
  | none => { p with liu := { p.liu with strays := satAdd max32 p.liu.strays 1 } }
  | some entry =>
    let l := { p.liu with echoTable := dropEcho seq p.liu.echoTable }
    let e := (st.sc - entry.sc).toNat
    if 65535 < e then { p with liu := l }
    else ({ p with liu := l.takeEcho e }).endFault (FaultKey.plain .echoLost)

/-- The station enters CONFLICT: the queue emptied and the frame aborted (R10), the parcels in assembly
discarded, the talk session ended with no END, the digest record spoiled (R79). -/
def Part.enterConflict (p : Part) : Part :=
  { p with
    liu := p.liu.abort
    cap := { p.cap with
      station := .conflict, audio := none, talkParcel := none, session := .idle, digest := SenderDigest.reset } }

/-- An own-numbered NOTICE with a foreign serial (R43, R44). -/
def Part.takeConflict (body : List Byte) (p : Part) : Part :=
  match goodNotice body with
  | none => p
  | some v =>
    if p.cap.station = .conflict then p
    else if v.serial.toNat < p.sul.serial.toNat then (p.raiseConflict .lost).enterConflict
    else { p.raiseConflict .won with ptb := { p.ptb with winCount := 0 } }

/-- A good frame classified by its source (R16). -/
def Part.classify (x : RxParcel) (st : ArrivalStamp) (p : Part) : Part :=
  if x.source ≠ p.sul.own then p.takeParcel x st
  else if x.kind = .notice ∧ noticeSerial x.notice ≠ p.sul.serial then p.takeConflict x.notice
  else p.takeOwnFrame x.sequence st

/-- A frame begins: the arrival stamp captured, the frame store cleared (R12, R13). -/
def Liu.beginFrame (st : ArrivalStamp) (l : Liu) : Liu :=
  { l with rx := some st, frameStore := [], overlength := false }

/-- The frame store after a frame's bytes (R12). -/
def Liu.collect (bytes : List Byte) (l : Liu) : Liu :=
  { l with
    rx := none
    frameStore := bytes.take Config.frameStoreLimit
    overlength := decide (Config.frameStoreLimit < bytes.length) }

/-- A frame that has ended is checked, and dropped or classified (R12, R14). R12's discard in LOADING is decided at
the release: a frame begun in LOADING and released after LOAD_END is checked (DESIGN CHOICE, log 35). -/
def Part.endFrame (bytes : List Byte) (st : ArrivalStamp) (p : Part) : Part :=
  let q := { p with liu := p.liu.collect bytes }
  if q.cap.station = .loading then q
  else match goodFrame q.liu.overlength q.liu.frameStore with
    | none => q.dropFrame st
    | some x => q.classify x st

/-- The release of LINK RXFRAME ends the frame being collected, if there is one: the remainder of a frame
abandoned at a reset is not taken as a new frame (R12, R14). -/
def Part.releaseFrame (bytes : List Byte) (p : Part) : Part :=
  match p.liu.rx with
  | some st => p.endFrame bytes st
  | none => p

/-! ## The counts of a block tick -/

/-- The ECHO_LOST count at a block tick; at 500 E is made absent and ECHO_LOST is raised (R20). -/
def Part.echoTick (p : Part) : Part :=
  if p.cap.station.hands then
    let n := p.liu.echoLostCount + 1
    if n = 500 then
      ({ p with liu := { p.liu with echoLostCount := n, echoDelay := none, echoCount := 0 } }).raiseFault
        (FaultKey.plain .echoLost)
    else { p with liu := { p.liu with echoLostCount := n } }
  else p

/-- The TX_OVERRUN quiet count at a block tick while the fault is active; at 1,000 it ends (R7). -/
def Part.txQuietTick (p : Part) : Part :=
  if p.running ∧ p.faults.isActive (FaultKey.plain .txOverrun) = true then
    let q := { p with liu := { p.liu with txQuiet := satAdd 1000 p.liu.txQuiet 1 } }
    if 1000 ≤ p.liu.txQuiet + 1 then q.endFault (FaultKey.plain .txOverrun) else q
  else p

/-- The clean-block count at a block tick; when it reaches 1,000, LINK_ERRORS ends (R15). -/
def Part.cleanTick (p : Part) : Part :=
  if p.running ∧ p.liu.cleanBlocks < 1000 then
    let q := { p with liu := { p.liu with cleanBlocks := p.liu.cleanBlocks + 1 } }
    if p.liu.cleanBlocks + 1 = 1000 then q.endFault (FaultKey.plain .linkErrors) else q
  else p

end Sys2Proof.Machine
end

