-- ==== Sys2Proof/Machine/Capture.lean ====
section
/-!
DEFINITION. The Capture Unit and Station Control (04): the closing of a block at a block tick, the detectors,
parcel assembly, the sender digest, the talk session and the station state.
-/

namespace Sys2Proof.Machine

/-! ## Detectors -/

/-- The peak of a block (R72). -/
def blockPeak (xs : List Sample) : Nat := (xs.map magnitude).foldl max 0

/-- The release level: twice the silence threshold, limited to 8,388,607 (R72). -/
def Settings.releaseLevel (set : Settings) : Nat := min (2 * set.silenceThreshold) 8388607

/-- The SILENT detector takes a block's peak (R72). -/
def Detector.takePeak (set : Settings) (peak : Nat) (d : Detector) : Detector :=
  if !d.silent then
    if peak < set.silenceThreshold then
      if set.silenceTime ≤ d.quietRun + 1 then
        { d with silent := true, quietRun := d.quietRun + 1, loudRun := 0 }
      else { d with quietRun := d.quietRun + 1 }
    else { d with quietRun := 0 }
  else if set.releaseLevel ≤ peak then
    if 10 ≤ d.loudRun + 1 then { d with silent := false, quietRun := 0, loudRun := d.loudRun + 1 }
    else { d with loudRun := d.loudRun + 1 }
  else { d with loudRun := 0 }

/-- A block is uniform: all its samples are equal (R73). -/
def uniform (xs : List Sample) : Bool := xs.all (· == xs.headD 0)

/-- The STUCK detector takes a block (R73). -/
def Detector.takeUniform (xs : List Sample) (d : Detector) : Detector :=
  let v := xs.headD 0
  if uniform xs && v != 0 then
    if v = d.held ∧ 0 < d.stuckRun then
      let run := min (d.stuckRun + 1) 200
      { d with stuckRun := run, stuck := d.stuck || run == 200 }
    else { d with held := v, stuckRun := 1, stuck := false }
  else { d with stuckRun := 0, stuck := false }

/-- Both detectors of a lane take a block (R70 stage 2). -/
def Detector.take (set : Settings) (xs : List Sample) (d : Detector) : Detector :=
  (d.takePeak set (blockPeak xs)).takeUniform xs

/-! ## The block closed -/

/-- The samples of a block as closed: completed with samples of 0 when the wrap of SC cut it short (R69). -/
def CaptureBlock.closed (b : CaptureBlock) : List InputSample :=
  b.samples ++ List.replicate (48 - b.samples.length) ⟨Vector.replicate 8 0, 0⟩

/-- A programme lane's samples of a closed block. -/
def CaptureBlock.lane (b : CaptureBlock) (k : ProgLane) : List Sample := b.closed.map fun x => x.slots[k]

/-- The talk lane's samples of a closed block (R84). -/
def CaptureBlock.talk (b : CaptureBlock) : List Sample := b.closed.map (·.talk)

/-- The station's programme lanes 0 to C − 1 (R68). -/
def Settings.progLanes (set : Settings) : List ProgLane := allProgLanes.filter fun k => k.val < set.laneCount

/-- The programme lanes of a closed block (R71). -/
def CaptureBlock.programme (set : Settings) (b : CaptureBlock) : BlockLanes := set.progLanes.map b.lane

/-- The block sum over the programme lanes (R75). -/
def CaptureBlock.sum (set : Settings) (b : CaptureBlock) : Sample := sampleSum (b.programme set).flatten

/-- The block being closed is contributed: the station ON_AIR for the whole of its capture, and C at least 1 (R71). -/
def Part.contributes (p : Part) (b : CaptureBlock) : Bool :=
  b.onAir && p.cap.station == .onAir && p.settings.laneCount != 0

/-- The detectors of the programme lanes after the block (R70 stage 2). -/
def Part.detectorsAfter (p : Part) (b : CaptureBlock) : Vector Detector 8 :=
  Vector.ofFn fun k : ProgLane =>
    if k.val < p.settings.laneCount then p.cap.detectors[k].take p.settings (b.lane k) else p.cap.detectors[k]

/-- CAPTURE_SILENT and CAPTURE_STUCK of a lane follow its flags (R81). Of two raised together CAPTURE_SILENT is taken
first, of the two orders that R178 allows (DESIGN CHOICE, log 44). -/
def Part.detectorFaults (p : Part) (k : ProgLane) : Part :=
  let d := p.cap.detectors[k]
  let q := if d.silent then p.raiseFault (captureSilentKey p.sul.own k) else p.endFault (captureSilentKey p.sul.own k)
  if d.stuck then q.raiseFault (captureStuckKey p.sul.own k) else q.endFault (captureStuckKey p.sul.own k)

/-- The detectors take the block, with their faults (R70 stage 2, R81). -/
def Part.runDetectors (b : CaptureBlock) (p : Part) : Part :=
  allProgLanes.foldl Part.detectorFaults { p with cap := { p.cap with detectors := p.detectorsAfter b } }

/-! ## The sender digest -/

/-- The record takes a contributed block (R75); a block that began at a step's tick spoils its window (R76). A window
begun again at 64k, the blocks having come back to it after a step back, begins unspoiled (DESIGN CHOICE, log 42). A
window whose next block in number comes after a time off air goes on as it was (DESIGN CHOICE, log 43). -/
def SenderDigest.take (b : BlockNo) (sum : Sample) (afterStep : Bool) (r : SenderDigest) : SenderDigest :=
  if b.toNat % 64 = 0 then { window := some (windowOf b), sum := sum, last := some b, spoiled := afterStep }
  else if r.last = some (b - 1) ∧ r.window = some (windowOf b) then
    { r with sum := r.sum + sum, last := some b, spoiled := r.spoiled || afterStep }
  else { r with window := some (windowOf b), last := some b, spoiled := true }

/-- The digest that the block taken completes (R76). -/
def SenderDigest.completed (r : SenderDigest) (b : BlockNo) : Option Sample :=
  if b.toNat % 64 = 63 ∧ r.spoiled = false then some r.sum else none

/-! ## Assembly -/

/-- A block joins a parcel in assembly, or begins one (R71, R84). The wrap of CT, where numbers jump, is none of
R74's closing ticks, so a parcel runs across it (DESIGN CHOICE, log 40), and across the wrap of SC with K negative,
where a number comes twice (DESIGN CHOICE, log 50). -/
def joinAssembly (b : BlockNo) (dest : Byte) (lanes : BlockLanes) : Option Assembly → Assembly
  | none => ⟨b, dest, none, [lanes]⟩
  | some a => { a with blocks := a.blocks ++ [lanes] }

/-- A digest placed in a parcel in assembly (R76). -/
def Assembly.withDigest (d : Option Sample) (a : Assembly) : Assembly :=
  match d with
  | some x => { a with digest := some x }
  | none => a

/-- The AUDIO parcel that an assembly closes as, with the lane flags as they stand (R3, R71). -/
def Part.audioParcel (p : Part) (a : Assembly) : Parcel :=
  { kind := .audio, firstBlock := a.firstBlock, laneCount := p.settings.laneCount, destination := 0
    endFlag := false, digest := a.digest
    laneFlags := p.settings.progLanes.map fun k => ⟨p.cap.detectors[k].silent, p.cap.detectors[k].stuck⟩
    blocks := a.blocks }

/-- The TALK parcel that an assembly closes as (R4, R84). -/
def talkParcelOf (endFlag : Bool) (a : Assembly) : Parcel :=
  { kind := .talk, firstBlock := a.firstBlock, laneCount := 1, destination := a.destination
    endFlag := endFlag, digest := none, laneFlags := [], blocks := a.blocks }

/-- The AUDIO parcel in assembly closes, if there is one (R71, R74). -/
def Part.closeAudio (p : Part) : Part :=
  match p.cap.audio with
  | none => p
  | some a => ({ p with cap := { p.cap with audio := none } }).enqueue (p.audioParcel a)

/-- The TALK parcel in assembly closes, if there is one (R74, R84). -/
def Part.closeTalk (endFlag : Bool) (p : Part) : Part :=
  match p.cap.talkParcel with
  | none => p
  | some a => ({ p with cap := { p.cap with talkParcel := none } }).enqueue (talkParcelOf endFlag a)

/-- A contributed block joins the AUDIO parcel, and the sender digest takes it (R70 stage 3). -/
def Part.contributeBlock (b : CaptureBlock) (p : Part) : Part :=
  let r := p.cap.digest.take b.number (b.sum p.settings) b.afterStep
  let r := if p.moment.stepped then { r with spoiled := true } else r
  { p with cap := { p.cap with
      digest := r
      audio := some ((joinAssembly b.number 0 (b.programme p.settings) p.cap.audio).withDigest
        (r.completed b.number)) } }

/-- The destination whose session holds the block being closed (R84). -/
def TalkSession.holds : TalkSession → Option Byte
  | .opened d => some d
  | .ending d => some d
  | .switching d _ => some d
  | _ => none

/-- The session after a block tick (R84). -/
def TalkSession.advance : TalkSession → TalkSession
  | .idle => .idle
  | .starting d => .opened d
  | .opened d => .opened d
  | .ending _ => .idle
  | .switching _ d => .opened d

/-- The session ends or changes destination at this block tick, so that its parcel closes with END (R84). -/
def TalkSession.closing : TalkSession → Bool
  | .ending _ => true
  | .switching _ _ => true
  | _ => false

/-- The talk session takes the block and moves on, in LISTENING and ON_AIR (R70 stage 4, R84). -/
def Part.talkBlock (b : CaptureBlock) (p : Part) : Part :=
  if p.cap.station.hands then
    { p with cap := { p.cap with
        talkParcel := match p.cap.session.holds with
          | some d => some (joinAssembly b.number d [b.talk] p.cap.talkParcel)
          | none => p.cap.talkParcel } }
  else p

/-- A parcel in assembly holds S blocks (R71). -/
def assemblyFull (span : Nat) : Option Assembly → Bool
  | some a => decide (span ≤ a.blocks.length)
  | none => false

/-- The station leaves ON_AIR at this block tick: its request is clear (R78). -/
def Cap.leaves (c : Cap) : Bool := c.station == .onAir && !c.contribute

/-- The parcels due to close are closed (R70 stage 5, R71, R74, R84): the AUDIO joins the queue first, of the two
orders that R70 allows (DESIGN CHOICE, log 39). -/
def Part.closeParcels (p : Part) : Part :=
  let q := if assemblyFull p.settings.span p.cap.audio || p.moment.stepped || p.cap.leaves then p.closeAudio else p
  if p.cap.station.hands &&
      (assemblyFull p.settings.span p.cap.talkParcel || p.moment.stepped || p.cap.session.closing) then
    q.closeTalk p.cap.session.closing
  else q

/-- Station Control at a block tick: the session moves on (R84), and a station leaving ON_AIR is LISTENING (R78). -/
def Part.moveOn (p : Part) : Part :=
  { p with cap := { p.cap with
      session := if p.cap.station.hands then p.cap.session.advance else p.cap.session
      station := if p.cap.leaves then .listening else p.cap.station } }

/-- A new block begins with the sample taken at the tick, numbered by its CT; in LOADING none does (R69). At the wrap
of SC with K negative that formula gives the block after the wrap the number of the 16-sample block before it, though
R48 and R69 have numbers run on by one (DESIGN CHOICE, log 50). -/
def Part.openBlock (p : Part) : Part :=
  { p with cap := { p.cap with
      block := if p.running then
        some ⟨blockOf p.now, p.cap.station == .onAir, p.moment.stepped, [p.cap.input]⟩
      else none } }

/-- The closing of the block in capture: the stages of R70 in their order. -/
def Part.closeBlock (p : Part) : Part :=
  match p.cap.block with
  | none => p
  | some b =>
    let q := p.runDetectors b
    let q := if p.contributes b then q.contributeBlock b else q
    (q.talkBlock b).closeParcels

/-- CAP's work at a block tick, one operation (R70); at an agreement instant the step is known by then (R57, log 21). -/
def Part.captureTick (p : Part) : Part := p.closeBlock.moveOn.openBlock

/-! ## An own K step at the Capture Unit -/

/-- A step that closes block b and begins block b' spoils the window in progress when either block is of it (R76). -/
def SenderDigest.spoilAt (b : Option BlockNo) (b' : BlockNo) (r : SenderDigest) : SenderDigest :=
  if r.window = b.map windowOf ∨ r.window = some (windowOf b') then { r with spoiled := true } else r

/-- The digest of an AUDIO parcel in assembly is omitted when a step that closes block b and begins block b' spoils its
window (R57, R76): that of the parcel's first block, since a parcel holds at most four blocks, in number order. -/
def Assembly.spoilAt (b : Option BlockNo) (b' : BlockNo) (a : Assembly) : Assembly :=
  if some (windowOf a.firstBlock) = b.map windowOf ∨ windowOf a.firstBlock = windowOf b' then { a with digest := none }
  else a

/-- An own K step at the Capture Unit (R57): the windows of the block in capture, which this tick closes, and of the
block that begins with the new K are spoiled, and the parcel in assembly carries no digest of either. The closing of the
block finds the step and does the rest (R74, R76). A parcel already in the queue keeps its digest (DEDUCED, log 46). -/
def Part.stepCapture (p : Part) : Part :=
  let b := p.cap.block.map (·.number)
  { p with cap := { p.cap with
      digest := p.cap.digest.spoilAt b (blockOf p.now)
      audio := p.cap.audio.map (Assembly.spoilAt b (blockOf p.now)) } }

/-! ## Station Control -/

/-- A block held to begin ON_AIR or not. -/
def CaptureBlock.contributed (on : Bool) (b : CaptureBlock) : CaptureBlock := { b with onAir := on }

/-- Station Control's turn at an agreement instant (R77): the block that began at this tick is contributed. -/
def Part.controlTurn (p : Part) : Part :=
  if p.moment.controlDue then
    let q := { p with moment := { p.moment with controlDue := false } }
    if p.cap.station = .listening ∧ p.cap.contribute = true ∧ p.tau.mode.settled = true then
      { q with cap := { q.cap with
          station := .onAir
          block := if p.moment.jobDue .capture then p.cap.block
            else p.cap.block.map (CaptureBlock.contributed true) } }
    else q
  else p

/-- CAP and Station Control after RESTART, outside LOADING (R80). -/
def Cap.restarted (c : Cap) : Cap :=
  { c with
    station := .listening
    block := c.block.map (CaptureBlock.contributed false)
    detectors := Vector.replicate 8 Detector.reset
    audio := none, talkParcel := none, session := .idle, digest := SenderDigest.reset }

/-- A TALK to x acts on the session (R83). -/
def TalkSession.talkTo (x : Byte) : TalkSession → TalkSession
  | .idle => .starting x
  | .starting _ => .starting x
  | .opened d => if x = d then .opened d else .switching d x
  | .ending d => if x = d then .opened d else .switching d x
  | .switching d _ => if x = d then .opened d else .switching d x

/-- A TALK_OFF acts on the session (R83). -/
def TalkSession.talkOff : TalkSession → TalkSession
  | .idle => .idle
  | .starting _ => .idle
  | .opened d => .ending d
  | .ending d => .ending d
  | .switching d _ => .ending d

end Sys2Proof.Machine
end

