-- ==== Sys2Proof/Machine/Time.lean ====
section
/-!
DEFINITION. The Time Agreement Unit (03): the consensus, the work of each clock mode, steps, the trim update
and the trim output.
-/

namespace Sys2Proof.Machine

/-! ## The consensus -/

/-- The largest and the smallest value of a list. -/
def largest (xs : List Int) : Int := xs.foldl max (xs.headD 0)
def smallest (xs : List Int) : Int := xs.foldl min (xs.headD 0)

/-- The list with one largest and one smallest value removed when it holds 4 or more (R51). -/
def trimList (xs : List Int) : List Int :=
  if 4 ≤ xs.length then (xs.erase (largest xs)).erase (smallest xs) else xs

/-- The consensus error M of a list of offsets (R51). -/
def consensus (xs : List Int) : Int := truncDiv (sumBy id (trimList xs)) (trimList xs).length

/-- F of each peer in the settled set S (R50, R51). -/
def Part.settledOffsets (p : Part) : List Int := p.settledPeers.filterMap fun s => (p.peer s).offset

/-- M in ACQUIRING, and in TRACKING, where the station counts itself at 0 (R51). -/
def Part.acquiringError (p : Part) : Int := consensus p.settledOffsets
def Part.trackingError (p : Part) : Int := consensus (0 :: p.settledOffsets)

/-! ## Steps and trim -/

/-- The step that M sizes: 48 × nearest(M/768) (R56). -/
def stepSize (m : Int) : Int := 48 * nearestDiv m 768

/-- The limit of K on either side (R47). -/
def correctionLimit : Int := 140737488355296

/-- K after a step sized from M, left at a limit when the step would carry it beyond (R47, R56). -/
def correctionAfter (k m : Int) : Int := clampInt (-correctionLimit) correctionLimit (k - stepSize m)

/-- The TAU's own part of a step: K, the RESYNC timer, and T at I (R56). -/
def Tau.stepped (m : Int) (t : Tau) : Tau :=
  { t with correction := correctionAfter t.correction m, resyncTimer := 200, trim := t.integral }

/-- Δ as passed on: the change of K actually made (R47, R57). -/
def Tau.stepDelta (m : Int) (t : Tau) : Int := t.correction - correctionAfter t.correction m

/-- A step: Δ passes in the same event to the Peer Table, the Capture Unit and the Playout Unit (R56, R57). -/
def Part.takeStep (m : Int) (p : Part) : Part :=
  ((({ p with
      tau := p.tau.stepped m
      moment := { p.moment with stepped := true } }).stepPeers (p.tau.stepDelta m)).stepCapture).stepPlayout

/-- The limit of I and T on either side (R62, R65). -/
def trimLimit : Int := 10000

/-- The trim update: the integral term first, and the trim from it (R62). -/
def Tau.trimUpdate (m : Int) (t : Tau) : Tau :=
  let i := clampInt (-trimLimit) trimLimit (t.integral - truncDiv m 16)
  { t with integral := i, trim := clampInt (-trimLimit) trimLimit (i - 4 * m) }

/-! ## The work of each mode -/

/-- The TAU's registers changed. -/
def Part.mapTau (f : Tau → Tau) (p : Part) : Part := { p with tau := f p.tau }

/-- FREE (R52). -/
def Part.freeWork (p : Part) : Part :=
  if p.liu.echoValid then p.mapTau fun t => { t with mode := .acquiring, foundingCount := 0 } else p

/-- The founding limit: 20 plus the station number (R55). -/
def Part.foundingLimit (p : Part) : Nat := 20 + p.sul.own.number

/-- TRACKING entered from ACQUIRING, by founding or with a consensus (R54, R55). -/
def Tau.enterTracking (t : Tau) : Tau :=
  { t with mode := .tracking, foundingCount := 0, emptyRun := 0, largeRun := 0 }

/-- ACQUIRING: back to FREE (R53), toward founding (R55), or into TRACKING with a step when M calls for one (R54). -/
def Part.acquiringWork (p : Part) : Part :=
  if !p.liu.echoValid then p.mapTau fun t => { t with mode := .free, foundingCount := 0 }
  else if p.settledPeers.isEmpty then
    if p.foundingLimit ≤ p.tau.foundingCount + 1 then p.mapTau Tau.enterTracking
    else p.mapTau fun t => { t with foundingCount := t.foundingCount + 1 }
  else
    let q := p.mapTau Tau.enterTracking
    if 384 ≤ p.acquiringError.natAbs then q.takeStep p.acquiringError else q

/-- TRACKING's consensus work: a step at the third large error in a run, else the trim update (R61, R62). -/
def Part.consensusWork (p : Part) : Part :=
  let m := p.trackingError
  if 7680 ≤ m.natAbs then
    if 3 ≤ p.tau.largeRun + 1 then (p.mapTau fun t => { t with largeRun := 0 }).takeStep m
    else p.mapTau fun t => ({ t with largeRun := t.largeRun + 1 }).trimUpdate m
  else p.mapTau fun t => ({ t with largeRun := 0 }).trimUpdate m

/-- HOLDOVER entered: T takes I, which is frozen (R63). -/
def Tau.enterHoldover (t : Tau) : Tau :=
  { t with mode := .holdover, trim := t.integral, emptyRun := 0, largeRun := 0 }

/-- TRACKING: R59, then R60, then R61. -/
def Part.trackingWork (p : Part) : Part :=
  if !p.liu.echoValid then p.mapTau Tau.enterHoldover
  else if p.settledPeers.isEmpty then
    if 10 ≤ p.tau.emptyRun + 1 then p.mapTau Tau.enterHoldover
    else (p.mapTau fun t => { t with emptyRun := t.emptyRun + 1 }).consensusWork
  else (p.mapTau fun t => { t with emptyRun := 0 }).consensusWork

/-- HOLDOVER: back to TRACKING, or nothing (R63). The first instant back updates the trim with the large run at 0
throughout, so that a step needs three further large instants (DEDUCED, log 41). -/
def Part.holdoverWork (p : Part) : Part :=
  if p.liu.echoValid && !p.settledPeers.isEmpty then
    p.mapTau fun t => ({ t with mode := .tracking, largeRun := 0 }).trimUpdate p.trackingError
  else p

/-- The work of the clock mode (R50). -/
def Part.modeWork (p : Part) : Part :=
  match p.tau.mode with
  | .free => p.freeWork
  | .acquiring => p.acquiringWork
  | .tracking => p.trackingWork
  | .holdover => p.holdoverWork

/-- The TAU's mode work of the agreement instant, once at it; none in LOADING (R50). -/
def Part.tauWork (p : Part) : Part :=
  if p.moment.tauDue then
    let q := { p with moment := { p.moment with tauDue := false } }
    if p.running then q.modeWork else q
  else p

/-- A trim word that carries T (R64). -/
def Tau.sendTrim (t : Tau) : Tau :=
  { t with trimWord := BitVec.ofInt 16 t.trim, trimWords := t.trimWords + 1 }

/-- The trim word of the agreement instant, sent after the mode work (R64). -/
def Part.trimTurn (p : Part) : Part :=
  { p with tau := p.tau.sendTrim, moment := { p.moment with trimDue := false } }

/-- A held ordinary move of P, completed after an agreement instant's work (R119). -/
def Part.completeStep (p : Part) : Part :=
  if p.plu.owed = some .step then p.takeMove .evaluationFirst else p

/-- The agreement instant: the TAU's mode work and its trim word (R50, R64), and the Playout Unit's target (R115);
or the target alone, with the rest left to another command (log 6). -/
def Part.agreementWork (order : InstantOrder) (p : Part) : Part :=
  if p.moment.trimDue then
    match order with
    | .timeFirst => p.tauWork.trimTurn.targetTurn.completeStep
    | .playoutFirst => p.targetTurn.tauWork.trimTurn.completeStep
    | .targetOnly => p.targetTurn
  else p

/-! ## What reads CT at the tick of an agreement instant

R48: a reader that takes CT at the block tick of a step receives the CT formed with the new K. So the closing of a
block, a handover and an arrival first take the TAU's work of the instant, if it is still due (DEDUCED, log 21). -/

/-- CAP's work at a block tick, the step of an agreement instant known (R57, R70). -/
def Part.captureWork (p : Part) : Part := p.tauWork.captureTick

/-- A handover, if one can begin, stamped with the CT of the moment (R8, R9, R57). -/
def Part.handOverNow (p : Part) : Part := if p.canHandOver then p.tauWork.handOver else p

/-- An arrival begins, stamped with the SC and the CT of the moment (R12, R13, R57). -/
def Part.arrive (p : Part) : Part :=
  let q := p.tauWork
  { q with liu := q.liu.beginFrame ⟨q.tau.sc, q.now⟩ }

/-! ## The cases that have commands of their own -/

/-- The founding count reaches its limit at the instant due (R55). -/
def Part.foundingDue (p : Part) : Bool :=
  p.moment.tauDue && p.running && p.tau.mode == .acquiring && p.liu.echoValid && p.settledPeers.isEmpty &&
    decide (p.foundingLimit ≤ p.tau.foundingCount + 1)

/-- The empty run reaches 10 at the instant due (R60). -/
def Part.emptyRunDue (p : Part) : Bool :=
  p.moment.tauDue && p.running && p.tau.mode == .tracking && p.liu.echoValid && p.settledPeers.isEmpty &&
    decide (10 ≤ p.tau.emptyRun + 1)

/-- The large run reaches 3 at the instant due (R61). -/
def Part.largeRunDue (p : Part) : Bool :=
  p.moment.tauDue && p.running && p.tau.mode == .tracking && p.liu.echoValid &&
    (!p.settledPeers.isEmpty || decide (p.tau.emptyRun + 1 < 10)) &&
    decide (7680 ≤ p.trackingError.natAbs) && decide (3 ≤ p.tau.largeRun + 1)

/-- The RESYNC timer at a block tick (R58): not at the tick at which a step loads it. -/
def Part.resyncTick (p : Part) : Part :=
  if p.running && !p.moment.stepped then p.mapTau fun t => { t with resyncTimer := t.resyncTimer - 1 } else p

end Sys2Proof.Machine
end

