-- ==== Sys2Proof/Machine/Moment.lean ====
section
/-!
DEFINITION. The sample clock (R45, R46): what a block tick takes, what is left of a moment when the next sample
period begins, and the sample period itself. The order within a moment is the model's (log 1 to 7).
-/

namespace Sys2Proof.Machine

/-! ## Block ticks -/

/-- A NOTICE falls due at the tick; a tick that makes none due only counts (R11). -/
def Part.noticeFalls (p : Part) : Bool :=
  p.cap.station.hands && decide (noticePeriod p.tau.mode ≤ p.liu.noticeCount + 1)

/-- The work of one job of a block tick. -/
def Part.jobWork (j : TickJob) (p : Part) : Part :=
  match j with
  | .capture => p.captureWork
  | .notice => p.noticeTick
  | .echoLost => p.echoTick
  | .txQuiet => p.txQuietTick
  | .cleanBlocks => p.cleanTick
  | .storeQuiet => p.storeQuietTick
  | .win => p.winTick
  | .lagWindow => p.lagWindowTick
  | .resyncTimer => p.resyncTick
  | .meter => p.meterTick
  | .join s => p.joinTick s
  | .quiet s => p.quietTick s
  | .resyncSeen s => p.resyncSeenTick s

/-- A job of the block tick due, taken if no command of its own has taken it. -/
def Part.runJob (j : TickJob) (p : Part) : Part := p.takeJob j (Part.jobWork j)

/-- The jobs of a station's record at a block tick. -/
def stationJobs (s : Station) : List TickJob := [.join s, .quiet s, .resyncSeen s]

/-- The jobs of a block tick, in the order in which BLOCK_TICK takes them (DESIGN CHOICE, log 3). The TX_OVERRUN quiet
count comes after the two that may evict, which settle it (R7), and TX_OVERRUN_END takes it before them: both orders of
R179. -/
def tickJobs : List TickJob :=
  [.resyncTimer, .echoLost, .cleanBlocks, .storeQuiet, .win, .lagWindow] ++
  allStations.flatMap stationJobs ++ [.capture, .notice, .txQuiet, .meter]

/-- The jobs of a list taken in its order. -/
def Part.runJobs (js : List TickJob) (p : Part) : Part := js.foldl (fun q j => q.runJob j) p

/-- The mix boundary of a block tick, while playout is not started, outside LOADING (R142). -/
def Part.idleBoundary (p : Part) : Part := if p.running && !p.started then p.mixBoundary else p

/-- The block tick is over. -/
def Part.endTick (p : Part) : Part := { p with moment := { p.moment with tick := false, done := [] } }

/-- The block tick at the present SC, once at it: every job not yet taken, then the mix boundary (R46, R70). -/
def Part.tickWork (p : Part) : Part :=
  if p.moment.tick then ((p.runJobs tickJobs).idleBoundary).endTick else p

/-- A job due whose outcome is the one a command names, taken by that command (log 2, 4). -/
def Part.expire (j : TickJob) (outcome : Bool) (p : Part) : Part :=
  if p.moment.jobDue j && outcome then p.runJob j else p

/-! ## The outcomes that have commands of their own -/

/-- The TX_OVERRUN quiet count would reach 1,000 (R7). -/
def Part.txQuietEnds (p : Part) : Bool :=
  p.running && p.faults.isActive (FaultKey.plain .txOverrun) && decide (1000 ≤ p.liu.txQuiet + 1)

/-- The clean-block count would reach 1,000 (R15). -/
def Part.cleanEnds (p : Part) : Bool := p.running && p.liu.cleanBlocks == 999

/-- The ECHO_LOST count would reach 500 (R20). -/
def Part.echoExpires (p : Part) : Bool := p.cap.station.hands && p.liu.echoLostCount == 499

/-- The store-full quiet count would reach 1,000 (R97). -/
def Part.storeQuietEnds (p : Part) : Bool :=
  p.running && p.faults.isActive (FaultKey.plain .storeFull) && decide (1000 ≤ p.ast.quiet + 1)

/-- The win count would reach 5,000 (R44). -/
def Part.winEnds (p : Part) : Bool :=
  p.running && p.faults.conflict == some .won && decide (5000 ≤ p.ptb.winCount + 1)

/-- A JOINING record's join count would reach 1,000 (R28). -/
def Part.joinExpires (s : Station) (p : Part) : Bool :=
  p.running && (p.peer s).state == .joining && decide (1000 ≤ (p.peer s).joinCount + 1)

/-- A PRESENT record's quiet count would reach 200 (R29). -/
def Part.lapses (s : Station) (p : Part) : Bool :=
  p.running && (p.peer s).state == .present && decide (200 ≤ (p.peer s).quietCount + 1)

/-- A LAPSED record's quiet count would reach 5,200 (R30). -/
def Part.lapseExpires (s : Station) (p : Part) : Bool :=
  p.running && (p.peer s).state == .lapsed && decide (5200 ≤ (p.peer s).quietCount + 1)

/-- A RESYNC-seen timer would reach 0 (R36). -/
def Part.resyncSeenEnds (s : Station) (p : Part) : Bool := p.running && (p.peer s).resyncSeen == 1

/-- The lag window count would reach 1,000 (R42). -/
def Part.lagWindowEnds (p : Part) : Bool := p.running && decide (1000 ≤ p.ptb.lagWindow + 1)

/-- The own RESYNC timer would reach 0 (R58). -/
def Part.resyncTimerEnds (p : Part) : Bool := p.running && !p.moment.stepped && p.tau.resyncTimer == 1

/-- The meter count would reach 20 (R163). -/
def Part.meterFalls (p : Part) : Bool := p.mxe.metersOn && p.running && decide (20 ≤ p.mxe.meterCount + 1)

/-- The detectors of a lane, now and after the block in capture closes; none when no block of it closes. -/
def Part.detectorTurn (k : ProgLane) (p : Part) : Option (Detector × Detector) :=
  p.cap.block.map fun b => (p.cap.detectors[k], (p.detectorsAfter b)[k])

/-- A lane's SILENT flag would be set, or cleared, or its STUCK flag set, as the block closes (R72, R73). -/
def Part.silentSets (k : ProgLane) (p : Part) : Bool :=
  match p.detectorTurn k with | some (d, d') => !d.silent && d'.silent | none => false
def Part.silentClears (k : ProgLane) (p : Part) : Bool :=
  match p.detectorTurn k with | some (d, d') => d.silent && !d'.silent | none => false
def Part.stuckSets (k : ProgLane) (p : Part) : Bool :=
  match p.detectorTurn k with | some (d, d') => !d.stuck && d'.stuck | none => false

/-- The talk session moves on at the tick (R84). -/
def Part.sessionMoves (p : Part) : Bool := p.cap.station.hands && p.cap.session.advance != p.cap.session

/-! ## Moves of P with commands of their own -/

/-- A slip decision taken, if one is due (R117). -/
def Part.takeSlip (order : CrossOrder) (p : Part) : Part :=
  if p.plu.owed = some .slip then p.takeMove order else p

/-- The move owed would release a MUTED talk lane at a muted count of 100 (R132). -/
def Part.talkReleases (s : Station) (p : Part) : Bool :=
  (p.plu.lane s talkLane).state == .muted && (p.plu.lane s talkLane).mutedCount == 100 &&
    ((p.takeMove .evaluationFirst).plu.lane s talkLane).state == .idle

/-- The move owed would bring a switch back to its primary by the clear run (R138). -/
def Part.switchReturns (s : Station) (k : ProgLane) (p : Part) : Bool :=
  let w := p.mxe.switches[s][k]
  let named := fallbackNamed p.mxe.fallback[s][k] k
  w.state == .onFallback && w.clearRun == 99 && named.isSome && named == w.inUse &&
    ((p.takeMove .evaluationFirst).mxe.switches[s][k]).state == .toPrimary

/-! ## The sample period -/

/-- All that is still to be taken of the present moment (log 1). -/
def Part.settle (p : Part) : Part :=
  ((((p.takeMove .evaluationFirst).agreementWork .timeFirst).controlTurn).startTurn).tickWork

/-- The moment that a value of SC begins (R46). -/
def momentAt (sc : SampleCount) : Moment :=
  let instant := sc.toNat % Config.intervalSamples == 0
  { tick := sc.toNat % Config.blockSamples == 0, done := [], tauDue := instant, trimDue := instant
    pluDue := instant, controlDue := instant, stepped := false }

/-- A block in capture with a sample more. -/
def CaptureBlock.addSample (x : InputSample) (b : CaptureBlock) : CaptureBlock :=
  { b with samples := b.samples ++ [x] }

/-- The sample taken: the input latched, and outside a block tick joined to the block in capture (R68, R69). -/
def Cap.takeSample (tick : Bool) (x : InputSample) (c : Cap) : Cap :=
  { c with
    input := x
    block := if tick then c.block else c.block.map (CaptureBlock.addSample x) }

/-- SC advances, and the sample is taken (R45, R68). -/
def Part.advance (x : InputSample) (p : Part) : Part :=
  let sc := p.tau.sc + 1
  { p with
    tau := { p.tau with sc := sc }
    moment := momentAt sc
    cap := p.cap.takeSample (momentAt sc).tick x }

/-- The sample period's move of P falls due while playout is started; the outputs carry 0 while it is not
(R113, R162). -/
def Part.playTurn (move : MoveTime) (order : CrossOrder) (p : Part) : Part :=
  if p.started then
    let q := p.oweMove
    if q.plu.owed = some .step ∧ move = .now then q.takeMove order else q
  else { p with mxe := p.mxe.mute }

/-- A sample period of the local clock (R45). -/
def Part.samplePeriod (x : InputSample) (move : MoveTime) (order : CrossOrder) (p : Part) : Part :=
  (p.settle.advance x).playTurn move order

end Sys2Proof.Machine
end

