-- ==== Sys2Proof/Machine/Startup.lean ====
section
/-!
DEFINITION. The resets and the load (10.4, 10.5): power-on reset and the reset pin, the end of the load, and
RESTART.
-/

namespace Sys2Proof.Machine

/-! ## Power-on reset and the reset pin -/

/-- A power-on reset or a reset pin assertion, with the straps as they stand (R198, R199). LINK ABORT pulses if a
frame was in progress (R10), and a trim word of 0 is sent (R64). The command is the whole reset, from its assertion to
its release (DEDUCED, log 45). -/
def Part.hardReset (straps : BitVec 4) (role : Role) (p : Part) : Part :=
  let q := Part.powerOn p.sul.serial straps role
  { q with
    liu := { q.liu with aborts := if p.liu.tx.isSome then p.liu.aborts + 1 else p.liu.aborts }
    tau := { q.tau with trimWords := p.tau.trimWords + 1 } }

/-! ## The end of the load -/

/-- The bytes sent on CFG DO: the read command and the address 0000H (R200). -/
def readCommand : List Byte := [0x03, 0x00, 0x00]

/-- The settings that a record gives: read when it is usable, else every field at its default (R200, R201). -/
def loadedSettings (role : Role) (rec : List Byte) : Settings :=
  if usableRecord rec then readSettings role rec else defaultSettings role

/-- The settings taken, and the station LISTENING with the contribute request of the record (R202). -/
def Part.takeSettings (rec : List Byte) (p : Part) : Part :=
  let set := loadedSettings p.sul.role rec
  { p with
    sul := { p.sul with
      source := if usableRecord rec then .loaded else .defaulted
      configCommand := readCommand }
    settings := set
    cap := { p.cap with station := .listening, contribute := set.contributeAtStart } }

/-- The load ends with a record read, in LOADING; otherwise no load is running (R200 to R202). -/
def Part.endLoad (rec : List Byte) (p : Part) : Part :=
  if p.cap.station = .loading then
    let q := p.takeSettings rec
    if usableRecord rec then q else q.raiseConfigDefaulted
  else p

/-! ## RESTART -/

/-- The state that RESTART clears, block by block (R193). -/
def Part.restartState (p : Part) : Part :=
  { p with
    liu := p.liu.restarted
    ptb := PeerTable.reset
    tau := p.tau.restarted
    cap := p.cap.restarted
    ast := Ast.reset
    plu := Plu.reset
    mxe := p.mxe.restarted
    imn := Vector.replicate 16 DigestRecord.reset
    moment := { p.moment with stepped := false } }

/-- The PEER report of each record that was not ABSENT before the RESTART (R25). -/
def Part.restartReports (before p : Part) : Part :=
  (allStations.filter fun s => (before.peer s).state != .absent).foldl (fun q s => q.emitPeer s) p

/-- The faults that the blocks end at RESTART, in the order of R193's table, NUMBER_CONFLICT aside (R184; log 18). -/
def restartFaults (own : Station) : List FaultKey :=
  [FaultKey.plain .echoLost, FaultKey.plain .linkErrors, FaultKey.plain .txOverrun] ++
  allStations.map peerLapsedKey ++
  allProgLanes.flatMap (fun k => [captureSilentKey own k, captureStuckKey own k]) ++
  [FaultKey.plain .storeFull, FaultKey.plain .horizonLimit] ++
  allStreams.map (fun x => laneLossKey x.1 x.2) ++
  allStations.map digestSuspectKey

/-- RESTART (R193). In LOADING it acts on no block. -/
def Part.restart (p : Part) : Part :=
  if p.cap.station = .loading then p
  else ((Part.restartReports p p.restartState).endConflict).endFaults (restartFaults p.sul.own)

end Sys2Proof.Machine
end

