-- ==== Sys2Proof/Machine/Panel.lean ====
section
/-!
DEFINITION. The Panel Line (10.1 to 10.3): the messages, the receive framer, and the report transmitter.
-/

namespace Sys2Proof.Machine

/-! ## The messages -/

/-- The framer when a message has just been completed: WAIT_TYPE, nothing in progress (R186). -/
def Pnl.frameDone (q : Pnl) : Pnl := { q with framer := .waitType, msgPayload := [], discard := false, idle := 0 }

/-- The selection set emptied, as after every message but SELECT that has acted or been refused (R187). -/
def Part.emptySelection (p : Part) : Part := { p with pnl := { p.pnl with selection := [] } }

/-- The Mix Engine changed by a message. -/
def Part.mapMxe (f : Mxe → Mxe) (p : Part) : Part := { p with mxe := f p.mxe }

/-- The Capture Unit and Station Control changed by a message. -/
def Part.mapCap (f : Cap → Cap) (p : Part) : Part := { p with cap := f p.cap }

/-- A FADER sets a group's target and starts a ramp from the present gain (R148). -/
def Mxe.setFader (g : GroupIx) (level : Nat) (m : Mxe) : Mxe :=
  { m with groups := vmodify m.groups g fun x =>
      { x with target := level, ramp := some ⟨x.gain, x.slope, x.shape, 0⟩ } }

/-- FADER (R148, R190). -/
def Part.fader (group : Byte) (level : BitVec 16) (p : Part) : Part :=
  if p.cap.station = .loading then p.refuse .loading 0x01
  else match groupOf group with
    | none => p.refuse .range 0x01
    | some g => p.mapMxe (Mxe.setFader g level.toNat)

/-- SLOPE sets a group's slope code and shape (R150, R190). -/
def Part.slope (group : Byte) (time : BitVec 16) (shape : Byte) (p : Part) : Part :=
  if p.cap.station = .loading then p.refuse .loading 0x02
  else match groupOf group, slopeOf time, shapeOf shape with
    | some g, some t, some sh =>
      p.mapMxe fun m => { m with groups := vmodify m.groups g fun x => { x with slope := t, shape := sh } }
    | _, _, _ => p.refuse .range 0x02

/-- SELECT adds a stream to the selection set (R188). -/
def Part.select (station lane : Byte) (p : Part) : Part :=
  if p.cap.station = .loading then p.refuse .loading 0x03
  else match stationOf station, progLaneOf lane with
    | some s, some k =>
      if p.pnl.selection.contains (s, k) then p
      else if p.pnl.selection.length < Config.selectionLimit then
        { p with pnl := { p.pnl with selection := p.pnl.selection ++ [(s, k)] } }
      else p.refuse .setFull 0x03
    | _, _ => p.refuse .range 0x03

/-- A lane table with a value written at every stream of the selection set (R189). -/
def writeSelected {α : Type} (streams : List (Station × ProgLane)) (x : α) (t : LaneTable α) : LaneTable α :=
  streams.foldl (fun acc y => laneSet acc y.1 y.2 x) t

/-- ASSIGN writes the lane-to-group map (R189). -/
def Part.assign (value : Byte) (p : Part) : Part :=
  if p.cap.station = .loading then p.refuse .loading 0x04
  else match mapEntryOf value with
    | none => p.refuse .range 0x04
    | some e => p.mapMxe fun m => { m with map := writeSelected p.pnl.selection e m.map }

/-- FALLBACK writes the fallback map (R189). -/
def Part.fallback (value : Byte) (p : Part) : Part :=
  if p.cap.station = .loading then p.refuse .loading 0x05
  else match fallbackOf value with
    | none => p.refuse .range 0x05
    | some e => p.mapMxe fun m => { m with fallback := writeSelected p.pnl.selection e m.fallback }

/-- A matrix bank with one gain written (R152). -/
def bankSet (o : OutputNo) (g : GroupIx) (gain : Nat) (b : MatrixBank) : MatrixBank :=
  vmodify b o fun row => row.set g.val gain g.isLt

/-- MATRIX writes one gain of the PENDING bank (R152, R190). -/
def Part.matrix (output group : Byte) (gain : BitVec 16) (p : Part) : Part :=
  if p.cap.station = .loading then p.refuse .loading 0x06
  else match outputOf output, groupOf group with
    | some o, some g => p.mapMxe fun m => { m with pendingBank := bankSet o g gain.toNat m.pendingBank }
    | _, _ => p.refuse .range 0x06

/-- TAKE adds 1 to the take count (R153). -/
def Part.take (p : Part) : Part :=
  if p.cap.station = .loading then p.refuse .loading 0x07
  else p.mapMxe fun m => { m with takeCount := satAdd 255 m.takeCount 1 }

/-- TALK, with its tests in their order (R83, R191). -/
def Part.talk (destination : Byte) (p : Part) : Part :=
  if 16 < destination.toNat then p.refuse .range 0x08
  else if p.cap.station = .conflict then p.refuse .conflict 0x08
  else if !p.tau.mode.settled then p.refuse .notSettled 0x08
  else p.mapCap fun c => { c with session := c.session.talkTo destination }

/-- TALK_OFF (R83). -/
def Part.talkOff (p : Part) : Part := p.mapCap fun c => { c with session := c.session.talkOff }

/-- CONTRIBUTE sets or clears the contribute request (R77, R78). -/
def Part.setContribute (value : Byte) (p : Part) : Part := p.mapCap fun c => { c with contribute := value != 0 }

/-- METERS on or off; turned on from off the meters begin afresh (R163). Turned off, the peaks and clip flags stand as
they are until the meters begin afresh, and nothing reads them while the meters are off (DESIGN CHOICE, log 48). -/
def Mxe.setMeters (on : Bool) (m : Mxe) : Mxe :=
  if on then (if m.metersOn then m else { m.clearMeters with metersOn := true }) else { m with metersOn := false }

/-- METERS (R163, R191). -/
def Part.meters (value : Byte) (p : Part) : Part :=
  if p.cap.station = .loading then p.refuse .loading 0x0B else p.mapMxe (Mxe.setMeters (value != 0))

/-- QUERY STATUS: the report carries the reports-lost mark, which is cleared as it is built (R194, R195). -/
def Part.queryStatus (p : Part) : Part :=
  ({ p with pnl := { p.pnl with reportsLost := false } }).emit (statusReport p)

/-- QUERY PEER (R196). -/
def Part.queryPeer (station : Byte) (p : Part) : Part :=
  match stationOf station with
  | none => p.refuse .range 0x0C
  | some s => p.emitPeer s

/-- QUERY FAULTS (R197). -/
def Part.queryFaults (p : Part) : Part := p.emit (faultsReport p.faults.list)

/-- ACK_FAULTS removes every ENDED record (R181). -/
def Part.ackFaults (p : Part) : Part :=
  if p.cap.station = .loading then p.refuse .loading 0x0D
  else { p with faults := { p.faults with list := p.faults.list.filter (·.active) } }

/-- A message of one of the fourteen types, its last byte just received: it acts or is refused, and the
selection set is emptied (R187). -/
def Part.message (act : Part → Part) (p : Part) : Part :=
  (act { p with pnl := p.pnl.frameDone }).emptySelection

/-- A SELECT leaves the selection set to itself (R188). -/
def Part.messageSelect (act : Part → Part) (p : Part) : Part := act { p with pnl := p.pnl.frameDone }

/-- A complete frame refused at test 1, 2 or 3: the selection set is left as it was (R187). -/
def Part.refuseFrame (reason : RefusalReason) (type : Byte) (p : Part) : Part :=
  ({ p with pnl := p.pnl.frameDone }).refuse reason type

/-- A QUERY by its selector (R192, R205). -/
def Part.query (selector station : Byte) (p : Part) : Part :=
  if selector = 0x01 then p.queryStatus
  else if selector = 0x02 then p.queryPeer station
  else if selector = 0x03 then p.queryFaults
  else p.refuse .range 0x0C

/-- A frame that has passed tests 1, 2 and 3, by its type and payload (R187, R205). -/
def Part.actMessage (type : Byte) (b : List Byte) (p : Part) : Part :=
  let word (i : Nat) : BitVec 16 := BitVec.ofNat 16 (numAt i 2 b)
  if type = 0x01 then p.message (Part.fader (byteAt 0 b) (word 1))
  else if type = 0x02 then p.message (Part.slope (byteAt 0 b) (word 1) (byteAt 3 b))
  else if type = 0x03 then p.messageSelect (Part.select (byteAt 0 b) (byteAt 1 b))
  else if type = 0x04 then p.message (Part.assign (byteAt 0 b))
  else if type = 0x05 then p.message (Part.fallback (byteAt 0 b))
  else if type = 0x06 then p.message (Part.matrix (byteAt 0 b) (byteAt 1 b) (word 2))
  else if type = 0x07 then p.message Part.take
  else if type = 0x08 then p.message (Part.talk (byteAt 0 b))
  else if type = 0x09 then p.message Part.talkOff
  else if type = 0x0A then p.message (Part.setContribute (byteAt 0 b))
  else if type = 0x0B then p.message (Part.meters (byteAt 0 b))
  else if type = 0x0C then p.message (Part.query (byteAt 0 b) (byteAt 1 b))
  else if type = 0x0D then p.message Part.ackFaults
  else p.message Part.restart

/-- A complete frame is checked, and acts or is refused (R187). -/
def Part.takeFrame (type length : Byte) (payload : List Byte) (check : Byte) (p : Part) : Part :=
  match frameRefusal type length payload check with
  | some reason => p.refuseFrame reason type
  | none => p.actMessage type payload

/-! ## The receive framer -/

/-- The framer in a state, the byte just received having restarted the idle timer (R186). -/
def Part.frame (state : FramerState) (p : Part) : Part :=
  { p with pnl := { p.pnl with framer := state, idle := 0 } }

/-- The message in progress refused by the framer; the discard mark is set (R186). -/
def Part.refuseByte (type : Byte) (p : Part) : Part :=
  ({ p with pnl := { p.pnl with framer := .waitType, discard := true, idle := 0 } }).refuse .badFrame type

/-- A byte received in WAIT_LENGTH with its stop bit high (R186). -/
def Part.takeLength (b : Byte) (p : Part) : Part :=
  if 32 < b.toNat then p.refuseByte p.pnl.msgType
  else
    { p with pnl := { p.pnl with
        framer := if b = 0 then .waitCheck else .payload, msgLength := b, msgPayload := [], idle := 0 } }

/-- A byte received in PAYLOAD with its stop bit high (R186). -/
def Part.takePayload (b : Byte) (p : Part) : Part :=
  let joined := p.pnl.msgPayload ++ [b]
  { p with pnl := { p.pnl with
      framer := if p.pnl.msgLength.toNat ≤ joined.length then .waitCheck else .payload
      msgPayload := joined, idle := 0 } }

/-- A byte received on PNL RXD (R186). -/
def Part.takePanelByte (stopHigh : Bool) (b : Byte) (p : Part) : Part :=
  match p.pnl.framer with
  | .waitType =>
    if p.pnl.discard then p.frame .waitType
    else if stopHigh then { p with pnl := { p.pnl with framer := .waitLength, msgType := b, idle := 0 } }
    else p.refuseByte 0
  | .waitLength => if stopHigh then p.takeLength b else p.refuseByte p.pnl.msgType
  | .payload => if stopHigh then p.takePayload b else p.refuseByte p.pnl.msgType
  | .waitCheck =>
    if stopHigh then p.takeFrame p.pnl.msgType p.pnl.msgLength p.pnl.msgPayload b else p.refuseByte p.pnl.msgType

/-- The idle timer reaches 2 byte-times: the framer resets (R186). -/
def Part.idleReset (p : Part) : Part :=
  let q := { p with pnl := { p.pnl with framer := .waitType, discard := false, idle := 2 } }
  if p.pnl.framer = .waitType then q else q.refuse .badFrame p.pnl.msgType

/-! ## The report transmitter -/

/-- The transmitter takes the head report (R194). -/
def Part.sendReport (p : Part) : Part :=
  match p.pnl.reports with
  | [] => p
  | r :: rest => { p with pnl := { p.pnl with reports := rest, sending := reportFrames r } }

end Sys2Proof.Machine
end

