-- ==== Sys2Proof/Machine/ExecCapture.lean ====
section
/-!
DEFINITION. The meanings of the events of CAP and Station Control (04).
-/

namespace Sys2Proof.Machine

/-- SILENT_SET (R72): taken with the closing of the block, one operation (R70, log 4). -/
def execSilentSet (lane : ProgLane) (s : State) : Host.Outcome State Fault Refusal :=
  .next (s.withPart (s.part.expire .capture (s.part.silentSets lane)))

/-- SILENT_CLEAR (R72): taken with the closing of the block (R70, log 4). -/
def execSilentClear (lane : ProgLane) (s : State) : Host.Outcome State Fault Refusal :=
  .next (s.withPart (s.part.expire .capture (s.part.silentClears lane)))

/-- STUCK_SET (R73): taken with the closing of the block (R70, log 4). -/
def execStuckSet (lane : ProgLane) (s : State) : Host.Outcome State Fault Refusal :=
  .next (s.withPart (s.part.expire .capture (s.part.stuckSets lane)))

/-- GO_ON_AIR (R77): Station Control's turn at the agreement instant. -/
def execGoOnAir (s : State) : Host.Outcome State Fault Refusal :=
  .next (s.withPart (s.part.controlTurn))

/-- LEAVE_ON_AIR (R78): taken with the closing of the block (R70, log 4). -/
def execLeaveOnAir (s : State) : Host.Outcome State Fault Refusal :=
  .next (s.withPart (s.part.expire .capture s.part.cap.leaves))

/-- TALK_SESSION_ADVANCE (R84): taken with the closing of the block (R70, log 4). -/
def execTalkSessionAdvance (s : State) : Host.Outcome State Fault Refusal :=
  .next (s.withPart (s.part.expire .capture s.part.sessionMoves))

end Sys2Proof.Machine
end

