-- ==== Sys2Proof/Machine/ExecClock.lean ====
section
/-!
DEFINITION. The meanings of the sample clock: the sample period, the block tick and the meter report.
-/

namespace Sys2Proof.Machine

/-- SAMPLE_PERIOD (R45, R68, R113). -/
def execSamplePeriod (slots : Vector Sample 8) (talk : Sample) (move : MoveTime) (order : CrossOrder)
    (s : State) : Host.Outcome State Fault Refusal :=
  .next (s.withPart (s.part.samplePeriod ⟨slots, talk⟩ move order))

/-- BLOCK_TICK (R46, R70). -/
def execBlockTick (s : State) : Host.Outcome State Fault Refusal :=
  .next (s.withPart (s.part.tickWork))

/-- METER_REPORT (R163). -/
def execMeterReport (s : State) : Host.Outcome State Fault Refusal :=
  .next (s.withPart (s.part.expire .meter s.part.meterFalls))

end Sys2Proof.Machine
end

