-- ==== Sys2Proof/Machine/ExecLink.lean ====
section
/-!
DEFINITION. The meanings of the events of the link port (01).
-/

namespace Sys2Proof.Machine

/-- PARCEL_HANDOVER (R8, R9): with a handover able to begin; the command itself is the assertion of LINK READY. -/
def execParcelHandover (s : State) : Host.Outcome State Fault Refusal :=
  .next (s.withPart s.part.handOverNow)

/-- FRAME_SENT (R8): the transmitter returns to IDLE. -/
def execFrameSent (s : State) : Host.Outcome State Fault Refusal :=
  .next (s.withPart ({ s.part with liu := { s.part.liu with tx := none } }))

/-- TX_OVERRUN_END (R7). -/
def execTxOverrunEnd (s : State) : Host.Outcome State Fault Refusal :=
  .next (s.withPart (s.part.expire .txQuiet s.part.txQuietEnds))

/-- NOTICE_DUE (R11). -/
def execNoticeDue (s : State) : Host.Outcome State Fault Refusal :=
  .next (s.withPart (s.part.expire .notice s.part.noticeFalls))

/-- LINK_RXFRAME_ASSERT (R12, R13): a frame begins; the store is cleared and the arrival stamp captured. -/
def execLinkRxframeAssert (s : State) : Host.Outcome State Fault Refusal :=
  .next (s.withPart s.part.arrive)

/-- LINK_RXFRAME_RELEASE (R12, R14): the frame being collected ends, with the bytes received (log 9). -/
def execLinkRxframeRelease (bytes : List Byte) (s : State) : Host.Outcome State Fault Refusal :=
  .next (s.withPart (s.part.releaseFrame bytes))

/-- LINK_ERRORS_END (R15). -/
def execLinkErrorsEnd (s : State) : Host.Outcome State Fault Refusal :=
  .next (s.withPart (s.part.expire .cleanBlocks s.part.cleanEnds))

/-- ECHO_LOST (R20). -/
def execEchoLost (s : State) : Host.Outcome State Fault Refusal :=
  .next (s.withPart (s.part.expire .echoLost s.part.echoExpires))

end Sys2Proof.Machine
end

