-- ==== Sys2Proof/Machine/ExecMix.lean ====
section
/-!
DEFINITION. The meanings of the panel messages that move the mix (R187 to R191).
-/

namespace Sys2Proof.Machine

/-- FADER (R148, R190). -/
def execFader (group : Byte) (level : BitVec 16) (s : State) : Host.Outcome State Fault Refusal :=
  .next (s.withPart (s.part.message (Part.fader group level)))

/-- SLOPE (R150, R190). -/
def execSlope (group : Byte) (time : BitVec 16) (shape : Byte) (s : State) : Host.Outcome State Fault Refusal :=
  .next (s.withPart (s.part.message (Part.slope group time shape)))

/-- SELECT (R188). -/
def execSelect (station lane : Byte) (s : State) : Host.Outcome State Fault Refusal :=
  .next (s.withPart (s.part.messageSelect (Part.select station lane)))

/-- ASSIGN (R189). -/
def execAssign (value : Byte) (s : State) : Host.Outcome State Fault Refusal :=
  .next (s.withPart (s.part.message (Part.assign value)))

/-- FALLBACK (R189). -/
def execFallback (value : Byte) (s : State) : Host.Outcome State Fault Refusal :=
  .next (s.withPart (s.part.message (Part.fallback value)))

/-- MATRIX (R152, R190). -/
def execMatrix (output group : Byte) (gain : BitVec 16) (s : State) : Host.Outcome State Fault Refusal :=
  .next (s.withPart (s.part.message (Part.matrix output group gain)))

/-- TAKE (R153). -/
def execTake (s : State) : Host.Outcome State Fault Refusal :=
  .next (s.withPart (s.part.message Part.take))

/-- METERS (R163, R191). -/
def execMeters (value : Byte) (s : State) : Host.Outcome State Fault Refusal :=
  .next (s.withPart (s.part.message (Part.meters value)))

end Sys2Proof.Machine
end

