-- ==== Sys2Proof/Machine/ExecPanel.lean ====
section
/-!
DEFINITION. The meanings of the events of the panel line: frames refused, bytes, the idle timer, the transmitter.
-/

namespace Sys2Proof.Machine

/-- UNKNOWN_MESSAGE (R187): a complete frame, refused at test 1, 2 or 3; one that passes them is taken as the message it
is (log 23). -/
def execUnknownMessage (type : Byte) (payload : List Byte) (check : Byte)
    (s : State) : Host.Outcome State Fault Refusal :=
  .next (s.withPart (s.part.takeFrame type (BitVec.ofNat 8 payload.length) payload check))

/-- PANEL_FRAMING_ERROR (R186): a byte with a low stop bit, or a length above 32. -/
def execPanelFramingError (stopHigh : Bool) (byte : Byte) (s : State) : Host.Outcome State Fault Refusal :=
  .next (s.withPart (s.part.takePanelByte stopHigh byte))

/-- PANEL_IDLE_TIMEOUT (R186). -/
def execPanelIdleTimeout (s : State) : Host.Outcome State Fault Refusal :=
  .next (s.withPart (s.part.idleReset))

/-- REPORT_SEND (R194). -/
def execReportSend (s : State) : Host.Outcome State Fault Refusal :=
  .next (s.withPart (s.part.sendReport))

/-- PANEL_BYTE (R186): a byte with its stop bit high; the check byte completes a message (R187). -/
def execPanelByte (byte : Byte) (s : State) : Host.Outcome State Fault Refusal :=
  .next (s.withPart (s.part.takePanelByte true byte))

end Sys2Proof.Machine
end

