-- ==== Sys2Proof/Machine/ExecPeers.lean ====
section
/-!
DEFINITION. The meanings of the expiries of the Peer Table and the Alignment Store (02, 05).
-/

namespace Sys2Proof.Machine

/-- STORE_FULL_END (R97). -/
def execStoreFullEnd (s : State) : Host.Outcome State Fault Refusal :=
  .next (s.withPart (s.part.expire .storeQuiet s.part.storeQuietEnds))

/-- WON_END (R44). -/
def execWonEnd (s : State) : Host.Outcome State Fault Refusal :=
  .next (s.withPart (s.part.expire .win s.part.winEnds))

/-- JOIN_EXPIRY (R28). -/
def execJoinExpiry (station : Station) (s : State) : Host.Outcome State Fault Refusal :=
  .next (s.withPart (s.part.expire (.join station) (s.part.joinExpires station)))

/-- PEER_LAPSE (R29). -/
def execPeerLapse (station : Station) (s : State) : Host.Outcome State Fault Refusal :=
  .next (s.withPart (s.part.expire (.quiet station) (s.part.lapses station)))

/-- LAPSE_EXPIRY (R30). -/
def execLapseExpiry (station : Station) (s : State) : Host.Outcome State Fault Refusal :=
  .next (s.withPart (s.part.expire (.quiet station) (s.part.lapseExpires station)))

/-- RESYNC_SEEN_EXPIRY (R36). -/
def execResyncSeenExpiry (station : Station) (s : State) : Host.Outcome State Fault Refusal :=
  .next (s.withPart (s.part.expire (.resyncSeen station) (s.part.resyncSeenEnds station)))

/-- LAG_WINDOW_END (R42). -/
def execLagWindowEnd (s : State) : Host.Outcome State Fault Refusal :=
  .next (s.withPart (s.part.expire .lagWindow s.part.lagWindowEnds))

end Sys2Proof.Machine
end

