-- ==== Sys2Proof/Machine/ExecPlayout.lean ====
section
/-!
DEFINITION. The meanings of the events of the Playout Unit (06, 07).
-/

namespace Sys2Proof.Machine

/-- PLAYOUT_START (R112): the Playout Unit's turn at the agreement instant. -/
def execPlayoutStart (s : State) : Host.Outcome State Fault Refusal :=
  .next (s.withPart (s.part.startTurn))

/-- SLIP_DECISION (R117). -/
def execSlipDecision (order : CrossOrder) (s : State) : Host.Outcome State Fault Refusal :=
  .next (s.withPart (s.part.takeSlip order))

/-- TALK_LANE_RELEASE (R132): the entry due releases the lane (log 7). -/
def execTalkLaneRelease (station : Station) (s : State) : Host.Outcome State Fault Refusal :=
  .next (s.withPart (if s.part.talkReleases station then s.part.takeMove .evaluationFirst else s.part))

/-- FALLBACK_RETURN (R138): the entry due returns the switch (log 7). -/
def execFallbackReturn (station : Station) (lane : ProgLane) (s : State) : Host.Outcome State Fault Refusal :=
  .next (s.withPart (if s.part.switchReturns station lane then s.part.takeMove .evaluationFirst else s.part))

end Sys2Proof.Machine
end

