-- ==== Sys2Proof/Machine/ExecStartup.lean ====
section
/-!
DEFINITION. The meanings of the start-up commands: the resets, the load and RESTART.
-/

namespace Sys2Proof.Machine

/-- POWER_ON_RESET (R198): every block takes its reset values, with the straps as they stand (R199). -/
def execPowerOnReset (straps : BitVec 4) (role : Role) (s : State) : Host.Outcome State Fault Refusal :=
  .next (s.withPart (s.part.hardReset straps role))

/-- RESET_PIN (R198): acts as a power-on reset. -/
def execResetPin (straps : BitVec 4) (role : Role) (s : State) : Host.Outcome State Fault Refusal :=
  .next (s.withPart (s.part.hardReset straps role))

/-- LOAD_END (R200, R201, R202): the record as the loader read it. -/
def execLoadEnd (record : List Byte) (s : State) : Host.Outcome State Fault Refusal :=
  .next (s.withPart (s.part.endLoad (configBytes record)))

/-- RESTART (R193), a panel message (R187). -/
def execRestart (s : State) : Host.Outcome State Fault Refusal :=
  .next (s.withPart (s.part.message Part.restart))

end Sys2Proof.Machine
end

