-- ==== Sys2Proof/Machine/ExecTalk.lean ====
section
/-!
DEFINITION. The meanings of the panel messages that act on the station itself: talk, contribution, queries, acknowledgement.
-/

namespace Sys2Proof.Machine

/-- TALK (R83, R191). -/
def execTalk (destination : Byte) (s : State) : Host.Outcome State Fault Refusal :=
  .next (s.withPart (s.part.message (Part.talk destination)))

/-- TALK_OFF (R83, R191). -/
def execTalkOff (s : State) : Host.Outcome State Fault Refusal :=
  .next (s.withPart (s.part.message Part.talkOff))

/-- CONTRIBUTE (R77, R191). -/
def execContribute (value : Byte) (s : State) : Host.Outcome State Fault Refusal :=
  .next (s.withPart (s.part.message (Part.setContribute value)))

/-- QUERY STATUS (R192, R195). -/
def execQueryStatus (s : State) : Host.Outcome State Fault Refusal :=
  .next (s.withPart (s.part.message Part.queryStatus))

/-- QUERY PEER (R192, R196). -/
def execQueryPeer (station : Byte) (s : State) : Host.Outcome State Fault Refusal :=
  .next (s.withPart (s.part.message (Part.queryPeer station)))

/-- QUERY FAULTS (R192, R197). -/
def execQueryFaults (s : State) : Host.Outcome State Fault Refusal :=
  .next (s.withPart (s.part.message Part.queryFaults))

/-- ACK_FAULTS (R181, R192). -/
def execAckFaults (s : State) : Host.Outcome State Fault Refusal :=
  .next (s.withPart (s.part.message Part.ackFaults))

end Sys2Proof.Machine
end

