-- ==== Sys2Proof/Machine/ExecTime.lean ====
section
/-!
DEFINITION. The meanings of the events of the Time Agreement Unit (03).
-/

namespace Sys2Proof.Machine

/-- AGREEMENT_INSTANT (R50, R64, R115). -/
def execAgreementInstant (order : InstantOrder) (s : State) : Host.Outcome State Fault Refusal :=
  .next (s.withPart (s.part.agreementWork order))

/-- FOUNDING (R55). -/
def execFounding (s : State) : Host.Outcome State Fault Refusal :=
  .next (s.withPart (if s.part.foundingDue then s.part.tauWork else s.part))

/-- EMPTY_RUN_EXPIRY (R60). -/
def execEmptyRunExpiry (s : State) : Host.Outcome State Fault Refusal :=
  .next (s.withPart (if s.part.emptyRunDue then s.part.tauWork else s.part))

/-- LARGE_RUN_STEP (R61). -/
def execLargeRunStep (s : State) : Host.Outcome State Fault Refusal :=
  .next (s.withPart (if s.part.largeRunDue then s.part.tauWork else s.part))

/-- RESYNC_TIMER_EXPIRY (R58). -/
def execResyncTimerExpiry (s : State) : Host.Outcome State Fault Refusal :=
  .next (s.withPart (s.part.expire .resyncTimer s.part.resyncTimerEnds))

end Sys2Proof.Machine
end

