-- ==== Sys2Proof/Machine/Dispatch.lean ====
section
/-!
DEFINITION. The dispatch: one arm per command.
-/

namespace Sys2Proof.Machine

/-- The effect of a command on everything but the queue. -/
def exec (i : Instr) (s : State) : Host.Outcome State Fault Refusal :=
  match i with
  | .powerOnReset straps role => Sys2Proof.Machine.execPowerOnReset straps role s
  | .resetPin straps role => Sys2Proof.Machine.execResetPin straps role s
  | .loadEnd record => Sys2Proof.Machine.execLoadEnd record s
  | .restart => Sys2Proof.Machine.execRestart s
  | .fader group level => Sys2Proof.Machine.execFader group level s
  | .slope group time shape => Sys2Proof.Machine.execSlope group time shape s
  | .select station lane => Sys2Proof.Machine.execSelect station lane s
  | .assign value => Sys2Proof.Machine.execAssign value s
  | .fallback value => Sys2Proof.Machine.execFallback value s
  | .matrix output group gain => Sys2Proof.Machine.execMatrix output group gain s
  | .take => Sys2Proof.Machine.execTake s
  | .talk destination => Sys2Proof.Machine.execTalk destination s
  | .talkOff => Sys2Proof.Machine.execTalkOff s
  | .contribute value => Sys2Proof.Machine.execContribute value s
  | .meters value => Sys2Proof.Machine.execMeters value s
  | .queryStatus => Sys2Proof.Machine.execQueryStatus s
  | .queryPeer station => Sys2Proof.Machine.execQueryPeer station s
  | .queryFaults => Sys2Proof.Machine.execQueryFaults s
  | .ackFaults => Sys2Proof.Machine.execAckFaults s
  | .unknownMessage type payload check => Sys2Proof.Machine.execUnknownMessage type payload check s
  | .panelFramingError stopHigh byte => Sys2Proof.Machine.execPanelFramingError stopHigh byte s
  | .panelIdleTimeout => Sys2Proof.Machine.execPanelIdleTimeout s
  | .reportSend => Sys2Proof.Machine.execReportSend s
  | .parcelHandover => Sys2Proof.Machine.execParcelHandover s
  | .frameSent => Sys2Proof.Machine.execFrameSent s
  | .txOverrunEnd => Sys2Proof.Machine.execTxOverrunEnd s
  | .noticeDue => Sys2Proof.Machine.execNoticeDue s
  | .linkRxframeAssert => Sys2Proof.Machine.execLinkRxframeAssert s
  | .linkRxframeRelease bytes => Sys2Proof.Machine.execLinkRxframeRelease bytes s
  | .linkErrorsEnd => Sys2Proof.Machine.execLinkErrorsEnd s
  | .echoLost => Sys2Proof.Machine.execEchoLost s
  | .storeFullEnd => Sys2Proof.Machine.execStoreFullEnd s
  | .wonEnd => Sys2Proof.Machine.execWonEnd s
  | .joinExpiry station => Sys2Proof.Machine.execJoinExpiry station s
  | .peerLapse station => Sys2Proof.Machine.execPeerLapse station s
  | .lapseExpiry station => Sys2Proof.Machine.execLapseExpiry station s
  | .resyncSeenExpiry station => Sys2Proof.Machine.execResyncSeenExpiry station s
  | .lagWindowEnd => Sys2Proof.Machine.execLagWindowEnd s
  | .samplePeriod slots talk move order => Sys2Proof.Machine.execSamplePeriod slots talk move order s
  | .blockTick => Sys2Proof.Machine.execBlockTick s
  | .silentSet lane => Sys2Proof.Machine.execSilentSet lane s
  | .silentClear lane => Sys2Proof.Machine.execSilentClear lane s
  | .stuckSet lane => Sys2Proof.Machine.execStuckSet lane s
  | .goOnAir => Sys2Proof.Machine.execGoOnAir s
  | .leaveOnAir => Sys2Proof.Machine.execLeaveOnAir s
  | .talkSessionAdvance => Sys2Proof.Machine.execTalkSessionAdvance s
  | .agreementInstant order => Sys2Proof.Machine.execAgreementInstant order s
  | .founding => Sys2Proof.Machine.execFounding s
  | .emptyRunExpiry => Sys2Proof.Machine.execEmptyRunExpiry s
  | .largeRunStep => Sys2Proof.Machine.execLargeRunStep s
  | .resyncTimerExpiry => Sys2Proof.Machine.execResyncTimerExpiry s
  | .playoutStart => Sys2Proof.Machine.execPlayoutStart s
  | .slipDecision order => Sys2Proof.Machine.execSlipDecision order s
  | .talkLaneRelease station => Sys2Proof.Machine.execTalkLaneRelease station s
  | .fallbackReturn station lane => Sys2Proof.Machine.execFallbackReturn station lane s
  | .meterReport => Sys2Proof.Machine.execMeterReport s
  | .panelByte byte => Sys2Proof.Machine.execPanelByte byte s

end Sys2Proof.Machine
end

