-- ==== Sys2Proof/Safety.lean ====
section
/-!
DEFINITION. What the manual says holds of the part at every moment, block by block, in the terms the statements use.
-/

namespace Sys2Proof.Machine

/-! ## Terms that the statements use -/

/-- Nothing of the present moment is still to be taken (log 1). -/
abbrev Moment.idle (m : Moment) : Prop :=
  m.tick = false ∧ m.tauDue = false ∧ m.trimDue = false ∧ m.pluDue = false ∧ m.controlDue = false

/-- A job of the present block tick is due and not yet taken (log 1). -/
abbrev Moment.due (m : Moment) (j : TickJob) : Prop := m.tick = true ∧ j ∉ m.done

/-- The Panel Line as a message leaves it: the framer in WAIT_TYPE with nothing in progress, the selection set empty
(R186, R187). -/
def Pnl.afterMessage (q : Pnl) : Pnl :=
  { q with framer := .waitType, msgPayload := [], discard := false, idle := 0, selection := [] }

/-- The Panel Line as a SELECT, or a frame refused at test 1, 2 or 3, leaves it: the selection set as it was (R187, R188). -/
def Pnl.afterFrame (q : Pnl) : Pnl := { q with framer := .waitType, msgPayload := [], discard := false, idle := 0 }

/-- The Panel Line with other reports than it held: an event that emits changes nothing else of it (R194). -/
def Pnl.withReports (q q' : Pnl) : Pnl := { q with reports := q'.reports, reportsLost := q'.reportsLost }

/-- A known record after a parcel's presence, sequence and RESYNC (R26 steps 1 to 3, R30, R35, R36). -/
def PeerRecord.heard (sc : SampleCount) (seq : SeqNo) (resync : Bool) (r : PeerRecord) : PeerRecord :=
  let d := (seq.toNat + 65535 - r.lastSequence.toNat) % 65536
  { r with
    state := if r.state = .lapsed then .present else r.state
    lastHeard := sc
    quietCount := 0
    lastSequence := if d ≤ 32767 then seq else r.lastSequence
    gapCount := if 1 ≤ d ∧ d ≤ 32767 then min (r.gapCount + d) 65535 else r.gapCount
    outOfOrder := if 32768 ≤ d then min (r.outOfOrder + 1) 65535 else r.outOfOrder
    resyncSeen := if resync then 200 else r.resyncSeen
    reseed := resync || r.reseed }

/-- A record after the filter's table took the measurement m = 16θ (R39). -/
def PeerRecord.filtered (m : Int) (r : PeerRecord) : PeerRecord :=
  match r.offset with
  | none => { r with offset := some m, measurements := 1, outlierRun := 0, reseed := false }
  | some f =>
    let far := 8 ≤ r.measurements ∧ 7680 < (m - f).natAbs
    if r.reseed = true ∨ (far ∧ 3 ≤ r.outlierRun) then
      { r with offset := some m, measurements := min (r.measurements + 1) 255, outlierRun := 0, reseed := false }
    else if far then { r with outlierRun := r.outlierRun + 1 }
    else
      { r with
        offset := some (f + Int.fdiv (m - f) 8), measurements := min (r.measurements + 1) 255, outlierRun := 0 }

/-- A record after a parcel's offset measurement, if R38's three conditions hold (R26 step 6). -/
def PeerRecord.measuredAt (p : Part) (sc stamp : SampleCount) (r : PeerRecord) : PeerRecord :=
  match p.liu.echoDelay, r.echoDelay with
  | some e, some eb =>
    if p.liu.echoCount = 4 ∧ p.tau.mode ≠ .free then
      r.filtered (16 * max (-8388608) (min 8388607
        (sc + BitVec.ofInt 48 p.tau.correction - BitVec.ofNat 48 ((e + eb) / 2) - stamp).toInt))
    else r
  | _, _ => r

/-- A record after the lag sample of an AUDIO or TALK, if R41 lets it be recorded (R26 step 7). -/
def PeerRecord.laggedAt (p : Part) (sc : SampleCount) (firstBlock : BlockNo) (span : Nat) (r : PeerRecord) :
    PeerRecord :=
  let arrival := (sc + BitVec.ofInt 48 p.tau.correction).toNat
  let n := (BitVec.ofNat 32 (arrival / 48) - (firstBlock + BitVec.ofNat 32 span)).toInt
  let lag := (max 0 (min 65535 (48 * n + (arrival % 48 : Nat)))).toNat
  if p.tau.mode.settled = true ∧ r.settled = true then { r with lagCurrent := max r.lagCurrent lag } else r

/-- A known record after steps 1 to 7 of R26 for an AUDIO or TALK parcel: what the store's admission then reads. -/
def PeerRecord.afterParcel (p : Part) (x : RxParcel) (st : ArrivalStamp) (r : PeerRecord) : PeerRecord :=
  let heard := r.heard st.sc x.sequence x.resync
  let talked := { heard with
    talkActive :=
      if x.kind = ParcelKind.talk then
        decide ((x.destination = p.sul.own.number ∨ x.destination = 0) ∧ x.endFlag = false)
      else r.talkActive }
  (talked.measuredAt p st.sc x.stamp).laggedAt p st.sc x.firstBlock x.span

/-- A digest record with the entry of every window that one of the blocks belongs to spoiled (R171). -/
def DigestRecord.spoiledFor (bs : List BlockNo) (d : DigestRecord) : DigestRecord :=
  { d with entries := d.entries.map fun e =>
      if bs.any (fun b => e.window == b.toNat / 64) then { e with spoiled := true } else e }

/-- A digest record after a parcel's digest: the entry of the window whose last block the parcel carries takes it where
it expects none, and is spoiled where it expects another (R172). -/
def DigestRecord.expecting (bs : List BlockNo) (digest : Sample) (d : DigestRecord) : DigestRecord :=
  { d with entries := d.entries.map fun e =>
      if bs.any (fun b => b.toNat % 64 == 63 && e.window == b.toNat / 64) then
        match e.expected with
        | none => { e with expected := some digest }
        | some held => if held = digest then e else { e with spoiled := true }
      else e }

/-- The number that n bytes from an offset on spell, most significant first (R203). -/
def fieldAt (bs : List Byte) (off n : Nat) : Nat :=
  ((bs.drop off).take n).foldl (fun acc b => acc * 256 + b.toNat) 0

/-! ## What holds at every moment -/

/-- The Time Agreement Unit's ranges: T and I (R65), T and I at 0 in FREE and ACQUIRING (R65), the trim word (R64),
K a multiple of 48 within its limits (R47), and the counts of R49. -/
structure Tau.Sound (t : Tau) : Prop where
  trim_range : -10000 ≤ t.trim ∧ t.trim ≤ 10000
  integral_range : -10000 ≤ t.integral ∧ t.integral ≤ 10000
  unsettled_zero : t.mode.settled = false → t.trim = 0 ∧ t.integral = 0
  word_range : -10000 ≤ t.trimWord.toInt ∧ t.trimWord.toInt ≤ 10000
  correction_multiple : (48 : Int) ∣ t.correction
  correction_range : -140737488355296 ≤ t.correction ∧ t.correction ≤ 140737488355296
  resync_range : t.resyncTimer ≤ 200
  founding_range : t.foundingCount ≤ 36
  empty_range : t.emptyRun ≤ 10
  large_range : t.largeRun ≤ 3

/-- The Link Interface Unit's limits: the queue and the order in it (R6), the echo table (R17), E (R19), the
bad-frame record and the clean-block count (R15), the frame store (R12). -/
structure Liu.Sound (l : Liu) : Prop where
  queue_limit : l.queue.length ≤ 8
  notices_first : (l.queue.dropWhile (·.kind == .notice)).all (·.kind != .notice) = true
  echo_limit : l.echoTable.length ≤ 16
  echo_distinct : (l.echoTable.map (·.sequence)).Nodup
  echo_count : l.echoCount ≤ 4
  echo_absent : l.echoDelay = none ↔ l.echoCount = 0
  echo_range : ∀ e, l.echoDelay = some e → e ≤ 65535
  bad_limit : l.badFrames.length ≤ 10
  clean_range : l.cleanBlocks ≤ 1000
  quiet_range : l.txQuiet ≤ 1000
  store_limit : l.frameStore.length ≤ 4641

/-- The Alignment Store's form: its canonical order, and in use plus free always 8,192 (R86, R88); no buffer of the
own number (R88); every buffer inside the window while playout is started, none held while it is not (R88, R104). -/
structure Part.StoreSound (p : Part) : Prop where
  form : p.ast.wf
  peers : ∀ b ∈ p.ast.buffers, b.peer ≠ p.sul.own
  window : ∀ pb, p.playBlock = some pb → ∀ b ∈ p.ast.buffers, inWindow pb b.block = true
  stopped : p.plu.position = none → p.ast.buffers = []

/-- The Panel Line's limits: the selection set (R188), the report queue (R194), and the payload in progress, which is
short of its length while the framer is in PAYLOAD (R186). -/
structure Pnl.Sound (q : Pnl) : Prop where
  selection_limit : q.selection.length ≤ 32
  selection_distinct : q.selection.Nodup
  report_limit : q.reports.length ≤ 32
  payload_limit : q.msgPayload.length ≤ 32
  payload_short : q.framer = .payload → q.msgPayload.length < q.msgLength.toNat ∧ q.msgLength.toNat ≤ 32

/-- The fault list's form: its length, one record for each kind and subject, counts of 1 to 255 (R177). -/
structure Faults.Sound (f : Faults) : Prop where
  limit : f.list.length ≤ 32
  distinct : (f.list.map (·.key)).Nodup
  counts : ∀ r ∈ f.list, 1 ≤ r.count ∧ r.count ≤ 255

/-- The own number is no peer: its record is the cleared one (R24), its lane records are at rest (R123), and its
switches stand ON_PRIMARY (R135, R145). -/
structure Part.SelfSound (p : Part) : Prop where
  record : p.ptb.records[p.sul.own] = PeerRecord.cleared
  lanes : p.plu.lanes[p.sul.own] = Vector.replicate 9 LaneRecord.reset
  switches : p.mxe.switches[p.sul.own] = Vector.replicate 8 FallbackSwitch.reset

/-- The Mix Engine's ranges: group gains and targets (R147), the take count (R153), the meter count (R163), and
dither registers that are never 0 (R161). -/
structure Mxe.Sound (m : Mxe) : Prop where
  gains : ∀ g : GroupIx, m.groups[g].gain ≤ 65535 ∧ m.groups[g].target ≤ 65535
  ramps : ∀ g : GroupIx, ∀ r, m.groups[g].ramp = some r → r.start ≤ 65535 ∧ r.k ≤ r.length
  takes : m.takeCount ≤ 255
  meters : m.meterCount ≤ 19
  dither : ∀ o : OutputNo, m.dither[o] ≠ 0

/-- A peer record's ranges (R23): the timers, the counts, F, E_B and the lag maxima; and an ABSENT record is the cleared
one (R25, R31; log 38). -/
structure PeerRecord.Sound (r : PeerRecord) : Prop where
  resync_range : r.resyncSeen ≤ 200
  quiet_range : r.quietCount ≤ 5200
  join_range : r.joinCount ≤ 1000
  measurement_range : r.measurements ≤ 255
  outlier_range : r.outlierRun ≤ 3
  offset_known : 0 < r.measurements → r.offset.isSome = true
  offset_range : ∀ f, r.offset = some f → -134217728 ≤ f ∧ f ≤ 134217712
  echo_range : ∀ e, r.echoDelay = some e → e ≤ 65535
  lag_range : r.lagCurrent ≤ 65535 ∧ r.lagPrevious ≤ 65535
  sequence_counts : r.gapCount ≤ 65535 ∧ r.outOfOrder ≤ 65535
  refusal_counts : r.late ≤ 65535 ∧ r.early ≤ 65535 ∧ r.duplicate ≤ 65535 ∧ r.format ≤ 65535 ∧ r.unsettled ≤ 65535
  absent_cleared : r.state = .absent → r = PeerRecord.cleared

end Sys2Proof.Machine
end

