-- ==== Sys2Proof/WellFormed.lean ====
section
/-!
DEFINITION. Which commands are well-formed: their operands are ones that the command's row can carry.
-/

namespace Sys2Proof

/-- The operands of a command fit its row. The record of LOAD_END is the 62 bytes of R207; an UNKNOWN_MESSAGE
carries a payload that the framer can collect and is refused by test 1, 2 or 3 of R187; a PANEL_FRAMING_ERROR
has a low stop bit or a byte above 32 (R186). Every other operand fits by its type. -/
def Instr.wellFormed : Instr → Bool
  | .powerOnReset _ _ => true
  | .resetPin _ _ => true
  | .loadEnd record => record.length == Config.configLength
  | .restart => true
  | .fader _ _ => true
  | .slope _ _ _ => true
  | .select _ _ => true
  | .assign _ => true
  | .fallback _ => true
  | .matrix _ _ _ => true
  | .take => true
  | .talk _ => true
  | .talkOff => true
  | .contribute _ => true
  | .meters _ => true
  | .queryStatus => true
  | .queryPeer _ => true
  | .queryFaults => true
  | .ackFaults => true
  | .unknownMessage type payload check =>
    decide (payload.length ≤ 32) &&
      (Machine.frameRefusal type (BitVec.ofNat 8 payload.length) payload check).isSome
  | .panelFramingError stopHigh byte => !stopHigh || decide (32 < byte.toNat)
  | .panelIdleTimeout => true
  | .reportSend => true
  | .parcelHandover => true
  | .frameSent => true
  | .txOverrunEnd => true
  | .noticeDue => true
  | .linkRxframeAssert => true
  | .linkRxframeRelease _ => true
  | .linkErrorsEnd => true
  | .echoLost => true
  | .storeFullEnd => true
  | .wonEnd => true
  | .joinExpiry _ => true
  | .peerLapse _ => true
  | .lapseExpiry _ => true
  | .resyncSeenExpiry _ => true
  | .lagWindowEnd => true
  | .samplePeriod _ _ _ _ => true
  | .blockTick => true
  | .silentSet _ => true
  | .silentClear _ => true
  | .stuckSet _ => true
  | .goOnAir => true
  | .leaveOnAir => true
  | .talkSessionAdvance => true
  | .agreementInstant _ => true
  | .founding => true
  | .emptyRunExpiry => true
  | .largeRunStep => true
  | .resyncTimerExpiry => true
  | .playoutStart => true
  | .slipDecision _ => true
  | .talkLaneRelease _ => true
  | .fallbackReturn _ _ => true
  | .meterReport => true
  | .panelByte _ => true

end Sys2Proof
end

