-- ==== Sys2Proof/Certificates/Slice0/Obligations.lean ====
section
/-!
DEFINITION. The statements for the provers. Each follows the rule that its docstring names; a statement about a choice
of the model names the log entry.
-/

open Sys2Proof Sys2Proof.Machine

/-- O1. A step runs the command at the front. The queue itself is the model's (DESIGN CHOICE, log 10). -/
def Obligations.StepTakesTheFrontCommand : Prop :=
  ∀ (s : State) (c : Instr) (rest : List Instr), s.pending = c :: rest →
    step s = exec c { s with pending := rest }

/-- O2. Formalises the reset columns of R22, R25, R49, R75, R80, R105, R110, R123, R135, R137, R143, R147, R152, R161,
R164, R176, R184, R188, R194 and R198, R199. The NOTICE count of 19 is the model's reading of R11 (DEDUCED, log 13).
The values that log 12 and 14 choose are not stated. -/
def Obligations.ResetsLeaveTheResetValues : Prop :=
  ∀ (s : State) (straps : BitVec 4) (role : Role) (c : Instr),
    c = .powerOnReset straps role ∨ c = .resetPin straps role →
    ∃ t, exec c s = .next (s.withPart t) ∧
      (t.sul.own.number = straps.toNat + 1 ∧ t.sul.role = role ∧ t.sul.serial = s.part.sul.serial ∧
        t.sul.source = .loading) ∧
      (t.tau.sc = 0 ∧ t.tau.mode = .free ∧ t.tau.correction = 0 ∧ t.tau.integral = 0 ∧ t.tau.trim = 0 ∧
        t.tau.resyncTimer = 0 ∧ t.tau.foundingCount = 0 ∧ t.tau.emptyRun = 0 ∧ t.tau.largeRun = 0 ∧
        t.tau.trimWord = 0 ∧ t.tau.trimWords = s.part.tau.trimWords + 1) ∧
      (t.liu.queue = [] ∧ t.liu.tx = none ∧ t.liu.sequence = 0 ∧ t.liu.echoTable = [] ∧ t.liu.echoDelay = none ∧
        t.liu.echoCount = 0 ∧ t.liu.echoLostCount = 0 ∧ t.liu.linkErrors = 0 ∧ t.liu.strays = 0 ∧
        t.liu.txDropped = 0 ∧ t.liu.noticeCount = 19 ∧
        t.liu.badFrames = [] ∧ t.liu.cleanBlocks = 0 ∧ t.liu.txQuiet = 0 ∧ t.liu.rx = none ∧
        t.liu.aborts = if s.part.liu.tx = none then s.part.liu.aborts else s.part.liu.aborts + 1) ∧
      ((∀ x : Station, t.peer x = PeerRecord.cleared) ∧ t.ptb.lagWindow = 0 ∧ t.ptb.winCount = 0) ∧
      (t.cap.station = .loading ∧ t.cap.contribute = false ∧ t.cap.block = none ∧ t.cap.audio = none ∧
        t.cap.talkParcel = none ∧ t.cap.session = .idle ∧ (∀ k : ProgLane, t.cap.detectors[k] = Detector.reset) ∧
        t.cap.digest.window = none ∧ t.cap.digest.spoiled = true) ∧
      (t.ast.buffers = [] ∧ t.ast.free = 8192 ∧ t.ast.notPlaying = 0 ∧ t.ast.storeFull = 0 ∧ t.ast.quiet = 0) ∧
      (t.plu.position = none ∧ t.plu.target = 0 ∧ t.plu.slipPhase = 0 ∧ t.plu.slipCount = 0 ∧
        ∀ (x : Station) (k : LaneNo), t.plu.lane x k = LaneRecord.reset) ∧
      ((∀ (x : Station) (k : ProgLane), t.mxe.map[x][k] = .byRole ∧ t.mxe.resolved[x][k] = 0 ∧
          t.mxe.fallback[x][k] = none ∧ t.mxe.switches[x][k] = ⟨.onPrimary, none, 0⟩) ∧
        (∀ g : GroupIx, t.mxe.groups[g] = ⟨32768, 32768, 10, .linear, none⟩) ∧
        (∀ (o : OutputNo) (g : GroupIx), t.mxe.active[o][g] = (if g.val < 2 then 32768 else 0) ∧
          t.mxe.pendingBank[o][g] = if g.val < 2 then 32768 else 0) ∧
        (∀ o : OutputNo, t.mxe.dither[o] = BitVec.ofNat 32 (1 + o.val) ∧ t.mxe.outputs[o] = 0 ∧
          t.mxe.peaks[o] = 0 ∧ t.mxe.clips[o] = false) ∧
        t.mxe.takeCount = 0 ∧ t.mxe.crossfade = false ∧ t.mxe.duckLevel = 32768 ∧ t.mxe.duckRamp = none ∧
        t.mxe.metersOn = false ∧ t.mxe.meterCount = 0 ∧ t.mxe.clipCount = 0) ∧
      (∀ x : Station, t.imn[x] = ⟨[], 0, false, none⟩) ∧
      (t.faults.list = [] ∧ t.faults.marks = [] ∧ t.faults.conflict = none ∧ t.faultLine = false) ∧
      (t.pnl.framer = .waitType ∧ t.pnl.discard = false ∧ t.pnl.selection = [] ∧ t.pnl.reports = [] ∧
        t.pnl.reportsLost = false)

/-- O3. Formalises R200's third row and R202. The bytes themselves are an operand (log 26). -/
def Obligations.LoadEndTakesAUsableRecord : Prop :=
  ∀ (s : State) (record : List Byte), s.part.cap.station = .loading → record.length = 62 →
    usableRecord record = true →
    exec (.loadEnd record) s = .next (s.withPart { s.part with
      sul := { s.part.sul with source := .loaded, configCommand := [0x03, 0x00, 0x00] }
      settings := readSettings s.part.sul.role record
      cap := { s.part.cap with
        station := .listening
        contribute := (readSettings s.part.sul.role record).contributeAtStart } })

/-- O4. Formalises R201 and R207: the ranges for every record, and which bytes give which setting for a record of 62
bytes. -/
def Obligations.LoadedSettingsStayInRange : Prop :=
  (∀ (role : Role) (record : List Byte),
    let t := readSettings role record
    t.laneCount ≤ 8 ∧ (∀ k : ProgLane, t.laneCount ≤ k.val → t.roles[k] = .none) ∧
      (t.span = 1 ∨ t.span = 2 ∨ t.span = 4) ∧
      96 ≤ t.hmin ∧ t.hmin ≤ t.hmax ∧ t.hmax ≤ 48000 ∧ t.guardTime ≤ 4800 ∧
      (t.slipRate = 100 ∨ t.slipRate = 250 ∨ t.slipRate = 500 ∨ t.slipRate = 1000) ∧
      1 ≤ t.silenceThreshold ∧ t.silenceThreshold ≤ 8388607 ∧ 100 ≤ t.silenceTime ∧ t.silenceTime ≤ 30000 ∧
      t.duckGain ≤ 65535) ∧
  (∀ (role : Role) (record : List Byte), record.length = 62 →
    let t := readSettings role record
    let b : Nat → Nat := fun i => (record.getD i 0).toNat
    let w : Nat → Nat := fun i => b i * 256 + b (i + 1)
    t.laneCount = min (b 0) 8 ∧
      (∀ k : ProgLane, k.val < t.laneCount → t.roles[k] =
        if b (1 + k.val) = 0 then .none else if b (1 + k.val) = 1 then .comm
        else if b (1 + k.val) = 2 then .crowd else if b (1 + k.val) = 3 then .aux
        else if role = .venue ∧ k.val = 0 then .comm else if role = .venue ∧ k.val = 1 then .crowd else .none) ∧
      t.span = (if b 9 = 1 ∨ b 9 = 2 ∨ b 9 = 4 then b 9 else 2) ∧
      t.hmin = max 96 (min 48000 (w 10)) ∧ t.hmax = max t.hmin (min 48000 (w 12)) ∧ t.guardTime = min 4800 (w 14) ∧
      t.slipRate = (if w 16 = 100 ∨ w 16 = 250 ∨ w 16 = 500 ∨ w 16 = 1000 then w 16 else 100) ∧
      t.silenceThreshold = max 1 (min 8388607 (b 18 * 65536 + w 19)) ∧
      t.silenceTime = max 100 (min 30000 (w 21)) ∧ t.duckGain = w 23 ∧
      (∀ o : OutputNo,
        t.outputs[o].word = (if b (25 + 4 * o.val) = 20 then .w20 else if b (25 + 4 * o.val) = 16 then .w16 else .w24) ∧
        t.outputs[o].dither = decide (b (26 + 4 * o.val) = 1) ∧
        t.outputs[o].talkReceive = decide (b (27 + 4 * o.val) ≠ 0) ∧
        t.outputs[o].duckOnTalk =
          decide (b (28 + 4 * o.val) = 1 ∨ b (28 + 4 * o.val) ≠ 0 ∧ role = .venue)) ∧
      t.contributeAtStart = decide (b 57 = 1 ∨ b 57 ≠ 0 ∧ role = .venue))

/-- O5. Formalises R200's first two rows with R178, R179, R182 and R183. -/
def Obligations.LoadEndDefaultsABadRecord : Prop :=
  ∀ (s : State) (record : List Byte), s.part.cap.station = .loading → record.length = 62 →
    usableRecord record = false → s.part.faults.list = [] → s.part.faults.marks = [] →
    s.part.pnl.reports.length ≤ 30 →
    let r : FaultRecord := ⟨⟨.configDefaulted, .none⟩, none, false, s.part.tau.sc.toNat / 48, 1⟩
    ∃ t, exec (.loadEnd record) s = .next (s.withPart t) ∧ t.faultLine = true ∧
      t = { s.part with
        sul := { s.part.sul with source := .defaulted, configCommand := [0x03, 0x00, 0x00] }
        settings := defaultSettings s.part.sul.role
        cap := { s.part.cap with
          station := .listening
          contribute := (defaultSettings s.part.sul.role).contributeAtStart }
        faults := { s.part.faults with list := [r] }
        pnl := { s.part.pnl with
          reports := s.part.pnl.reports ++ [faultReport { r with active := true }, faultReport r] } }

/-- O6. Formalises R193 and the RESTART columns it gathers (R21, R25, R66, R75, R80, R105, R121, R140, R144, R151,
R164, R167, R176, R179, R184). The NOTICE count of 19 is log 13 (DEDUCED). The order of the reports is log 17
(DEDUCED) and log 18 (DESIGN CHOICE). The premise that no two records have one kind and subject is R177's, kept by
StepKeepsThePanelAndFaultLists. That the row is a whole message is log 8 (DEDUCED). -/
def Obligations.RestartClearsTheReceiveSide : Prop :=
  (∀ s : State, s.part.cap.station ≠ .loading → ∃ t, exec .restart s = .next (s.withPart t) ∧
    (t.sul = s.part.sul ∧ t.settings = s.part.settings ∧ t.cap.station = .listening ∧
      t.cap.contribute = s.part.cap.contribute ∧ t.cap.audio = none ∧ t.cap.talkParcel = none ∧
      t.cap.session = .idle ∧ t.cap.input = s.part.cap.input ∧
      t.cap.block = (s.part.cap.block.map fun b => { b with onAir := false }) ∧
      t.cap.digest.window = none ∧ t.cap.digest.spoiled = true ∧
      ∀ k : ProgLane, t.cap.detectors[k] = Detector.reset) ∧
    (t.tau.sc = s.part.tau.sc ∧ t.tau.mode = .free ∧ t.tau.correction = 0 ∧ t.tau.integral = 0 ∧
      t.tau.trim = 0 ∧ t.tau.resyncTimer = 0 ∧ t.tau.foundingCount = 0 ∧ t.tau.emptyRun = 0 ∧
      t.tau.largeRun = 0 ∧ t.tau.trimWord = 0 ∧
      t.tau.trimWords = s.part.tau.trimWords + 1) ∧
    (t.liu.sequence = s.part.liu.sequence ∧ t.liu.queue = [] ∧ t.liu.tx = none ∧ t.liu.echoTable = [] ∧
      t.liu.echoDelay = none ∧ t.liu.echoCount = 0 ∧ t.liu.echoLostCount = 0 ∧ t.liu.noticeCount = 19 ∧
      t.liu.cleanBlocks = 0 ∧ t.liu.txQuiet = 0 ∧ t.liu.linkErrors = 0 ∧ t.liu.strays = 0 ∧
      t.liu.txDropped = 0 ∧ t.liu.badFrames = [] ∧ t.liu.rx = none ∧
      t.liu.aborts = if s.part.liu.tx = none then s.part.liu.aborts else s.part.liu.aborts + 1) ∧
    ((∀ x : Station, t.peer x = PeerRecord.cleared) ∧ t.ptb.lagWindow = 0 ∧ t.ptb.winCount = 0 ∧
      t.ast = ⟨[], 8192, 0, 0, 0⟩ ∧ t.plu = Plu.reset ∧
      ∀ x : Station, t.imn[x] = ⟨[], 0, false, none⟩) ∧
    (t.mxe.map = s.part.mxe.map ∧ t.mxe.resolved = s.part.mxe.resolved ∧ t.mxe.fallback = s.part.mxe.fallback ∧ t.mxe.active = s.part.mxe.active ∧
      t.mxe.pendingBank = s.part.mxe.pendingBank ∧ t.mxe.takeCount = s.part.mxe.takeCount ∧
      t.mxe.dither = s.part.mxe.dither ∧ t.mxe.metersOn = s.part.mxe.metersOn ∧ t.mxe.meterCount = 0 ∧
      t.mxe.duckLevel = 32768 ∧ t.mxe.duckRamp = none ∧ t.mxe.clipCount = 0 ∧ t.mxe.crossfade = false ∧
      (∀ o : OutputNo, t.mxe.outputs[o] = 0 ∧ t.mxe.peaks[o] = 0 ∧ t.mxe.clips[o] = false) ∧
      (∀ (x : Station) (k : ProgLane), t.mxe.switches[x][k] = ⟨.onPrimary, none, 0⟩) ∧
      ∀ g : GroupIx, t.mxe.groups[g] = { s.part.mxe.groups[g] with
        ramp := none
        gain := if s.part.mxe.groups[g].ramp = none then s.part.mxe.groups[g].gain
          else s.part.mxe.groups[g].target }) ∧
    (let stations := List.finRange 16
      let lanes := List.finRange 8
      let own := s.part.sul.own
      let ends : List FaultKey := [⟨.echoLost, .none⟩, ⟨.linkErrors, .none⟩, ⟨.txOverrun, .none⟩] ++
        stations.map (fun x : Station => ⟨.peerLapsed, .station x⟩) ++
        lanes.flatMap (fun k : ProgLane => [⟨.captureSilent, .lane own k⟩, ⟨.captureStuck, .lane own k⟩]) ++
        [⟨.storeFull, .none⟩, ⟨.horizonLimit, .none⟩] ++
        stations.flatMap (fun x : Station => lanes.map fun k : ProgLane => ⟨.laneLoss, .lane x k⟩) ++
        stations.map (fun x : Station => ⟨.digestSuspect, .station x⟩)
      (t.faults.conflict = none ∧ (∀ key ∈ ends, t.faults.isActive key = false) ∧
      ((s.part.faults.list.map (·.key)).Nodup → t.faults.list = s.part.faults.list.map fun r =>
        if r.key ∈ s.part.faults.marks ∧ r.key ∈ ends ∨
            r.key = ⟨.numberConflict, .station s.part.sul.own⟩ ∧ s.part.faults.conflict ≠ none then
          { r with active := false }
        else r)) ∧
      (let peers := (List.finRange 16).filter fun x : Station => (s.part.peer x).state ≠ .absent
      let ended : FaultKey → Option FaultRecord := fun key =>
        (s.part.faults.list.find? (·.key == key)).bind fun r =>
          if r.active = true ∧ (if key.kind = .numberConflict then s.part.faults.conflict ≠ none
              else key ∈ s.part.faults.marks) then
            some { r with active := false }
          else none
      let keys := ⟨.numberConflict, .station s.part.sul.own⟩ :: ends
      t.pnl = ((peers.map (peerReport t) ++ (keys.filterMap ended).map faultReport).foldl Pnl.emit
        s.part.pnl).afterMessage))) ∧
  (∀ s : State, s.part.cap.station = .loading →
    exec .restart s = .next (s.withPart { s.part with pnl := s.part.pnl.afterMessage }))

/-- O7. Formalises R148 with R187. That a row is a whole message, and leaves the framer as its check byte does, is log
8 (DEDUCED). -/
def Obligations.FaderStartsARamp : Prop :=
  ∀ (s : State) (group : Byte) (level : BitVec 16) (g : GroupIx), s.part.cap.station ≠ .loading →
    group.toNat = g.val + 1 →
    let now := s.part.mxe.groups[g]
    let begun : MixGroup := { now with
      target := level.toNat, ramp := some ⟨now.gain, now.slope, now.shape, 0⟩ }
    exec (.fader group level) s = .next (s.withPart { s.part with
      mxe := { s.part.mxe with groups := s.part.mxe.groups.set g.val begun g.isLt }
      pnl := s.part.pnl.afterMessage })

/-- O8. Formalises R150. The FADER that follows is taken by exec on the state that SLOPE answers. That a row is a
whole message, and leaves the framer as its check byte does, is log 8 (DEDUCED). -/
def Obligations.SlopeGovernsTheNextRamp : Prop :=
  ∀ (s : State) (group shape : Byte) (time : BitVec 16) (g : GroupIx) (sh : RampShape),
    s.part.cap.station ≠ .loading → group.toNat = g.val + 1 → time.toNat ∈ [0, 1, 2, 10, 50, 100, 200, 500] →
    (shape = 0x00 ∧ sh = .linear ∨ shape = 0x01 ∧ sh = .eased) →
    let sloped : MixGroup := { s.part.mxe.groups[g] with slope := time.toNat, shape := sh }
    ∃ t, exec (.slope group time shape) s = .next (s.withPart t) ∧
      t = { s.part with
        mxe := { s.part.mxe with groups := s.part.mxe.groups.set g.val sloped g.isLt }
        pnl := s.part.pnl.afterMessage } ∧
      (∀ level : BitVec 16, ∃ u, exec (.fader group level) (s.withPart t) = .next (s.withPart u) ∧
        u.mxe.groups[g].ramp = some ⟨s.part.mxe.groups[g].gain, time.toNat, sh, 0⟩) ∧
      (∀ level : BitVec 16, ∃ u v, exec (.fader group level) s = .next (s.withPart u) ∧
        exec (.slope group time shape) (s.withPart u) = .next (s.withPart v) ∧
        v.mxe.groups[g].slope = time.toNat ∧ v.mxe.groups[g].shape = sh ∧
        v.mxe.groups[g].ramp = some ⟨s.part.mxe.groups[g].gain, s.part.mxe.groups[g].slope,
          s.part.mxe.groups[g].shape, 0⟩)

/-- O9. Formalises R188. That a row is a whole message, and leaves the framer as its check byte does, is log 8
(DEDUCED). -/
def Obligations.SelectBuildsTheSelectionSet : Prop :=
  (∀ (s : State) (station lane : Byte), s.part.cap.station ≠ .loading →
    (station.toNat = 0 ∨ 16 < station.toNat ∨ 7 < lane.toNat →
      exec (.select station lane) s = .next (s.withPart { s.part with
        pnl := s.part.pnl.afterFrame.emit (refusedReport .range 0x03) })) ∧
    (∀ (x : Station) (k : ProgLane), station.toNat = x.val + 1 → lane.toNat = k.val →
      ((x, k) ∈ s.part.pnl.selection →
        exec (.select station lane) s = .next (s.withPart { s.part with pnl := s.part.pnl.afterFrame })) ∧
      ((x, k) ∉ s.part.pnl.selection → s.part.pnl.selection.length < 32 →
        exec (.select station lane) s = .next (s.withPart { s.part with
          pnl := { s.part.pnl.afterFrame with selection := s.part.pnl.selection ++ [(x, k)] } })) ∧
      ((x, k) ∉ s.part.pnl.selection → 32 ≤ s.part.pnl.selection.length →
        exec (.select station lane) s = .next (s.withPart { s.part with
          pnl := s.part.pnl.afterFrame.emit (refusedReport .setFull 0x03) })))) ∧
  (∀ (s : State) (straps : BitVec 4) (role : Role) (c : Instr),
    c = .powerOnReset straps role ∨ c = .resetPin straps role ∨ c = .restart →
    ∃ t, exec c s = .next (s.withPart t) ∧ t.pnl.selection = []) ∧
  (∀ (s t : State) (c : Instr), s.part.pnl.selection.length ≤ 32 → s.part.pnl.selection.Nodup →
    exec c s = .next t → t.part.pnl.selection.length ≤ 32 ∧ t.part.pnl.selection.Nodup)

/-- O10. Formalises R189's accepted messages. That a row is a whole message, and leaves the framer as its check byte
does, is log 8 (DEDUCED). -/
def Obligations.AssignAndFallbackWriteTheSelection : Prop :=
  (∀ (s : State) (value : Byte) (e : MapEntry), s.part.cap.station ≠ .loading →
    (value = 0xFF ∧ e = .byRole ∨ ∃ g : Fin 9, value.toNat = g.val ∧ e = .group g) →
    ∃ m, exec (.assign value) s = .next (s.withPart { s.part with
        mxe := { s.part.mxe with map := m }, pnl := s.part.pnl.afterMessage }) ∧
      ∀ (x : Station) (k : ProgLane),
        m[x][k] = if (x, k) ∈ s.part.pnl.selection then e else s.part.mxe.map[x][k]) ∧
  (∀ (s : State) (value : Byte) (e : Option ProgLane), s.part.cap.station ≠ .loading →
    (value = 0xFF ∧ e = none ∨ ∃ k : ProgLane, value.toNat = k.val ∧ e = some k) →
    ∃ m, exec (.fallback value) s = .next (s.withPart { s.part with
        mxe := { s.part.mxe with fallback := m }, pnl := s.part.pnl.afterMessage }) ∧
      ∀ (x : Station) (k : ProgLane),
        m[x][k] = if (x, k) ∈ s.part.pnl.selection then e else s.part.mxe.fallback[x][k])

/-- O11. Formalises the message parts of R152 and R153. That a row is a whole message, and leaves the framer as its
check byte does, is log 8 (DEDUCED). -/
def Obligations.MatrixAndTakePrepareTheExchange : Prop :=
  (∀ (s : State) (output group : Byte) (gain : BitVec 16) (o : OutputNo) (g : GroupIx),
    s.part.cap.station ≠ .loading → output.toNat = o.val → group.toNat = g.val + 1 →
    exec (.matrix output group gain) s = .next (s.withPart { s.part with
      mxe := { s.part.mxe with
        pendingBank := s.part.mxe.pendingBank.set o.val
          (s.part.mxe.pendingBank[o].set g.val gain.toNat g.isLt) o.isLt }
      pnl := s.part.pnl.afterMessage })) ∧
  (∀ s : State, s.part.cap.station ≠ .loading →
    exec .take s = .next (s.withPart { s.part with
      mxe := { s.part.mxe with takeCount := min (s.part.mxe.takeCount + 1) 255 }
      pnl := s.part.pnl.afterMessage }))

/-- O12. Formalises R163 and R164's LOADING clause. That the report is a command of its own is log 2. That a row is a
whole message, and leaves the framer as its check byte does, is log 8 (DEDUCED). That METERS off leaves the peaks and
clip flags is log 48 (DESIGN CHOICE). -/
def Obligations.MetersBeginAfreshAndReport : Prop :=
  (∀ (s : State) (value : Byte), s.part.cap.station ≠ .loading →
    exec (.meters value) s = .next (s.withPart { s.part with
      mxe :=
        if value = 0 then { s.part.mxe with metersOn := false }
        else if s.part.mxe.metersOn then s.part.mxe
        else { s.part.mxe with
          metersOn := true, meterCount := 0, peaks := Vector.replicate 8 0, clips := Vector.replicate 8 false }
      pnl := s.part.pnl.afterMessage })) ∧
  (∀ s : State, s.part.cap.station ≠ .loading → s.part.moment.due .meter → s.part.mxe.metersOn = true →
    s.part.mxe.meterCount = 19 →
    exec .meterReport s = .next (s.withPart { s.part with
      mxe := { s.part.mxe with
        meterCount := 0, peaks := Vector.replicate 8 0, clips := Vector.replicate 8 false }
      pnl := s.part.pnl.emit (meterReport s.part.mxe)
      moment := s.part.moment.took .meter }))

/-- O13. Formalises test 4 of R187. That a row is a whole message, and leaves the framer as its check byte does, is
log 8 (DEDUCED). -/
def Obligations.LoadingRefusesTheMixMessages : Prop :=
  ∀ (s : State) (c : Instr) (type : Byte), s.part.cap.station = .loading →
    ((∃ g l, c = .fader g l ∧ type = 0x01) ∨ (∃ g n sh, c = .slope g n sh ∧ type = 0x02) ∨
      (∃ v, c = .assign v ∧ type = 0x04) ∨ (∃ v, c = .fallback v ∧ type = 0x05) ∨
      (∃ o g n, c = .matrix o g n ∧ type = 0x06) ∨ (c = .take ∧ type = 0x07) ∨
      (∃ v, c = .meters v ∧ type = 0x0B) ∨ (c = .ackFaults ∧ type = 0x0D) →
      exec c s = .next (s.withPart { s.part with
        pnl := { s.part.pnl.afterFrame.emit (refusedReport .loading type) with selection := [] } })) ∧
    ((∃ x k, c = .select x k) → type = 0x03 →
      exec c s = .next (s.withPart { s.part with
        pnl := s.part.pnl.afterFrame.emit (refusedReport .loading type) }))

/-- O14. Formalises the last column of R205's table (SELECT apart, which R188 covers). That a row is a whole message,
and leaves the framer as its check byte does, is log 8 (DEDUCED). -/
def Obligations.FieldsOutOfRangeAreRefused : Prop :=
  ∀ (s : State) (c : Instr) (type : Byte),
    (s.part.cap.station ≠ .loading ∧
      ((∃ g l, c = .fader g l ∧ type = 0x01 ∧ (g.toNat = 0 ∨ 8 < g.toNat)) ∨
        (∃ g n sh, c = .slope g n sh ∧ type = 0x02 ∧ ((g.toNat = 0 ∨ 8 < g.toNat) ∨
          n.toNat ∉ [0, 1, 2, 10, 50, 100, 200, 500] ∨ 1 < sh.toNat)) ∨
        (∃ v, c = .assign v ∧ type = 0x04 ∧ 8 < v.toNat ∧ v ≠ 0xFF) ∨
        (∃ v, c = .fallback v ∧ type = 0x05 ∧ 7 < v.toNat ∧ v ≠ 0xFF) ∨
        (∃ o g n, c = .matrix o g n ∧ type = 0x06 ∧ (7 < o.toNat ∨ g.toNat = 0 ∨ 8 < g.toNat))) ∨
      (∃ d, c = .talk d ∧ type = 0x08 ∧ 16 < d.toNat) ∨
      (∃ x, c = .queryPeer x ∧ type = 0x0C ∧ (x.toNat = 0 ∨ 16 < x.toNat))) →
    exec c s = .next (s.withPart { s.part with
      pnl := { s.part.pnl.afterFrame.emit (refusedReport .range type) with selection := [] } })

/-- O15. Formalises R83's table and its refusals (RANGE apart). That a row is a whole message, and leaves the framer
as its check byte does, is log 8 (DEDUCED). -/
def Obligations.TalkMovesTheSession : Prop :=
  (∀ (s : State) (x : Byte), x.toNat ≤ 16 → s.part.cap.station ≠ .conflict → s.part.tau.mode.settled = true →
    ∃ ses, exec (.talk x) s = .next (s.withPart { s.part with
        cap := { s.part.cap with session := ses }, pnl := s.part.pnl.afterMessage }) ∧
      (s.part.cap.session = .idle → ses = .starting x) ∧
      (∀ d, s.part.cap.session = .starting d → ses = .starting x) ∧
      (∀ d, s.part.cap.session = .opened d → ses = if x = d then .opened d else .switching d x) ∧
      (∀ d, s.part.cap.session = .ending d → ses = if x = d then .opened d else .switching d x) ∧
      (∀ d d', s.part.cap.session = .switching d d' → ses = if x = d then .opened d else .switching d x)) ∧
  (∀ s : State, ∃ ses, exec .talkOff s = .next (s.withPart { s.part with
        cap := { s.part.cap with session := ses }, pnl := s.part.pnl.afterMessage }) ∧
      (s.part.cap.session = .idle → ses = .idle) ∧
      (∀ d, s.part.cap.session = .starting d → ses = .idle) ∧
      (∀ d, s.part.cap.session = .opened d → ses = .ending d) ∧
      (∀ d, s.part.cap.session = .ending d → ses = .ending d) ∧
      (∀ d d', s.part.cap.session = .switching d d' → ses = .ending d)) ∧
  (∀ (s : State) (x : Byte) (reason : RefusalReason), x.toNat ≤ 16 →
    (s.part.cap.station = .conflict ∧ reason = .conflict ∨
      s.part.cap.station ≠ .conflict ∧ s.part.tau.mode.settled = false ∧ reason = .notSettled) →
    exec (.talk x) s = .next (s.withPart { s.part with
      pnl := { s.part.pnl.afterFrame.emit (refusedReport reason 0x08) with selection := [] } }))

/-- O16. Formalises R192 with R194's queue, table, mark and transmitter. That a row is a whole message, and leaves the
framer as its check byte does, is log 8 (DEDUCED). -/
def Obligations.QueriesQueueTheirReports : Prop :=
  (∀ s : State, s.part.pnl.reports.length < 32 →
    let p := { s.part with pnl := s.part.pnl.afterFrame }
    exec .queryStatus s = .next (s.withPart { s.part with
      pnl := { s.part.pnl.afterMessage with
        reports := s.part.pnl.reports ++ [⟨.status, [statusPayload p]⟩], reportsLost := false } }) ∧
    (∀ (station : Byte) (x : Station), station.toNat = x.val + 1 →
      exec (.queryPeer station) s = .next (s.withPart { s.part with
        pnl := { s.part.pnl.afterMessage with
          reports := s.part.pnl.reports ++
            [⟨.peer, [if x = s.part.sul.own then ownPeerPayload p else peerPayload p x]⟩] } })) ∧
    exec .queryFaults s = .next (s.withPart { s.part with
      pnl := { s.part.pnl.afterMessage with
        reports := s.part.pnl.reports ++ [faultsReport s.part.faults.list] } })) ∧
  (∀ (s : State) (r : Report) (rest : List Report), s.part.pnl.reports = r :: rest →
    exec .reportSend s = .next (s.withPart { s.part with
      pnl := { s.part.pnl with reports := rest, sending := r.payloads.map (panelFrame r.kind.code) } })) ∧
  (∀ s : State, s.part.pnl.reports = [] → exec .reportSend s = .next s) ∧
  (∀ (q : Pnl) (r : Report),
    (q.reports.length < 32 → q.emit r = { q with reports := q.reports ++ [r] }) ∧
    (32 ≤ q.reports.length → (r.kind = .meter ∨ ∀ y ∈ q.reports, y.kind ≠ .meter) →
      q.emit r = { q with reportsLost := true }) ∧
    (∀ (before after : List Report) (m : Report), 32 ≤ q.reports.length → r.kind ≠ .meter →
      q.reports = before ++ m :: after → m.kind = .meter → (∀ y ∈ before, y.kind ≠ .meter) →
      q.emit r = { q with reports := before ++ after ++ [r], reportsLost := true }))

/-- O17. Formalises the layouts of R206 with R195, R196, R197, R203 and the check byte of R185. In the PEER report of
the own number the state is LISTENING in LOADING and CONFLICT, the fields of a record are 0 and the fallbacks in use
FFH, which is log 22 (DEDUCED). -/
def Obligations.ReportPayloadsCarryTheirFields : Prop :=
  (∀ p : Part, (statusPayload p).length = 57 ∧ (ownPeerPayload p).length = 109 ∧
    ∀ x : Station, (peerPayload p x).length = 109) ∧
  (∀ m : Mxe, (meterReport m).payloads.map List.length = [32]) ∧
  (∀ r : FaultRecord, (faultReport r).payloads.map List.length = [12]) ∧
  (∀ (reason : RefusalReason) (type : Byte), (refusedReport reason type).payloads.map List.length = [2]) ∧
  (∀ rs : List FaultRecord, rs.length ≤ 16 →
    (faultsReport rs).payloads.map List.length = [2 + 12 * rs.length]) ∧
  (∀ rs : List FaultRecord, 16 < rs.length →
    (faultsReport rs).payloads.map List.length = [194, 2 + 12 * (rs.length - 16)]) ∧
  (∀ (r : Report) (f : List Byte), f ∈ reportFrames r → byteSum f = 0) ∧
  (∀ p : Part,
    let v : Nat → Nat → Nat := fieldAt (statusPayload p)
    let mark : Bool → Nat := fun b => if b = true then 1 else 0
    v 0 1 = p.sul.own.val + 1 ∧ v 1 1 = (if p.sul.role = .venue then 0 else 1) ∧
      v 2 1 = (match p.sul.source with | .loading => 0 | .loaded => 1 | .defaulted => 2) ∧
      v 3 1 = (match p.cap.station with | .loading => 0 | .listening => 1 | .onAir => 2 | .conflict => 3) ∧
      v 4 1 = mark (decide (p.cap.contribute = true ∧ p.cap.station ≠ .onAir)) ∧
      v 5 1 = (match p.tau.mode with | .free => 0 | .acquiring => 1 | .tracking => 2 | .holdover => 3) ∧
      (v 6 6 : Int) = p.tau.correction % 281474976710656 ∧ (v 12 2 : Int) = p.tau.trim % 65536 ∧
      (v 14 2 : Int) = p.tau.integral % 65536 ∧
      (∀ e, p.liu.echoCount = 4 → p.liu.echoDelay = some e → e ≤ 65535 → v 16 3 = e) ∧
      (p.liu.echoCount ≠ 4 → v 16 3 = 16777215) ∧
      v 19 1 = mark p.plu.position.isSome ∧ (v 20 3 : Int) = p.horizon % 16777216 ∧
      v 23 2 = (if p.plu.position = none then 0 else p.plu.target % 65536) ∧ v 25 2 = p.ast.free % 65536 ∧
      v 27 4 = p.liu.linkErrors % 4294967296 ∧ v 31 4 = p.liu.txDropped % 4294967296 ∧
      v 35 4 = p.liu.strays % 4294967296 ∧ v 39 4 = p.ast.notPlaying % 4294967296 ∧
      v 43 4 = p.ast.storeFull % 4294967296 ∧ v 47 4 = p.plu.slipCount % 4294967296 ∧
      v 51 4 = p.mxe.clipCount % 4294967296 ∧ v 55 1 = p.faults.list.length % 256 ∧
      v 56 1 = mark p.pnl.reportsLost) ∧
  (∀ (p : Part) (x : Station),
    let v : Nat → Nat → Nat := fieldAt (peerPayload p x)
    let mark : Bool → Nat := fun b => if b = true then 1 else 0
    let r := p.peer x
    v 0 1 = mark r.serial.isSome + 2 * mark r.announced.isSome + 4 * mark r.echoDelay.isSome +
        8 * mark r.offset.isSome ∧
      v 1 1 = x.val + 1 ∧
      v 2 1 = (match r.state with | .absent => 0 | .joining => 1 | .present => 2 | .lapsed => 3) ∧
      v 3 6 = (match r.serial with | some n => n.toNat | none => 0) ∧
      v 11 3 = (match r.echoDelay with | some e => e % 16777216 | none => 0) ∧
      (r.announced = none → v 9 2 = 0 ∧ v 14 13 = 0) ∧
      (∀ a, r.announced = some a → v 9 1 = (if a.onAir = true then 2 else 1) ∧
        v 10 1 = (match a.mode with | .free => 0 | .acquiring => 1 | .tracking => 2 | .holdover => 3) ∧
        v 14 3 = a.horizon % 16777216 ∧ v 17 1 = a.laneCount % 256 ∧
        (∀ k : ProgLane, v (18 + k.val) 1 =
          match a.roles[k] with | .none => 0 | .comm => 1 | .crowd => 2 | .aux => 3) ∧
        v 26 1 = (match a.talkDestination with | some d => d % 256 | none => 255)) ∧
      v 27 1 = mark r.talkActive + 2 * mark r.reseed ∧ v 28 1 = r.resyncSeen % 256 ∧
      v 29 2 = r.lastSequence.toNat ∧ v 31 2 = r.gapCount % 65536 ∧ v 33 2 = r.outOfOrder % 65536 ∧
      v 35 6 = r.lastHeard.toNat ∧ v 41 2 = r.quietCount % 65536 ∧ v 43 2 = r.joinCount % 65536 ∧
      (v 45 4 : Int) = (match r.offset with | some f => f % 4294967296 | none => 0) ∧
      v 49 1 = r.measurements % 256 ∧ v 50 1 = r.outlierRun % 256 ∧ v 51 2 = r.lagCurrent % 65536 ∧
      v 53 2 = r.lagPrevious % 65536 ∧ v 55 2 = r.late % 65536 ∧ v 57 2 = r.early % 65536 ∧
      v 59 2 = r.duplicate % 65536 ∧ v 61 2 = r.format % 65536 ∧ v 63 2 = r.unsettled % 65536 ∧
      (∀ k : LaneNo, v (65 + k.val) 1 = match (p.plu.lane x k).state with
        | .idle => 0 | .playing => 1 | .concealing n => 2 + n.val | .muted => 6 | .recovering => 7) ∧
      (∀ k : ProgLane,
        v (74 + 4 * k.val) 1 = (match (p.mxe.switches[x][k]).state with
          | .onPrimary => 0 | .toFallback => 1 | .onFallback => 2 | .toPrimary => 3) ∧
        v (75 + 4 * k.val) 1 = (match (p.mxe.switches[x][k]).inUse with | some u => u.val | none => 255) ∧
        v (76 + 4 * k.val) 1 = (match p.mxe.map[x][k] with | .byRole => 255 | .group g => g.val) ∧
        v (77 + 4 * k.val) 1 = (p.mxe.resolved[x][k]).val) ∧
      v 106 1 = (p.imn[x]).mismatchRun % 256 ∧ v 107 1 = mark (p.imn[x]).suspect ∧
      v 108 1 = (match (p.imn[x]).outcome with
        | none => 0 | some .agreed => 1 | some .mismatch => 2 | some .incomplete => 3)) ∧
  (∀ p : Part,
    let v : Nat → Nat → Nat := fieldAt (ownPeerPayload p)
    v 0 1 = (if p.liu.echoCount = 4 ∧ p.liu.echoDelay ≠ none then 7 else 3) ∧ v 1 1 = p.sul.own.val + 1 ∧
      v 2 1 = 0 ∧ v 3 6 = p.sul.serial.toNat ∧ v 9 1 = (if p.cap.station = .onAir then 2 else 1) ∧
      v 10 1 = (match p.tau.mode with | .free => 0 | .acquiring => 1 | .tracking => 2 | .holdover => 3) ∧
      (∀ e, p.liu.echoCount = 4 → p.liu.echoDelay = some e → e ≤ 65535 → v 11 3 = e) ∧
      (p.liu.echoCount ≠ 4 → v 11 3 = 0) ∧
      (v 14 3 : Int) = p.horizon % 16777216 ∧ v 17 1 = p.settings.laneCount % 256 ∧
      (∀ k : ProgLane, v (18 + k.val) 1 = if p.settings.laneCount ≤ k.val then 0 else
        match p.settings.roles[k] with | .none => 0 | .comm => 1 | .crowd => 2 | .aux => 3) ∧
      v 26 1 = (match p.cap.session.announced with | some d => d.toNat | none => 255) ∧
      (∀ i < 38, v (27 + i) 1 = 0) ∧ (∀ k : LaneNo, v (65 + k.val) 1 = 255) ∧ v 106 3 = 0 ∧
      (∀ k : ProgLane, v (74 + 4 * k.val) 2 = 65535 ∧
        v (76 + 4 * k.val) 1 = (match p.mxe.map[p.sul.own][k] with | .byRole => 255 | .group g => g.val) ∧
        v (77 + 4 * k.val) 1 = 0)) ∧
  (∀ (m : Mxe) (b : List Byte), (meterReport m).payloads = [b] → ∀ o : OutputNo,
    fieldAt b (4 * o.val) 3 = m.peaks[o] % 16777216 ∧
      fieldAt b (4 * o.val + 3) 1 = if m.clips[o] = true then 1 else 0) ∧
  (∀ (r : FaultRecord) (b : List Byte), (faultReport r).payloads = [b] →
    let v : Nat → Nat → Nat := fieldAt b
    v 0 1 = (match r.key.kind with
        | .linkErrors => 1 | .txOverrun => 2 | .echoLost => 3 | .numberConflict => 4 | .peerLapsed => 5
        | .digestSuspect => 6 | .captureSilent => 7 | .captureStuck => 8 | .laneLoss => 9 | .storeFull => 10
        | .horizonLimit => 11 | .configDefaulted => 12 | .overflow => 13) ∧
      (r.key.subject = .none → v 1 1 = 0 ∧ v 2 1 = 255) ∧
      (∀ x : Station, r.key.subject = .station x → v 1 1 = x.val + 1 ∧ v 2 1 = 255) ∧
      (∀ (x : Station) (k : ProgLane), r.key.subject = .lane x k → v 1 1 = x.val + 1 ∧ v 2 1 = k.val) ∧
      v 3 1 = (match r.detail with | none => 0 | some .won => 1 | some .lost => 2) ∧
      v 4 1 = (if r.active = true then 1 else 2) ∧ v 5 6 = r.firstBlock % 281474976710656 ∧
      v 11 1 = r.count % 256) ∧
  (∀ (rs : List FaultRecord) (b : List Byte), (faultsReport rs).payloads = [b] →
    fieldAt b 0 1 = rs.length % 256 ∧ fieldAt b 1 1 = 1 ∧
      ∀ (i : Nat) (r : FaultRecord), rs[i]? = some r → (faultReport r).payloads = [(b.drop (2 + 12 * i)).take 12]) ∧
  (∀ (rs : List FaultRecord) (b c : List Byte), (faultsReport rs).payloads = [b, c] →
    fieldAt b 0 1 = rs.length % 256 ∧ fieldAt c 0 1 = rs.length % 256 ∧ fieldAt b 1 1 = 1 ∧ fieldAt c 1 1 = 17 ∧
      ∀ (i : Nat) (r : FaultRecord), rs[i]? = some r → (faultReport r).payloads =
        [if i < 16 then (b.drop (2 + 12 * i)).take 12 else (c.drop (2 + 12 * (i - 16))).take 12]) ∧
  (∀ (reason : RefusalReason) (type : Byte), (refusedReport reason type).payloads = [[match reason with
    | .badFrame => 1 | .unknown => 2 | .loading => 3 | .range => 4 | .setFull => 5 | .conflict => 6
    | .notSettled => 7, type]])

/-- O18. Formalises R181. The order of an ACK_FAULTS and a raise or an end is the order in which they are taken. That
a row is a whole message, and leaves the framer as its check byte does, is log 8 (DEDUCED). -/
def Obligations.AckFaultsRemovesEndedRecords : Prop :=
  (∀ s : State, s.part.cap.station ≠ .loading →
    exec .ackFaults s = .next (s.withPart { s.part with
      faults := { s.part.faults with list := s.part.faults.list.filter (fun r => r.active) }
      pnl := s.part.pnl.afterMessage })) ∧
  (∀ s : State, s.part.cap.station = .loading → ∃ t, exec .ackFaults s = .next (s.withPart t) ∧
    t.faults = s.part.faults) ∧
  (∀ (p : Part) (key : FaultKey), p.faults.isActive key = false → p.faults.list.length < 32 →
    (∀ r ∈ p.faults.list, r.key ≠ key) →
    (p.raiseFault key).faults.list = p.faults.list ++ [⟨key, none, true, p.tau.sc.toNat / 48, 1⟩]) ∧
  (∀ (p : Part) (key : FaultKey) (r : FaultRecord), r ∈ (p.raiseFault key).faults.list → r.key = key →
    key ∉ p.faults.marks → (p.faults.list.map (·.key)).Nodup → key.kind ≠ .overflow → r.active = true) ∧
  (∀ (p : Part) (key : FaultKey) (r : FaultRecord), r ∈ (p.endFault key).faults.list → r.key = key →
    key ∈ p.faults.marks → (p.faults.list.map (·.key)).Nodup → r.active = false)

/-- O19. Formalises tests 1 to 3 of R187 with R205's lengths. The length byte is the payload's length (log 23). That a
row is a whole message, and leaves the framer as its check byte does, is log 8 (DEDUCED). -/
def Obligations.UnknownMessagesAreRefused : Prop :=
  ∀ (s : State) (type check : Byte) (payload : List Byte) (reason : RefusalReason), payload.length ≤ 32 →
    let sum := byteSum (type :: BitVec.ofNat 8 payload.length :: payload ++ [check])
    let lengths := [0, 3, 4, 2, 1, 1, 4, 0, 1, 0, 1, 1, 2, 0, 0]
    (sum ≠ 0 ∧ reason = .badFrame ∨
      sum = 0 ∧ (type.toNat = 0 ∨ 14 < type.toNat) ∧ reason = .unknown ∨
      sum = 0 ∧ 1 ≤ type.toNat ∧ type.toNat ≤ 14 ∧ payload.length ≠ lengths.getD type.toNat 0 ∧
        reason = .badFrame) →
    exec (.unknownMessage type payload check) s = .next (s.withPart { s.part with
      pnl := s.part.pnl.afterFrame.emit (refusedReport reason type) })

/-- O20. Formalises R186's table. The check byte in WAIT_CHECK is PanelBytesSpellTheirMessage and
UnknownMessagesAreRefused. The idle timer's steps are log 16. -/
def Obligations.PanelBytesMoveTheFramer : Prop :=
  ∀ (s : State) (b : Byte) (stop : Bool),
    let q := s.part.pnl
    let t : Pnl → State := fun q' => s.withPart { s.part with pnl := q' }
    let bad : Byte → Pnl := fun type =>
      ({ q with framer := .waitType, discard := true, idle := 0 } : Pnl).emit (refusedReport .badFrame type)
    (q.framer = .waitType → q.discard = true →
      exec (.panelByte b) s = .next (t { q with idle := 0 }) ∧
      exec (.panelFramingError stop b) s = .next (t { q with idle := 0 })) ∧
    (q.framer = .waitType → q.discard = false →
      exec (.panelByte b) s = .next (t { q with framer := .waitLength, msgType := b, idle := 0 }) ∧
      exec (.panelFramingError false b) s = .next (t (bad 0))) ∧
    (q.framer = .waitLength →
      (b.toNat ≤ 32 → exec (.panelByte b) s = .next (t { q with
        framer := if b = 0 then .waitCheck else .payload, msgLength := b, msgPayload := [], idle := 0 })) ∧
      (32 < b.toNat → exec (.panelByte b) s = .next (t (bad q.msgType)) ∧
        exec (.panelFramingError true b) s = .next (t (bad q.msgType))) ∧
      exec (.panelFramingError false b) s = .next (t (bad q.msgType))) ∧
    (q.framer = .payload →
      exec (.panelByte b) s = .next (t { q with
        framer := if q.msgLength.toNat ≤ q.msgPayload.length + 1 then .waitCheck else .payload
        msgPayload := q.msgPayload ++ [b], idle := 0 }) ∧
      exec (.panelFramingError false b) s = .next (t (bad q.msgType))) ∧
    (q.framer = .waitCheck → exec (.panelFramingError false b) s = .next (t (bad q.msgType))) ∧
    exec .panelIdleTimeout s = .next (t (
      if q.framer = .waitType then { q with discard := false, idle := 2 }
      else ({ q with framer := .waitType, discard := false, idle := 2 } : Pnl).emit
        (refusedReport .badFrame q.msgType)))

/-- O21. Formalises R185, R186, R187 and R205 over a run of commands. That a row and its frame agree but for the
framer's type and length bytes is log 8 (DEDUCED). -/
def Obligations.PanelBytesSpellTheirMessage : Prop :=
  (∀ s : State, s.part.pnl.framer = .waitType → s.part.pnl.discard = false →
    (∀ (g hi lo check : Byte), byteSum [0x01, 0x03, g, hi, lo, check] = 0 →
      core.run 6 { s with pending := [Instr.panelByte 0x01, .panelByte 0x03, .panelByte g, .panelByte hi,
        .panelByte lo, .panelByte check] } =
      exec (.fader g (hi ++ lo)) { s with
        pending := []
        part := { s.part with pnl := { s.part.pnl with msgType := 0x01, msgLength := 0x03 } } }) ∧
    (∀ (type check : Byte) (payload : List Byte), payload.length ≤ 32 →
      (frameRefusal type (BitVec.ofNat 8 payload.length) payload check).isSome = true →
      core.run (payload.length + 3) { s with
        pending := (type :: BitVec.ofNat 8 payload.length :: payload ++ [check]).map Instr.panelByte } =
      exec (.unknownMessage type payload check) { s with
        pending := []
        part := { s.part with pnl := { s.part.pnl with
          msgType := type, msgLength := BitVec.ofNat 8 payload.length } } })) ∧
  (∀ s : State, s.part.pnl.framer = .waitType → s.part.pnl.discard = false →
    ∀ (type check : Byte) (payload : List Byte), payload.length ≤ 32 →
      frameRefusal type (BitVec.ofNat 8 payload.length) payload check = none →
      core.run (payload.length + 3) { s with
        pending := (type :: BitVec.ofNat 8 payload.length :: payload ++ [check]).map Instr.panelByte } =
      .next { s with
        pending := []
        part := Part.actMessage type payload { s.part with pnl := { s.part.pnl with
          msgType := type, msgLength := BitVec.ofNat 8 payload.length } } }) ∧
  (∀ (s : State) (a b c d : Byte),
    let acts : Byte → List Byte → Host.Outcome State Fault Refusal := fun type payload =>
      .next (s.withPart (Part.actMessage type payload s.part))
    exec (.fader a (b ++ c)) s = acts 0x01 [a, b, c] ∧ exec (.slope a (b ++ c) d) s = acts 0x02 [a, b, c, d] ∧
      exec (.select a b) s = acts 0x03 [a, b] ∧ exec (.assign a) s = acts 0x04 [a] ∧
      exec (.fallback a) s = acts 0x05 [a] ∧ exec (.matrix a b (c ++ d)) s = acts 0x06 [a, b, c, d] ∧
      exec .take s = acts 0x07 [] ∧ exec (.talk a) s = acts 0x08 [a] ∧ exec .talkOff s = acts 0x09 [] ∧
      exec (.contribute a) s = acts 0x0A [a] ∧ exec (.meters a) s = acts 0x0B [a] ∧
      exec .queryStatus s = acts 0x0C [0x01, a] ∧ exec (.queryPeer a) s = acts 0x0C [0x02, a] ∧
      exec .queryFaults s = acts 0x0C [0x03, a] ∧ exec .ackFaults s = acts 0x0D [] ∧
      exec .restart s = acts 0x0E [] ∧
      (a.toNat = 0 ∨ 3 < a.toNat →
        acts 0x0C [a, b] = .next (s.withPart { s.part with
          pnl := { s.part.pnl.afterFrame.emit (refusedReport .range 0x0C) with selection := [] } })))

/-- O22. Formalises R2, R8, R9, R17's joining and the last sentence of R48 and R57. An echo entry of the same number
gives way (log 34); that the instant's work comes first is log 21 (DEDUCED). -/
def Obligations.HandoverNumbersAndStampsTheHead : Prop :=
  (∀ (s : State) (x : Parcel) (rest : List Parcel), s.part.liu.queue = x :: rest → s.part.liu.tx = none →
    (s.part.cap.station = .listening ∨ s.part.cap.station = .onAir) → s.part.moment.tauDue = false →
    ∃ f table, exec .parcelHandover s = .next (s.withPart { s.part with liu := { s.part.liu with
        queue := rest, tx := some f, sequence := s.part.liu.sequence + 1, echoTable := table } }) ∧
      f.parcel = x ∧ f.sequence = s.part.liu.sequence ∧
      f.stamp = s.part.tau.sc + BitVec.ofInt 48 s.part.tau.correction ∧
      f.resync = decide (s.part.tau.resyncTimer ≠ 0) ∧
      f.bytes = frameBytes (headerBytes s.part.sul.own x f.sequence f.stamp f.resync)
        (parcelBody s.part.noticeBody x) ∧
      ((∀ e ∈ s.part.liu.echoTable, e.sequence ≠ s.part.liu.sequence) →
        table = (if s.part.liu.echoTable.length < 16 then s.part.liu.echoTable else s.part.liu.echoTable.drop 1) ++
          [⟨s.part.liu.sequence, s.part.tau.sc⟩])) ∧
  (∀ s : State, s.part.liu.queue ≠ [] → s.part.liu.tx = none →
    (s.part.cap.station = .listening ∨ s.part.cap.station = .onAir) → s.part.moment.tauDue = true →
    s.part.tauWork.moment.tauDue = false ∧ s.part.tauWork.liu.queue = s.part.liu.queue ∧
      exec .parcelHandover s = exec .parcelHandover (s.withPart s.part.tauWork)) ∧
  (∀ s : State, (s.part.liu.queue = [] ∨ s.part.liu.tx ≠ none ∨ s.part.cap.station = .loading ∨
      s.part.cap.station = .conflict) → exec .parcelHandover s = .next s) ∧
  (∀ s : State, exec .frameSent s = .next (s.withPart { s.part with liu := { s.part.liu with tx := none } }))

/-- O23. Formalises R12, R13, R14 and R15. At an agreement instant the stamp's CT is formed with the K that the
instant leaves (R48; log 21, DEDUCED). That a frame begun in LOADING is judged by the state at its release is log 35.
A difference across the wrap of SC is log 25. -/
def Obligations.FailingFramesAreDroppedAndCounted : Prop :=
  (∀ s : State, s.part.moment.tauDue = false →
    exec .linkRxframeAssert s = .next (s.withPart { s.part with liu := { s.part.liu with
      rx := some ⟨s.part.tau.sc, s.part.tau.sc + BitVec.ofInt 48 s.part.tau.correction⟩
      frameStore := [], overlength := false } })) ∧
  (∀ s : State, s.part.moment.tauDue = true → s.part.tauWork.moment.tauDue = false ∧
    exec .linkRxframeAssert s = exec .linkRxframeAssert (s.withPart s.part.tauWork)) ∧
  (∀ (s : State) (st : ArrivalStamp) (bytes : List Byte), s.part.liu.rx = some st →
    let n := bytes.length
    let at_ : Nat → Nat := fun i => (bytes.getD i 0).toNat
    let l := { s.part.liu with rx := none, frameStore := bytes.take 4641, overlength := decide (4641 < n) }
    (s.part.cap.station = .loading →
      exec (.linkRxframeRelease bytes) s = .next (s.withPart { s.part with liu := l })) ∧
    (s.part.cap.station ≠ .loading →
      (4641 < n ∨ n < 22 ∨ crcAgrees bytes = false ∨ at_ 0 = 0 ∨ 3 < at_ 0 ∨ at_ 1 = 0 ∨ 16 < at_ 1 ∨
        (at_ 0 ≤ 2 ∧ (at_ 15 = 0 ∨ 4 < at_ 15)) ∨ (at_ 0 = 1 ∧ (at_ 16 = 0 ∨ 8 < at_ 16)) ∨
        (at_ 0 = 2 ∧ at_ 16 ≠ 1) ∨
        (at_ 0 = 1 ∧ n ≠ 22 + at_ 16 + 144 * at_ 15 * at_ 16 + (if (bytes.getD 2 0).getLsbD 1 then 3 else 0)) ∨
        (at_ 0 = 2 ∧ n ≠ 23 + 144 * at_ 15) ∨ (at_ 0 = 3 ∧ n ≠ 46)) →
      let joined := s.part.liu.badFrames ++ [st.sc.toNat / 48]
      let record := if 10 < joined.length then joined.drop 1 else joined
      let p := { s.part with liu := { l with
        linkErrors := min (s.part.liu.linkErrors + 1) 4294967295, badFrames := record, cleanBlocks := 0 } }
      exec (.linkRxframeRelease bytes) s = .next (s.withPart
        (if record.length = 10 ∧ record.getLastD 0 < record.headD 0 + 1000 then
          p.raiseFault ⟨.linkErrors, .none⟩ else p)))) ∧
  (∀ (s : State) (bytes : List Byte), s.part.liu.rx = none → exec (.linkRxframeRelease bytes) s = .next s)

/-- O24. Formalises R16 to R19 and the end of R20. The premise that echo numbers are distinct is R17's, kept by
StepKeepsTheLinkInBounds. -/
def Obligations.OwnFramesMeasureTheEcho : Prop :=
  ∀ (s : State) (st : ArrivalStamp) (bytes : List Byte) (x : RxParcel), s.part.liu.rx = some st →
    s.part.cap.station ≠ .loading → goodFrame (decide (4641 < bytes.length)) (bytes.take 4641) = some x →
    x.source = s.part.sul.own → (x.kind ≠ .notice ∨ noticeSerial x.notice = s.part.sul.serial) →
    (s.part.liu.echoTable.map (·.sequence)).Nodup →
    let l := { s.part.liu with
      rx := none, frameStore := bytes.take 4641, overlength := decide (4641 < bytes.length) }
    let kept := s.part.liu.echoTable.filter fun y => y.sequence ≠ x.sequence
    ((∀ y ∈ s.part.liu.echoTable, y.sequence ≠ x.sequence) →
      exec (.linkRxframeRelease bytes) s = .next (s.withPart { s.part with
        liu := { l with strays := min (s.part.liu.strays + 1) 4294967295 } })) ∧
    (∀ y ∈ s.part.liu.echoTable, y.sequence = x.sequence → 65535 < (st.sc - y.sc).toNat →
      exec (.linkRxframeRelease bytes) s = .next (s.withPart { s.part with
        liu := { l with echoTable := kept } })) ∧
    (∀ y ∈ s.part.liu.echoTable, ∀ e : Nat, y.sequence = x.sequence → (st.sc - y.sc).toNat = e → e ≤ 65535 →
      exec (.linkRxframeRelease bytes) s = .next (s.withPart
        (({ s.part with liu := { l with
          echoTable := kept
          echoDelay := some (match s.part.liu.echoCount, s.part.liu.echoDelay with
            | 0, _ => e
            | _, none => e
            | _, some held => ((held : Int) + Int.fdiv ((e : Int) - held) 8).toNat)
          echoCount := min (s.part.liu.echoCount + 1) 4
          echoLostCount := 0 } } : Part).endFault ⟨.echoLost, .none⟩)))

/-- O25. Formalises R26, R27, R28, R30, R32, R33, R34, R35, R36, R38, R39 and R173's first row for a NOTICE. The
content of the reports is log 17, that a first C_B spoils no entry is log 20, and the tick that a RESYNC parcel
overtakes is log 36 (all DEDUCED). What removal does is ExpiriesRemoveTheRecord. -/
def Obligations.NoticeArrivalsUpdateTheRecord : Prop :=
  (∀ (s : State) (st : ArrivalStamp) (bytes : List Byte) (x : RxParcel) (v : NoticeValues),
    s.part.liu.rx = some st → s.part.cap.station ≠ .loading →
    goodFrame (decide (4641 < bytes.length)) (bytes.take 4641) = some x → x.kind = .notice →
    goodNotice x.notice = some v → x.source ≠ s.part.sul.own → s.part.peer x.source = PeerRecord.cleared →
    let measured := decide (s.part.liu.echoCount = 4 ∧ s.part.liu.echoDelay ≠ none ∧ v.echoDelay ≠ none ∧
      s.part.tau.mode ≠ .free)
    let path := (s.part.liu.echoDelay.getD 0 + v.echoDelay.getD 0) / 2
    let raw := (st.sc + BitVec.ofInt 48 s.part.tau.correction - BitVec.ofNat 48 path - x.stamp).toInt
    let talk := match v.announced.talkDestination with
      | some d => decide (d = 0 ∨ d = s.part.sul.own.number)
      | none => false
    let joined : PeerRecord := { PeerRecord.cleared with
      state := .joining, lastSequence := x.sequence, lastHeard := st.sc }
    let entered : PeerRecord := { joined with
      state := .present, serial := some v.serial, announced := some v.announced, echoDelay := v.echoDelay
      resyncSeen := if x.resync then 200 else 0, reseed := x.resync }
    let withRecord : PeerRecord → Part := fun r => { s.part with
      ptb := { s.part.ptb with records := s.part.ptb.records.set x.source.val r x.source.isLt } }
    ∃ t, exec (.linkRxframeRelease bytes) s = .next (s.withPart t) ∧
      t.peer x.source = { PeerRecord.cleared with
        state := .present, serial := some v.serial, announced := some v.announced, echoDelay := v.echoDelay
        talkActive := talk
        resyncSeen := if x.resync then 200 else 0
        reseed := x.resync && !measured
        lastSequence := x.sequence, lastHeard := st.sc
        offset := if measured then some (16 * max (-8388608) (min 8388607 raw)) else none
        measurements := if measured then 1 else 0 } ∧
      (∀ y : Station, y ≠ x.source → t.peer y = s.part.peer y) ∧
      t.pnl = (s.part.pnl.emit ⟨.peer, [peerPayload (withRecord joined) x.source]⟩).emit
        ⟨.peer, [peerPayload (withRecord entered) x.source]⟩ ∧
      t = { s.part with
        liu := { s.part.liu with
          rx := none, frameStore := bytes.take 4641, overlength := decide (4641 < bytes.length) }
        ptb := { s.part.ptb with records := t.ptb.records }
        pnl := t.pnl }) ∧
  (∀ (s : State) (st : ArrivalStamp) (bytes : List Byte) (x : RxParcel),
    s.part.liu.rx = some st → s.part.cap.station ≠ .loading →
    goodFrame (decide (4641 < bytes.length)) (bytes.take 4641) = some x → x.kind = .notice →
    x.source ≠ s.part.sul.own → (s.part.peer x.source).state ≠ .absent →
    let r := s.part.peer x.source
    let heard := r.heard st.sc x.sequence x.resync
    let overtaken := x.resync = true ∧ r.resyncSeen = 1 ∧ s.part.moment.due (.resyncSeen x.source)
    let report : PeerRecord → Report := fun v => ⟨.peer, [peerPayload { s.part with
      ptb := { s.part.ptb with records := s.part.ptb.records.set x.source.val v x.source.isLt } } x.source]⟩
    let returned : Part := if r.state = .lapsed then
        ({ s.part with pnl := s.part.pnl.emit (report { r with
          state := .present, lastHeard := st.sc, quietCount := 0 }) } : Part).endFault ⟨.peerLapsed, .station x.source⟩
      else s.part
    let frame : Part → Part := fun t => { s.part with
      liu := { s.part.liu with
        rx := none, frameStore := bytes.take 4641, overlength := decide (4641 < bytes.length) }
      ptb := { s.part.ptb with records := t.ptb.records }
      imn := t.imn
      faults := if r.state = .lapsed then (s.part.endFault ⟨.peerLapsed, .station x.source⟩).faults else s.part.faults
      pnl := t.pnl
      moment := if overtaken then s.part.moment.took (.resyncSeen x.source) else s.part.moment }
    (goodNotice x.notice = none →
      ∃ t, exec (.linkRxframeRelease bytes) s = .next (s.withPart t) ∧ t = frame t ∧
        t.peer x.source = { heard with format := min (r.format + 1) 65535 }.measuredAt s.part st.sc x.stamp ∧
        (∀ y : Station, y ≠ x.source → t.peer y = s.part.peer y) ∧ t.imn = s.part.imn ∧ t.pnl = returned.pnl) ∧
    (∀ v : NoticeValues, goodNotice x.notice = some v → (r.serial = none ∨ r.serial = some v.serial) →
      ∃ t, exec (.linkRxframeRelease bytes) s = .next (s.withPart t) ∧ t = frame t ∧
        t.peer x.source = { heard with
          state := if heard.state = RecordState.joining then .present else heard.state
          serial := some v.serial, announced := some v.announced, echoDelay := v.echoDelay
          talkActive := match v.announced.talkDestination with
            | some d => decide (d = 0 ∨ d = s.part.sul.own.number)
            | none => false }.measuredAt s.part st.sc x.stamp ∧
        (∀ y : Station, y ≠ x.source → t.peer y = s.part.peer y ∧ t.imn[y] = s.part.imn[y]) ∧
        t.imn[x.source] = match r.announced with
          | some a => if a.laneCount = v.announced.laneCount then s.part.imn[x.source] else
              { s.part.imn[x.source] with
                entries := s.part.imn[x.source].entries.map fun e => { e with spoiled := true } }
          | none => s.part.imn[x.source]) ∧
    (∀ v : NoticeValues, goodNotice x.notice = some v → (r.serial = none ∨ r.serial = some v.serial) →
      ∃ t, exec (.linkRxframeRelease bytes) s = .next (s.withPart t) ∧
        t.pnl = if r.state = .joining then
            s.part.pnl.emit (report { heard with
              state := .present, serial := some v.serial, announced := some v.announced, echoDelay := v.echoDelay })
          else returned.pnl) ∧
    (∀ (v : NoticeValues) (held : Serial), goodNotice x.notice = some v → r.serial = some held → held ≠ v.serial →
      exec (.linkRxframeRelease bytes) s = exec (.linkRxframeRelease bytes) (s.withPart (s.part.removePeer x.source)))) ∧
  (∀ (s : State) (st : ArrivalStamp) (bytes : List Byte) (x : RxParcel),
    s.part.liu.rx = some st → s.part.cap.station ≠ .loading →
    goodFrame (decide (4641 < bytes.length)) (bytes.take 4641) = some x → x.kind = .notice →
    goodNotice x.notice = none → x.source ≠ s.part.sul.own → (s.part.peer x.source).state = .absent →
    let joined : PeerRecord := { PeerRecord.cleared with
      state := .joining, lastSequence := x.sequence, lastHeard := st.sc }
    let withRecord : PeerRecord → Part := fun r => { s.part with
      ptb := { s.part.ptb with records := s.part.ptb.records.set x.source.val r x.source.isLt } }
    exec (.linkRxframeRelease bytes) s = .next (s.withPart { withRecord { joined with
          format := 1, resyncSeen := if x.resync then 200 else 0, reseed := x.resync } with
        liu := { s.part.liu with
          rx := none, frameStore := bytes.take 4641, overlength := decide (4641 < bytes.length) }
        pnl := s.part.pnl.emit ⟨.peer, [peerPayload (withRecord joined) x.source]⟩ }))

/-- O26. Formalises R43, R44, R10 and R79. The raises themselves are FaultListFollowsRaisesAndEnds (R178). That the
spoiled digest record, which then holds no window, has the sum 0 and no last block is the model's choice (DESIGN
CHOICE, log 14). -/
def Obligations.ConflictIsLostOrWonBySerial : Prop :=
  (∀ (s : State) (st : ArrivalStamp) (bytes : List Byte) (x : RxParcel) (v : NoticeValues),
    s.part.liu.rx = some st → s.part.cap.station ≠ .loading →
    goodFrame (decide (4641 < bytes.length)) (bytes.take 4641) = some x → x.kind = .notice →
    goodNotice x.notice = some v → x.source = s.part.sul.own →
    let l := { s.part.liu with
      rx := none, frameStore := bytes.take 4641, overlength := decide (4641 < bytes.length) }
    (s.part.cap.station ≠ .conflict → v.serial.toNat < s.part.sul.serial.toNat →
      ∃ t, exec (.linkRxframeRelease bytes) s = .next (s.withPart t) ∧ t.faults.conflict = some .lost ∧
        t = { s.part with
          liu := { l with
            queue := [], tx := none
            echoTable := match s.part.liu.tx with
              | some f => s.part.liu.echoTable.filter fun e => e.sequence ≠ f.sequence
              | none => s.part.liu.echoTable
            aborts := if s.part.liu.tx = none then s.part.liu.aborts else s.part.liu.aborts + 1 }
          cap := { s.part.cap with
            station := .conflict, audio := none, talkParcel := none, session := .idle
            digest := SenderDigest.reset }
          faults := (s.part.raiseConflict .lost).faults
          pnl := (s.part.raiseConflict .lost).pnl }) ∧
    (s.part.cap.station ≠ .conflict → s.part.sul.serial.toNat < v.serial.toNat →
      ∃ t, exec (.linkRxframeRelease bytes) s = .next (s.withPart t) ∧ t.faults.conflict = some .won ∧
        t = { s.part with
          liu := l
          ptb := { s.part.ptb with winCount := 0 }
          faults := (s.part.raiseConflict .won).faults
          pnl := (s.part.raiseConflict .won).pnl }) ∧
    (s.part.cap.station = .conflict → v.serial ≠ s.part.sul.serial →
      exec (.linkRxframeRelease bytes) s = .next (s.withPart { s.part with liu := l }))) ∧
  (∀ (s : State) (st : ArrivalStamp) (bytes : List Byte) (x : RxParcel),
    s.part.liu.rx = some st → s.part.cap.station ≠ .loading →
    goodFrame (decide (4641 < bytes.length)) (bytes.take 4641) = some x → x.kind = .notice →
    goodNotice x.notice = none → x.source = s.part.sul.own →
    BitVec.ofNat 48 (fieldAt x.notice 0 6) ≠ s.part.sul.serial →
    exec (.linkRxframeRelease bytes) s = .next (s.withPart { s.part with
      liu := { s.part.liu with
        rx := none, frameStore := bytes.take 4641, overlength := decide (4641 < bytes.length) } }))

/-- O27. The bytes of R204's NOTICE and the checks of R14 and R33 agree, with every field at every value admitted. -/
def Obligations.NoticeHandedOverReadsBack : Prop :=
  ∀ (p : Part) (x : Parcel), x.kind = .notice → x.blocks = [] → p.sul.serial ≠ 0 →
    (p.cap.station = .listening ∨ p.cap.station = .onAir) → (∀ e, p.liu.echoDelay = some e → e ≤ 65535) →
    0 ≤ p.horizon → p.horizon < 16777216 → p.settings.laneCount ≤ 8 →
    (∀ k : ProgLane, p.settings.laneCount ≤ k.val → p.settings.roles[k] = .none) →
    (∀ d, p.cap.session.announced = some d → d.toNat ≤ 16) →
    ∃ y, goodFrame false (p.frameOf x).bytes = some y ∧ y.kind = .notice ∧ y.source = p.sul.own ∧
      y.sequence = p.liu.sequence ∧ y.stamp = p.now ∧ y.resync = decide (p.tau.resyncTimer ≠ 0) ∧
      goodNotice y.notice = some
        { serial := p.sul.serial
          echoDelay := if p.liu.echoCount = 4 then p.liu.echoDelay else none
          announced :=
            { onAir := decide (p.cap.station = .onAir), mode := p.tau.mode, horizon := p.horizon.toNat
              laneCount := p.settings.laneCount, roles := p.settings.roles
              talkDestination := p.cap.session.announced.map BitVec.toNat } }

/-- O28. The bytes of R204's AUDIO and TALK frames and the checks of R14 agree, with every field at every value
admitted. -/
def Obligations.AudioAndTalkFramesReadBack : Prop :=
  ∀ (p : Part) (x : Parcel), 1 ≤ x.blocks.length → x.blocks.length ≤ 4 →
    (∀ b ∈ x.blocks, b.length = x.laneCount ∧ ∀ lane ∈ b, lane.length = 48) →
    (x.kind = .audio ∧ 1 ≤ x.laneCount ∧ x.laneCount ≤ 8 ∧ x.laneFlags.length = x.laneCount ∧ x.endFlag = false ∨
      x.kind = .talk ∧ x.laneCount = 1 ∧ x.laneFlags = [] ∧ x.digest = none) →
    (p.frameOf x).bytes.length ≤ 4641 ∧
    goodFrame false (p.frameOf x).bytes = some
      { kind := x.kind, source := p.sul.own, resync := decide (p.tau.resyncTimer ≠ 0)
        digestPresent := x.digest.isSome, endFlag := x.endFlag, sequence := p.liu.sequence, stamp := p.now
        firstBlock := x.firstBlock, span := x.blocks.length, laneCount := x.laneCount
        destination := x.destination.toNat, laneFlags := x.laneFlags, digest := x.digest.getD 0
        blocks := x.blocks, notice := [] }

/-- O29. Formalises R6, R7 and R11 for a NOTICE, and R6 and R7 for an AUDIO or TALK, as
ContributionMovesTheStationState and TalkSessionAdvancesAtTheTick create them. That an eviction settles the quiet
count of its tick is log 3. That the event is a command of its own is log 2. -/
def Obligations.NoticeDueQueuesANotice : Prop :=
  (∀ s : State, s.part.moment.due .notice → (s.part.cap.station = .listening ∨ s.part.cap.station = .onAir) →
    (if s.part.tau.mode = .tracking ∨ s.part.tau.mode = .holdover then 100 else 20) ≤
      s.part.liu.noticeCount + 1 →
    let isNotice : Parcel → Bool := fun x => decide (x.kind = .notice)
    let placed : List Parcel → List Parcel := fun q =>
      q.takeWhile isNotice ++ [waitingNotice] ++ q.dropWhile isNotice
    (s.part.liu.queue.length < 8 →
      exec .noticeDue s = .next (s.withPart { s.part with
        liu := { s.part.liu with noticeCount := 0, queue := placed s.part.liu.queue }
        moment := s.part.moment.took .notice })) ∧
    (8 ≤ s.part.liu.queue.length →
      exec .noticeDue s = .next (s.withPart (({ s.part with
        liu := { s.part.liu with
          noticeCount := 0
          queue := placed (if s.part.liu.queue.all isNotice then s.part.liu.queue.drop 1
            else s.part.liu.queue.eraseP fun x => !isNotice x)
          txDropped := min (s.part.liu.txDropped + 1) 4294967295
          txQuiet := 0 }
        moment := (s.part.moment.took .notice).took .txQuiet } : Part).raiseFault ⟨.txOverrun, .none⟩)))) ∧
  (∀ (p : Part) (x : Parcel), x.kind ≠ .notice →
    (p.liu.queue.length < 8 → p.enqueue x = { p with liu := { p.liu with queue := p.liu.queue ++ [x] } }) ∧
    (8 ≤ p.liu.queue.length →
      p.enqueue x = ({ p with
        liu := { p.liu with
          queue := if ∀ y ∈ p.liu.queue, y.kind = .notice then p.liu.queue
            else (p.liu.queue.eraseP fun y => decide (y.kind ≠ .notice)) ++ [x]
          txDropped := min (p.liu.txDropped + 1) 4294967295
          txQuiet := 0 }
        moment := p.moment.took .txQuiet } : Part).raiseFault ⟨.txOverrun, .none⟩))

/-- O30. Formalises the ends of R7, R15, R44 and R97 and the raise of R20. What each end and raise does to the fault
list, the end of a WON among them, is FaultListFollowsRaisesAndEnds. -/
def Obligations.QuietCountsEndTheirFaults : Prop :=
  ∀ s : State, s.part.cap.station ≠ .loading →
    (s.part.moment.due .txQuiet → ⟨.txOverrun, .none⟩ ∈ s.part.faults.marks → 999 ≤ s.part.liu.txQuiet →
      exec .txOverrunEnd s = .next (s.withPart { s.part.endFault ⟨.txOverrun, .none⟩ with
        liu := { s.part.liu with txQuiet := 1000 }, moment := s.part.moment.took .txQuiet })) ∧
    (s.part.moment.due .cleanBlocks → s.part.liu.cleanBlocks = 999 →
      exec .linkErrorsEnd s = .next (s.withPart { s.part.endFault ⟨.linkErrors, .none⟩ with
        liu := { s.part.liu with cleanBlocks := 1000 }, moment := s.part.moment.took .cleanBlocks })) ∧
    (s.part.moment.due .storeQuiet → ⟨.storeFull, .none⟩ ∈ s.part.faults.marks → 999 ≤ s.part.ast.quiet →
      exec .storeFullEnd s = .next (s.withPart { s.part.endFault ⟨.storeFull, .none⟩ with
        ast := { s.part.ast with quiet := 1000 }, moment := s.part.moment.took .storeQuiet })) ∧
    (s.part.moment.due .win → s.part.faults.conflict = some .won → 4999 ≤ s.part.ptb.winCount →
      exec .wonEnd s = .next (s.withPart { s.part.endConflictWon with
        ptb := { s.part.ptb with winCount := 5000 }, moment := s.part.moment.took .win })) ∧
    (s.part.moment.due .echoLost → s.part.cap.station ≠ .conflict → s.part.liu.echoLostCount = 499 →
      exec .echoLost s = .next (s.withPart { s.part.raiseFault ⟨.echoLost, .none⟩ with
        liu := { s.part.liu with echoDelay := none, echoCount := 0, echoLostCount := 500 }
        moment := s.part.moment.took .echoLost }))

/-- O31. Formalises R178, R179, R180 and R183. The premise that no two records have one kind and subject is R177's,
kept by StepKeepsThePanelAndFaultLists. -/
def Obligations.FaultListFollowsRaisesAndEnds : Prop :=
  (∀ (p : Part) (key : FaultKey), (p.faults.list.map (·.key)).Nodup →
    let block := p.tau.sc.toNat / 48
    let full : FaultKey := ⟨.overflow, .none⟩
    let marked := p.faults.marks ++ [key]
    (key ∈ p.faults.marks → p.raiseFault key = p) ∧
    (key ∉ p.faults.marks → (∀ r ∈ p.faults.list, r.key ≠ key) → p.faults.list.length < 32 →
      p.raiseFault key = { p with
        faults := { p.faults with list := p.faults.list ++ [⟨key, none, true, block, 1⟩], marks := marked }
        pnl := p.pnl.emit (faultReport ⟨key, none, true, block, 1⟩) }) ∧
    (∀ r ∈ p.faults.list, key ∉ p.faults.marks → r.key = key → r.active = false →
      let r' := { r with active := true, detail := none, count := min (r.count + 1) 255 }
      p.raiseFault key = { p with
        faults := { p.faults with
          list := p.faults.list.map fun y => if y = r then r' else y, marks := marked }
        pnl := p.pnl.emit (faultReport r') }) ∧
    (∀ r ∈ p.faults.list, key ∉ p.faults.marks → (∀ y ∈ p.faults.list, y.key ≠ key) →
      32 ≤ p.faults.list.length → r.key = full →
      let r' := { r with count := min (r.count + 1) 255 }
      p.raiseFault key = { p with
        faults := { p.faults with
          list := p.faults.list.map fun y => if y = r then r' else y, marks := marked }
        pnl := p.pnl.emit (faultReport r') }) ∧
    (key ∉ p.faults.marks → (∀ y ∈ p.faults.list, y.key ≠ key ∧ y.key ≠ full) → 32 ≤ p.faults.list.length →
      p.raiseFault key = { p with
        faults := { p.faults with
          list := (if p.faults.list.all (fun y => y.active) then p.faults.list.drop 1
            else p.faults.list.eraseP (fun y => !y.active)) ++ [⟨full, none, false, block, 1⟩]
          marks := marked }
        pnl := p.pnl.emit (faultReport ⟨full, none, false, block, 1⟩) }) ∧
    (key ∉ p.faults.marks → p.endFault key = p) ∧
    (∀ r ∈ p.faults.list, key ∈ p.faults.marks → r.key = key → r.active = true →
      p.endFault key = { p with
        faults := { p.faults with
          list := p.faults.list.map fun y => if y = r then { r with active := false } else y
          marks := p.faults.marks.filter fun m => m ≠ key }
        pnl := p.pnl.emit (faultReport { r with active := false }) }) ∧
    (key ∈ p.faults.marks → (∀ r ∈ p.faults.list, r.key = key → r.active = false) →
      p.endFault key = { p with faults := { p.faults with marks := p.faults.marks.filter fun m => m ≠ key } })) ∧
  (∀ (p : Part) (v : Verdict), (p.faults.list.map (·.key)).Nodup →
    let key : FaultKey := ⟨.numberConflict, .station p.sul.own⟩
    let block := p.tau.sc.toNat / 48
    let full : FaultKey := ⟨.overflow, .none⟩
    ((∀ r ∈ p.faults.list, r.key ≠ key) → p.faults.list.length < 32 →
      p.raiseConflict v = { p with
        faults := { p.faults with list := p.faults.list ++ [⟨key, some v, true, block, 1⟩], conflict := some v }
        pnl := p.pnl.emit (faultReport ⟨key, some v, true, block, 1⟩) }) ∧
    (∀ r ∈ p.faults.list, r.key = key →
      let r' := { r with
        active := true, detail := some v
        count := if r.active = true ∧ v = .lost then r.count else min (r.count + 1) 255 }
      p.raiseConflict v = { p with
        faults := { p.faults with
          list := p.faults.list.map fun y => if y = r then r' else y, conflict := some v }
        pnl := if r' = r then p.pnl else p.pnl.emit (faultReport r') }) ∧
    ((∀ y ∈ p.faults.list, y.key ≠ key ∧ y.key ≠ full) → 32 ≤ p.faults.list.length →
      p.raiseConflict v = { p with
        faults := { p.faults with
          list := (if p.faults.list.all (fun y => y.active) then p.faults.list.drop 1
            else p.faults.list.eraseP (fun y => !y.active)) ++ [⟨full, none, false, block, 1⟩]
          conflict := some v }
        pnl := p.pnl.emit (faultReport ⟨full, none, false, block, 1⟩) }) ∧
    (∀ r ∈ p.faults.list, (∀ y ∈ p.faults.list, y.key ≠ key) → 32 ≤ p.faults.list.length → r.key = full →
      let r' := { r with count := min (r.count + 1) 255 }
      p.raiseConflict v = { p with
        faults := { p.faults with
          list := p.faults.list.map fun y => if y = r then r' else y, conflict := some v }
        pnl := p.pnl.emit (faultReport r') }) ∧
    (p.faults.conflict ≠ some .won → p.endConflictWon = p) ∧
    (∀ r ∈ p.faults.list, p.faults.conflict = some .won → r.key = key → r.active = true → r.detail = some .won →
      p.endConflictWon = { p with
        faults := { p.faults with
          list := p.faults.list.map fun y => if y = r then { r with active := false } else y, conflict := none }
        pnl := p.pnl.emit (faultReport { r with active := false }) }) ∧
    (p.faults.conflict = some .won →
      (∀ r ∈ p.faults.list, r.key = key → r.active = false ∨ r.detail ≠ some .won) →
      p.endConflictWon = { p with faults := { p.faults with conflict := none } }))

/-- O32. Formalises R28, R30, R31, R102, R133, R140 and R176. The digest entries after removal while playout runs are
log 19, and the content and place of the report log 17 (both DEDUCED). What each end does to the fault list is
FaultListFollowsRaisesAndEnds. -/
def Obligations.ExpiriesRemoveTheRecord : Prop :=
  ∀ (s : State) (x : Station) (c : Instr) (job : TickJob), s.part.cap.station ≠ .loading →
    (c = .joinExpiry x ∧ job = .join x ∧ (s.part.peer x).state = .joining ∧ 999 ≤ (s.part.peer x).joinCount ∨
      c = .lapseExpiry x ∧ job = .quiet x ∧ (s.part.peer x).state = .lapsed ∧
        5199 ≤ (s.part.peer x).quietCount) →
    s.part.moment.due job →
    ∃ t, exec c s = .next (s.withPart t) ∧ t.peer x = PeerRecord.cleared ∧
      (∀ y : Station, y ≠ x → t.peer y = s.part.peer y ∧ t.plu.lanes[y] = s.part.plu.lanes[y] ∧
        t.mxe.switches[y] = s.part.mxe.switches[y] ∧ t.imn[y] = s.part.imn[y]) ∧
      t.ast.buffers = s.part.ast.buffers.filter (fun b => b.peer ≠ x) ∧
      t.ast.free + t.ast.buffers.length = s.part.ast.free + s.part.ast.buffers.length ∧
      (∀ k : LaneNo, t.plu.lane x k = LaneRecord.reset) ∧
      (∀ k : ProgLane, t.mxe.switches[x][k] = ⟨.onPrimary, none, 0⟩) ∧
      t.imn[x] = { mismatchRun := 0, suspect := false, outcome := none
                   entries := match s.part.plu.position with
                     | none => []
                     | some pos =>
                       (List.range (if (blockOf pos).toNat % 64 = 0 then 16 else 17)).map fun i =>
                         { window := ((blockOf pos).toNat / 64 + i) % 67108864, expected := none, sum := 0
                           fills := 0, spoiled := false } } ∧
      t.faults.marks = s.part.faults.marks.filter (fun m =>
        !decide (m ∈ ⟨.peerLapsed, .station x⟩ :: ⟨.digestSuspect, .station x⟩ ::
          allProgLanes.map fun k => (⟨.laneLoss, .lane x k⟩ : FaultKey))) ∧
      t.faults = (s.part.endFaults (⟨.peerLapsed, .station x⟩ ::
        allProgLanes.map (fun k => (⟨.laneLoss, .lane x k⟩ : FaultKey)) ++ [⟨.digestSuspect, .station x⟩])).faults ∧
      t.pnl = (Part.endFaults (⟨.peerLapsed, .station x⟩ ::
        allProgLanes.map (fun k => (⟨.laneLoss, .lane x k⟩ : FaultKey)) ++ [⟨.digestSuspect, .station x⟩])
        { s.part with pnl := s.part.pnl.emit (peerReport t x) }).pnl ∧
      t = { s.part with
        ptb := { s.part.ptb with records := t.ptb.records }
        ast := { s.part.ast with buffers := t.ast.buffers, free := t.ast.free }
        plu := { s.part.plu with lanes := t.plu.lanes }
        mxe := { s.part.mxe with switches := t.mxe.switches }
        imn := t.imn
        faults := t.faults
        pnl := s.part.pnl.withReports t.pnl
        moment := s.part.moment.took job }

/-- O33. Formalises R29 for one record. That the event is a command of its own is log 2. The content of the report is
log 17 (DEDUCED). -/
def Obligations.LapseKeepsTheRecord : Prop :=
  ∀ (s : State) (x : Station), s.part.cap.station ≠ .loading → s.part.moment.due (.quiet x) →
    (s.part.peer x).state = .present → (s.part.peer x).quietCount = 199 →
    ∃ t, exec (.peerLapse x) s = .next (s.withPart t) ∧
      t.peer x = { s.part.peer x with state := .lapsed, quietCount := 200 } ∧ (t.peer x).settled = false ∧
      (∀ y : Station, y ≠ x → t.peer y = s.part.peer y) ∧
      t.faults = (s.part.raiseFault ⟨.peerLapsed, .station x⟩).faults ∧
      t.pnl = (({ s.part with pnl := s.part.pnl.emit (peerReport t x) } : Part).raiseFault
        ⟨.peerLapsed, .station x⟩).pnl ∧
      t = { s.part with
        ptb := { s.part.ptb with records := t.ptb.records }
        faults := t.faults
        pnl := s.part.pnl.withReports t.pnl
        moment := s.part.moment.took (.quiet x) }

/-- O34. Formalises the expiries of R36, R42 and R58. -/
def Obligations.TimersExpireAtABlockTick : Prop :=
  ∀ s : State, s.part.cap.station ≠ .loading →
    (∀ x : Station, s.part.moment.due (.resyncSeen x) → (s.part.peer x).resyncSeen = 1 →
      exec (.resyncSeenExpiry x) s = .next (s.withPart { s.part with
        ptb := { s.part.ptb with
          records := s.part.ptb.records.set x.val { s.part.peer x with resyncSeen := 0 } x.isLt }
        moment := s.part.moment.took (.resyncSeen x) })) ∧
    (s.part.moment.due .lagWindow → 999 ≤ s.part.ptb.lagWindow →
      ∃ t, exec .lagWindowEnd s = .next (s.withPart t) ∧ t.ptb.lagWindow = 0 ∧
        (∀ x : Station, t.peer x = { s.part.peer x with
          lagPrevious := (s.part.peer x).lagCurrent, lagCurrent := 0 }) ∧
        t = { s.part with
          ptb := { s.part.ptb with records := t.ptb.records, lagWindow := 0 }
          moment := s.part.moment.took .lagWindow }) ∧
    (s.part.moment.due .resyncTimer → s.part.moment.stepped = false → s.part.tau.resyncTimer = 1 →
      exec .resyncTimerExpiry s = .next (s.withPart { s.part with
        tau := { s.part.tau with resyncTimer := 0 }
        moment := s.part.moment.took .resyncTimer }))

/-- O35. Formalises R45, R46, R68, R69, R113, R117, R128, R137, R139, R145, R146, R154, R155, R158, R159, R162 and
R163. The reduction to the word length is OutputsKeepTheirWordLength. What is left to take of a moment is the model's
(log 1), with the order in which it is taken, and so is that a move may be held and that a slip decision has a command
of its own (log 5; both DESIGN CHOICE). -/
def Obligations.SamplePeriodInsideABlock : Prop :=
  (∀ (s : State) (slots : Vector Sample 8) (talk : Sample) (move : MoveTime) (order : CrossOrder),
    s.part.moment.idle → s.part.plu.owed = none →
    let x : InputSample := ⟨slots, talk⟩
    let sc := s.part.tau.sc + 1
    let tick := decide (sc.toNat % 48 = 0)
    let instant := decide (sc.toNat % 4800 = 0)
    let p := { s.part with
      tau := { s.part.tau with sc := sc }
      cap := { s.part.cap with
        input := x
        block := match s.part.cap.block, tick with
          | some b, false => some { b with samples := b.samples ++ [x] }
          | b, _ => b }
      moment := { tick := tick, done := [], tauDue := instant, trimDue := instant, pluDue := instant
                  controlDue := instant, stepped := false } }
    (s.part.plu.position = none →
      exec (.samplePeriod slots talk move order) s = .next (s.withPart { p with
        mxe := { s.part.mxe with outputs := Vector.replicate 8 0 } })) ∧
    (∀ pos : SampleCount, s.part.plu.position = some pos → s.part.settings.slipRate ≤ s.part.plu.slipPhase + 1 →
      exec (.samplePeriod slots talk move order) s = .next (s.withPart { p with
        plu := { s.part.plu with slipPhase := 0, owed := some .slip } })) ∧
    (∀ pos : SampleCount, s.part.plu.position = some pos → s.part.plu.slipPhase + 1 < s.part.settings.slipRate →
      move ≠ .now →
      exec (.samplePeriod slots talk move order) s = .next (s.withPart { p with
        plu := { s.part.plu with slipPhase := s.part.plu.slipPhase + 1, owed := some .step } })) ∧
    (∀ pos : SampleCount, s.part.plu.position = some pos → pos.toNat % 48 ≠ 47 →
      pos.toNat + 1 < 2 ^ 48 →
      s.part.plu.slipPhase + 1 < s.part.settings.slipRate → move = .now →
      ∃ m : Mxe, exec (.samplePeriod slots talk move order) s = .next (s.withPart { p with
          plu := { s.part.plu with position := some (pos + 1), slipPhase := s.part.plu.slipPhase + 1 }
          mxe := { s.part.mxe with
            outputs := m.outputs, dither := m.dither, clipCount := m.clipCount, peaks := m.peaks
            clips := m.clips } }) ∧
        let i := pos.toNat % 48 + 1
        let clips : OutputNo → Bool := fun o =>
          decide (s.part.unsaturated o i < -8388608 ∨ 8388607 < s.part.unsaturated o i)
        (∀ o : OutputNo, m.outputs[o] = BitVec.ofInt 24 (s.part.outputValue o i)) ∧
        (∀ o : OutputNo, m.dither[o] =
          if s.part.settings.outputs[o].dither = true ∧ s.part.settings.outputs[o].word ≠ .w24 then
            ditherAdvance (ditherAdvance s.part.mxe.dither[o]) else s.part.mxe.dither[o]) ∧
        m.clipCount = min (s.part.mxe.clipCount + ((List.finRange 8).filter clips).length) 4294967295 ∧
        (∀ o : OutputNo, m.peaks[o] = if s.part.mxe.metersOn = true then
          max s.part.mxe.peaks[o] (s.part.outputValue o i).natAbs else s.part.mxe.peaks[o]) ∧
        ∀ o : OutputNo, m.clips[o] = (s.part.mxe.clips[o] || (s.part.mxe.metersOn && clips o)))) ∧
  (∀ (p : Part) (o : OutputNo) (i : Nat),
    let peers := (List.finRange 16).filter fun x : Station => x ≠ p.sul.own
    let group : GroupIx → Int := fun g => (peers.map fun x =>
      (((List.finRange 8).filter fun k : ProgLane => (p.mxe.resolved[x][k]).val = g.val + 1).map fun k =>
        if p.mxe.silenced[x] = true then 0 else p.switchSample x k i).sum).sum
    let scaled : GroupIx → Int := fun g => Int.fdiv (group g * p.mxe.groups[g].gain) 32768
    let result : MatrixBank → Int := fun bank =>
      ((List.finRange 8).map fun g : GroupIx => Int.fdiv (scaled g * bank[o][g]) 32768).sum
    let programme :=
      if p.mxe.crossfade = true then
        Int.tdiv (result p.mxe.active * i) 48 + Int.tdiv (result p.mxe.pendingBank * (48 - (i : Int))) 48
      else result p.mxe.active
    let ducked :=
      if p.settings.outputs[o].duckOnTalk = true then Int.fdiv (programme * p.mxe.duckLevel) 32768 else programme
    let talk := (peers.map fun x => (p.plu.lane x talkLane).sampleAt i).sum
    p.unsaturated o i = ducked + (if p.settings.outputs[o].talkReceive = true then talk else 0) ∧
      p.outputValue o i =
        reduceWord p.settings.outputs[o] p.mxe.dither[o] (max (-8388608) (min 8388607 (p.unsaturated o i)))) ∧
  (∀ (p : Part) (x : Station) (k u : ProgLane) (i : Nat),
    let w := p.mxe.switches[x][k]
    let own := (p.plu.lane x k.lane).sampleAt i
    let other := (p.plu.lane x u.lane).sampleAt i
    let fade : Int → Int → Int := fun from_ to_ => Int.tdiv (to_ * i) 48 + Int.tdiv (from_ * (48 - (i : Int))) 48
    (w.state = .onPrimary → p.switchSample x k i = own) ∧
      (w.inUse = some u → w.state = .toFallback → p.switchSample x k i = fade own other) ∧
      (w.inUse = some u → w.state = .onFallback → p.switchSample x k i = other) ∧
      (w.inUse = some u → w.state = .toPrimary → p.switchSample x k i = fade other own)) ∧
  (∀ (r : LaneRecord) (i : Nat),
    let c := (r.copy.getD i 0).toInt
    (r.state = .playing → r.sampleAt i = c) ∧ (r.state = .recovering → r.sampleAt i = Int.tdiv (c * i) 48) ∧
      (∀ n, r.state = .concealing n →
        r.sampleAt i = Int.tdiv (c * (96 - (i : Int))) (96 * 2 ^ n.val)) ∧
      (r.state = .muted ∨ r.state = .idle → r.sampleAt i = 0)) ∧
  (∀ (s u : State) (c : Instr) (slots : Vector Sample 8) (talk : Sample) (move : MoveTime) (order : CrossOrder),
    (let m := s.part.moment
     c = .slipDecision .evaluationFirst ∧ s.part.plu.owed = some .slip ∨
     s.part.plu.owed = none ∧
      (c = .agreementInstant .timeFirst ∧ m.trimDue = true ∨
       m.trimDue = false ∧
        (c = .goOnAir ∧ m.controlDue = true ∨
         m.controlDue = false ∧
          (c = .playoutStart ∧ m.pluDue = true ∨
           (m.pluDue = false ∨ s.part.plu.position ≠ none) ∧ c = .blockTick ∧ m.tick = true)))) →
    exec c s = .next u →
    exec (.samplePeriod slots talk move order) s = exec (.samplePeriod slots talk move order) u) ∧
  (∀ (s : State) (slots : Vector Sample 8) (talk : Sample) (move : MoveTime) (order : CrossOrder),
    s.part.plu.owed = some .step →
    exec (.samplePeriod slots talk move order) s =
      exec (.samplePeriod slots talk move order) (s.withPart (s.part.takeMove .evaluationFirst)))

/-- O36. Formalises R45, R46, R68 and R69 at a crossing, R99, R113, R117, R125, R134, R138's reading of the entry,
R142, R144, R146 and R153, R168's entries, R175's faults, R103, R113 and R173 past 2^48 − 1, and R158 to R163 at the
sample entered, over the value before saturation that SamplePeriodInsideABlock gives. Either order of the digest
evaluation (log 5) is covered; that LANE_LOSS and DIGEST_SUSPECT are taken in station and lane number order is log 30
(DESIGN CHOICE). What a switch decides is TalkLaneAndFallbackReturn, what a raise or an end does
FaultListFollowsRaisesAndEnds. That the slip phase is 0 past 2^48 − 1 is log 29 (DEDUCED). What is due of the new
moment is log 1 (DESIGN CHOICE). The ramps of a crossing are RampsAdvanceAtABoundary. -/
def Obligations.CrossingEntersTheNextBlock : Prop :=
  (∀ (s : State) (slots : Vector Sample 8) (talk : Sample) (order : CrossOrder) (pos : SampleCount),
    s.part.moment.idle → s.part.plu.owed = none → s.part.plu.position = some pos → pos.toNat % 48 = 47 →
    pos.toNat + 1 < 2 ^ 48 → s.part.plu.slipPhase + 1 < s.part.settings.slipRate →
    let b := blockOf pos
    let sc := s.part.tau.sc + 1
    let tick := decide (sc.toNat % 48 = 0)
    let instant := decide (sc.toNat % 4800 = 0)
    let begun : Part := { s.part with
      tau := { s.part.tau with sc := sc }
      cap := { s.part.cap with
        input := ⟨slots, talk⟩
        block := match s.part.cap.block, tick with
          | some b, false => some { b with samples := b.samples ++ [⟨slots, talk⟩] }
          | b, _ => b }
      moment := { tick := tick, done := [], tauDue := instant, trimDue := instant, pluDue := instant
                  controlDue := instant, stepped := false } }
    ∃ t, exec (.samplePeriod slots talk .now order) s = .next (s.withPart t) ∧
      t = { begun with
        plu := { s.part.plu with position := some (pos + 1), slipPhase := s.part.plu.slipPhase + 1, lanes := t.plu.lanes }
        ast := { s.part.ast with buffers := t.ast.buffers, free := t.ast.free }
        mxe := { s.part.mxe with
          outputs := t.mxe.outputs, dither := t.mxe.dither, clipCount := t.mxe.clipCount, peaks := t.mxe.peaks
          clips := t.mxe.clips, switches := t.mxe.switches, resolved := t.mxe.resolved
          silenced := t.mxe.silenced, groups := t.mxe.groups, active := t.mxe.active
          pendingBank := t.mxe.pendingBank, takeCount := t.mxe.takeCount, crossfade := t.mxe.crossfade
          duckLevel := t.mxe.duckLevel, duckRamp := t.mxe.duckRamp }
        imn := t.imn, faults := t.faults, pnl := t.pnl } ∧
      (∀ y : Station,
        (y = s.part.sul.own → t.imn[y] = s.part.imn[y]) ∧
        (y ≠ s.part.sul.own → t.imn[y].entries = (List.range (if (b + 1).toNat % 64 = 0 then 16 else 17)).map fun i =>
          let window := ((b + 1).toNat / 64 + i) % 67108864
          match s.part.imn[y].entries.find? (fun e => e.window == window) with
          | some e => e
          | none => { window := window, expected := none, sum := 0, fills := 0, spoiled := false }) ∧
        (y ≠ s.part.sul.own → b.toNat % 64 ≠ 63 ∨ s.part.imn[y].entries.find? (fun e => e.window == b.toNat / 64) = none →
          t.imn[y].mismatchRun = s.part.imn[y].mismatchRun ∧ t.imn[y].suspect = s.part.imn[y].suspect ∧
            t.imn[y].outcome = s.part.imn[y].outcome)) ∧
      t.plu.position = some (pos + 1) ∧ t.plu.slipPhase = s.part.plu.slipPhase + 1 ∧ t.plu.owed = none ∧
      (let i := 0
       let clip : OutputNo → Bool := fun o => decide (t.unsaturated o i < -8388608 ∨ 8388607 < t.unsaturated o i)
       let value : OutputNo → Int := fun o => reduceWord s.part.settings.outputs[o] s.part.mxe.dither[o]
         (max (-8388608) (min 8388607 (t.unsaturated o i)))
       (∀ o : OutputNo, t.mxe.outputs[o] = BitVec.ofInt 24 (value o) ∧
          t.mxe.dither[o] = (if s.part.settings.outputs[o].dither = true ∧ s.part.settings.outputs[o].word ≠ .w24 then
            ditherAdvance (ditherAdvance s.part.mxe.dither[o]) else s.part.mxe.dither[o]) ∧
          t.mxe.peaks[o] = (if s.part.mxe.metersOn = true then max s.part.mxe.peaks[o] (value o).natAbs
            else s.part.mxe.peaks[o]) ∧
          t.mxe.clips[o] = (s.part.mxe.clips[o] || (s.part.mxe.metersOn && clip o))) ∧
        t.mxe.clipCount = min (s.part.mxe.clipCount + ((List.finRange 8).filter clip).length) 4294967295) ∧
      t.ast.buffers = s.part.ast.buffers.filter (fun x => x.block ≠ b) ∧
      t.ast.free + t.ast.buffers.length = s.part.ast.free + s.part.ast.buffers.length ∧
      (∀ (x : Station) (k : LaneNo), t.plu.lane x k =
        if x = s.part.sul.own then s.part.plu.lane x k
        else (s.part.plu.lane x k).enter k ((s.part.peer x).expects k) (s.part.ast.lane x (b + 1) k)) ∧
      (let suspect : Station → Bool := fun x =>
          match order with
          | .evaluationFirst => t.imn[x].suspect
          | .readersFirst => s.part.imn[x].suspect
        let bad : Station → ProgLane → Bool := fun x k => (t.plu.lane x k.lane).bad (suspect x)
        ∀ (x : Station) (k : ProgLane), t.mxe.switches[x][k] =
          if x = s.part.sul.own then s.part.mxe.switches[x][k]
          else FallbackSwitch.decide
            (if s.part.mxe.fallback[x][k] = some k then none else s.part.mxe.fallback[x][k]) (bad x k) (bad x)
            s.part.mxe.switches[x][k]) ∧
      (let lost : Station → ProgLane → Bool := fun x k => decide ((t.plu.lane x k.lane).state = .muted ∧
          (s.part.peer x).expects k.lane = true ∧ (s.part.peer x).state = .present)
        let streams := ((List.finRange 16).filter fun x : Station => x ≠ s.part.sul.own).flatMap fun x =>
          (List.finRange 8).map fun k : ProgLane => (x, k)
        let losses : Part → Part := fun p => streams.foldl
          (fun q x => if lost x.1 x.2 = true then q.raiseFault ⟨.laneLoss, .lane x.1 x.2⟩
            else q.endFault ⟨.laneLoss, .lane x.1 x.2⟩) p
        let judged := (List.finRange 16).filter fun x : Station => x ≠ s.part.sul.own ∧ b.toNat % 64 = 63 ∧
          s.part.imn[x].entries.any (fun e => e.window == b.toNat / 64) = true
        let suspects : Part → Part := fun p => judged.foldl
          (fun q x => if t.imn[x].suspect = true then q.raiseFault ⟨.digestSuspect, .station x⟩
            else q.endFault ⟨.digestSuspect, .station x⟩) p
        let told := match order with
          | .evaluationFirst => losses (suspects begun)
          | .readersFirst => suspects (losses begun)
        (∀ (x : Station) (k : ProgLane), x ≠ s.part.sul.own →
          (⟨.laneLoss, .lane x k⟩ ∈ t.faults.marks ↔ lost x k = true)) ∧
        t.faults = told.faults ∧ t.pnl = told.pnl) ∧
      (∀ x : Station, t.mxe.silenced[x] = (decide (x ≠ s.part.sul.own) &&
        match order with
        | .evaluationFirst => t.imn[x].suspect
        | .readersFirst => s.part.imn[x].suspect)) ∧
      (∀ (x : Station) (k : ProgLane), t.mxe.resolved[x][k] = match s.part.mxe.map[x][k] with
        | .group g => g
        | .byRole => match (s.part.peer x).announced with
          | none => 0
          | some a => match a.roles[k] with
            | .none => 0
            | .comm => 1
            | .crowd => 2
            | .aux => 3) ∧
      t.mxe.takeCount = 0 ∧ t.mxe.crossfade = decide (s.part.mxe.takeCount % 2 = 1) ∧
      (t.mxe.active, t.mxe.pendingBank) =
        if s.part.mxe.takeCount % 2 = 1 then (s.part.mxe.pendingBank, s.part.mxe.active)
        else (s.part.mxe.active, s.part.mxe.pendingBank)) ∧
  (∀ (s : State) (slots : Vector Sample 8) (talk : Sample) (order : CrossOrder) (pos : SampleCount),
    s.part.moment.idle → s.part.plu.owed = none → s.part.plu.position = some pos → pos.toNat + 1 = 2 ^ 48 →
    s.part.plu.slipPhase + 1 < s.part.settings.slipRate →
    let sc := s.part.tau.sc + 1
    let tick := decide (sc.toNat % 48 = 0)
    let instant := decide (sc.toNat % 4800 = 0)
    let begun : Part := { s.part with
      tau := { s.part.tau with sc := sc }
      cap := { s.part.cap with
        input := ⟨slots, talk⟩
        block := match s.part.cap.block, tick with
          | some b, false => some { b with samples := b.samples ++ [⟨slots, talk⟩] }
          | b, _ => b }
      moment := { tick := tick, done := [], tauDue := instant, trimDue := instant, pluDue := instant
                  controlDue := instant, stepped := false } }
    ∃ t, exec (.samplePeriod slots talk .now order) s = .next (s.withPart t) ∧
      t = { begun with
        plu := { s.part.plu with position := some 0, slipPhase := 0, lanes := t.plu.lanes }
        ast := { s.part.ast with buffers := t.ast.buffers, free := t.ast.free }
        mxe := { s.part.mxe with
          outputs := t.mxe.outputs, dither := t.mxe.dither, clipCount := t.mxe.clipCount, peaks := t.mxe.peaks
          clips := t.mxe.clips, switches := t.mxe.switches, resolved := t.mxe.resolved
          silenced := t.mxe.silenced, groups := t.mxe.groups, active := t.mxe.active
          pendingBank := t.mxe.pendingBank, takeCount := t.mxe.takeCount, crossfade := t.mxe.crossfade
          duckLevel := t.mxe.duckLevel, duckRamp := t.mxe.duckRamp }
        imn := t.imn, faults := t.faults, pnl := t.pnl } ∧
      (let bad : Station → ProgLane → Bool := fun x k => (t.plu.lane x k.lane).bad s.part.imn[x].suspect
       ∀ (x : Station) (k : ProgLane), t.mxe.switches[x][k] =
        if x = s.part.sul.own then s.part.mxe.switches[x][k]
        else FallbackSwitch.decide (if s.part.mxe.fallback[x][k] = some k then none else s.part.mxe.fallback[x][k])
          (bad x k) (bad x) s.part.mxe.switches[x][k]) ∧
      (let lost : Station → ProgLane → Bool := fun x k => decide ((t.plu.lane x k.lane).state = .muted ∧
          (s.part.peer x).expects k.lane = true ∧ (s.part.peer x).state = .present)
       let streams := ((List.finRange 16).filter fun x : Station => x ≠ s.part.sul.own).flatMap fun x =>
          (List.finRange 8).map fun k : ProgLane => (x, k)
       let told : Part := streams.foldl
          (fun q x => if lost x.1 x.2 = true then q.raiseFault ⟨.laneLoss, .lane x.1 x.2⟩
            else q.endFault ⟨.laneLoss, .lane x.1 x.2⟩) begun
       t.faults = told.faults ∧ t.pnl = told.pnl) ∧
      (∀ x : Station, t.mxe.silenced[x] = (decide (x ≠ s.part.sul.own) && s.part.imn[x].suspect)) ∧
      (∀ (x : Station) (k : ProgLane), t.mxe.resolved[x][k] = match s.part.mxe.map[x][k] with
        | .group g => g
        | .byRole => match (s.part.peer x).announced with
          | none => 0
          | some a => match a.roles[k] with
            | .none => 0
            | .comm => 1
            | .crowd => 2
            | .aux => 3) ∧
      t.mxe.takeCount = 0 ∧ t.mxe.crossfade = decide (s.part.mxe.takeCount % 2 = 1) ∧
      ((t.mxe.active, t.mxe.pendingBank) =
        if s.part.mxe.takeCount % 2 = 1 then (s.part.mxe.pendingBank, s.part.mxe.active) else (s.part.mxe.active, s.part.mxe.pendingBank)) ∧
      (∀ g : GroupIx, t.mxe.groups[g] = match s.part.mxe.groups[g].ramp with
        | none => s.part.mxe.groups[g]
        | some r =>
          let n : Int := r.length
          let k : Int := r.k + 1
          let way : Int := (s.part.mxe.groups[g].target : Int) - r.start
          if r.length ≤ r.k + 1 then { s.part.mxe.groups[g] with gain := s.part.mxe.groups[g].target, ramp := none }
          else { s.part.mxe.groups[g] with
            gain := ((r.start : Int) + match r.shape with
              | .linear => Int.tdiv (way * k) n
              | .eased => Int.tdiv (way * (3 * k ^ 2 * n - 2 * k ^ 3)) (n ^ 3)).toNat
            ramp := some { r with k := r.k + 1 } }) ∧
      (let aim : Nat := if ∃ x : Station, x ≠ s.part.sul.own ∧
          ((t.plu.lane x talkLane).state = .playing ∨ (t.plu.lane x talkLane).state = .recovering)
         then s.part.settings.duckGain else 32768
       let begun : DuckRamp := ⟨s.part.mxe.duckLevel, aim, 0⟩
       let r : DuckRamp := match s.part.mxe.duckRamp with
         | some r => if r.aim = aim then r else begun
         | none => begun
       let still := s.part.mxe.duckRamp = none ∧ s.part.mxe.duckLevel = aim
       (still → t.mxe.duckLevel = aim ∧ t.mxe.duckRamp = none) ∧
       (¬still → 9 ≤ r.k → t.mxe.duckLevel = aim ∧ t.mxe.duckRamp = none) ∧
       (¬still → r.k < 9 →
         t.mxe.duckLevel = ((r.start : Int) + Int.tdiv (((aim : Int) - r.start) * (r.k + 1)) 10).toNat ∧
         t.mxe.duckRamp = some { r with k := r.k + 1 })) ∧
      t.plu.position = some 0 ∧ t.plu.slipPhase = 0 ∧ t.plu.owed = none ∧
      t.plu.slipCount = s.part.plu.slipCount ∧ t.plu.target = s.part.plu.target ∧
      (let i := 0
       let clip : OutputNo → Bool := fun o => decide (t.unsaturated o i < -8388608 ∨ 8388607 < t.unsaturated o i)
       let value : OutputNo → Int := fun o => reduceWord s.part.settings.outputs[o] s.part.mxe.dither[o]
         (max (-8388608) (min 8388607 (t.unsaturated o i)))
       (∀ o : OutputNo, t.mxe.outputs[o] = BitVec.ofInt 24 (value o) ∧
          t.mxe.dither[o] = (if s.part.settings.outputs[o].dither = true ∧ s.part.settings.outputs[o].word ≠ .w24 then
            ditherAdvance (ditherAdvance s.part.mxe.dither[o]) else s.part.mxe.dither[o]) ∧
          t.mxe.peaks[o] = (if s.part.mxe.metersOn = true then max s.part.mxe.peaks[o] (value o).natAbs
            else s.part.mxe.peaks[o]) ∧
          t.mxe.clips[o] = (s.part.mxe.clips[o] || (s.part.mxe.metersOn && clip o))) ∧
        t.mxe.clipCount = min (s.part.mxe.clipCount + ((List.finRange 8).filter clip).length) 4294967295) ∧
      t.ast.buffers = s.part.ast.buffers.filter (fun x => x.block.toNat ≤ 1023) ∧
      t.ast.free + t.ast.buffers.length = s.part.ast.free + s.part.ast.buffers.length ∧
      (∀ (x : Station) (k : LaneNo), t.plu.lane x k =
        if x = s.part.sul.own then s.part.plu.lane x k
        else (s.part.plu.lane x k).enter k ((s.part.peer x).expects k) (s.part.ast.lane x 0 k)) ∧
      ∀ x : Station, x ≠ s.part.sul.own → t.imn[x] = { s.part.imn[x] with
        entries := (List.range 16).map fun i =>
          match s.part.imn[x].entries.find? (fun e => e.window == i) with
          | some e => { e with spoiled := true }
          | none => { window := i, expected := none, sum := 0, fills := 0, spoiled := false } })

/-- O37. Formalises R126, R127 and R132 over the entry that CrossingEntersTheNextBlock gives every lane. That the
muted count of a MUTED talk lane no longer expected is 0 in IDLE is log 47 (DESIGN CHOICE). -/
def Obligations.LanesFollowTheEntryTables : Prop :=
  (∀ (r : LaneRecord) (k : LaneNo) (expected : Bool) (x : StoredLane),
      ¬(k = talkLane ∧ r.endSeen = true ∧ (r.state = .playing ∨ r.state = .recovering)) →
    let t := r.enter k expected (some x)
    t.silent = x.silent ∧ t.stuck = x.stuck ∧ t.endSeen = (decide (k = talkLane) && x.endMark) ∧
      (r.state = .playing ∨ r.state = .recovering → t.state = .playing ∧ t.copy = x.samples) ∧
      ((∃ n, r.state = .concealing n) ∨ r.state = .muted →
        t.state = .recovering ∧ t.copy = x.samples ∧ t.mutedCount = 0) ∧
      (r.state = .idle → expected = true → t.state = .recovering ∧ t.copy = x.samples) ∧
      (r.state = .idle → expected = false → t.state = .idle ∧ t.copy = r.copy)) ∧
  (∀ (r : LaneRecord) (k : LaneNo) (expected : Bool),
      ¬(k = talkLane ∧ r.endSeen = true ∧ (r.state = .playing ∨ r.state = .recovering)) →
    let t := r.enter k expected none
    t.silent = false ∧ t.stuck = false ∧ t.endSeen = false ∧
      (r.state = .playing ∨ r.state = .recovering → t.state = .concealing 0 ∧ t.copy = r.copy) ∧
      (∀ n n' : Fin 4, r.state = .concealing n → n'.val = n.val + 1 → t.state = .concealing n' ∧ t.copy = r.copy) ∧
      (r.state = .concealing 3 → expected = true → t.state = .muted ∧ t.copy = r.copy ∧
        t.mutedCount = if k = talkLane then 1 else 0) ∧
      (r.state = .concealing 3 ∨ r.state = .muted → expected = false → t.state = .idle ∧
        t.copy = List.replicate 48 0 ∧ t.mutedCount = 0) ∧
      (r.state = .muted → expected = true → k = talkLane → r.mutedCount < 100 →
        t.state = .muted ∧ t.copy = r.copy ∧ t.mutedCount = r.mutedCount + 1) ∧
      (r.state = .muted → expected = true → k = talkLane → 100 ≤ r.mutedCount →
        t.state = .idle ∧ t.copy = List.replicate 48 0 ∧ t.mutedCount = 0) ∧
      (r.state = .muted → k ≠ talkLane → expected = true → t.state = .muted ∧ t.copy = r.copy) ∧
      (r.state = .idle → t.state = .idle ∧ t.copy = r.copy)) ∧
  (∀ (r : LaneRecord) (expected : Bool) (found : Option StoredLane), r.endSeen = true →
    (r.state = .playing ∨ r.state = .recovering) →
    r.enter talkLane expected found =
      ({ r with state := .idle, copy := List.replicate 48 0, mutedCount := 0 } : LaneRecord).enter talkLane
        expected found)

/-- O38. Formalises R149 and R156 at the boundaries of R142. A held move and a step of another mode reach the same
boundary by SlipDecisionMovesP and LargeRunTakesAStep. The read of H is log 28 (DEDUCED). -/
def Obligations.RampsAdvanceAtABoundary : Prop :=
  ∀ (s : State) (c : Instr),
    (let h := (s.part.tau.sc + BitVec.ofInt 48 s.part.tau.correction - (s.part.plu.position.getD 0)).toInt - 1
     let step : Nat := if h < s.part.plu.target then 0 else if h = s.part.plu.target then 1 else 2
     let leaves : SampleCount → Nat → Prop := fun pos n =>
       2 ^ 48 ≤ pos.toNat + n ∨ blockOf (pos + BitVec.ofNat 48 n) ≠ blockOf pos
     let m := s.part.trackingError
     let blocks : Int := if 0 ≤ m then (m + 384) / 768 else -((384 - m) / 768)
     let k' := max (-140737488355296) (min 140737488355296 (s.part.tau.correction - 48 * blocks))
     let q : Part := { s.part with tau := { s.part.tau with correction := k' } }
     (∃ (slots : Vector Sample 8) (talk : Sample) (order : CrossOrder) (pos : SampleCount),
       c = .samplePeriod slots talk .now order ∧ s.part.moment.idle ∧ s.part.plu.owed = none ∧
         s.part.plu.position = some pos ∧ leaves pos 1 ∧ s.part.plu.slipPhase + 1 < s.part.settings.slipRate) ∨
     (∃ (order : CrossOrder) (pos : SampleCount), c = .slipDecision order ∧ s.part.plu.owed = some .slip ∧
       s.part.plu.position = some pos ∧ leaves pos step) ∨
     (c = .playoutStart ∧ s.part.moment.pluDue = true ∧ s.part.plu.position = none ∧
       s.part.tau.mode.settled = true ∧ s.part.settledPeers ≠ []) ∨
     (c = .largeRunStep ∧ s.part.moment.tauDue = true ∧ s.part.cap.station ≠ .loading ∧
       s.part.tau.mode = .tracking ∧ s.part.liu.echoCount = 4 ∧ s.part.settledPeers ≠ [] ∧ 7680 ≤ m.natAbs ∧
       s.part.tau.largeRun = 2 ∧ s.part.plu.position ≠ none ∧ ¬(48 ≤ q.horizon ∧ q.horizon ≤ 49104)) ∨
     (c = .blockTick ∧ s.part.moment.tick = true ∧ s.part.cap.station ≠ .loading ∧
       s.part.plu.position = none)) →
    ∃ t, exec c s = .next (s.withPart t) ∧
      (∀ g : GroupIx, s.part.mxe.groups[g].ramp = none → t.mxe.groups[g] = s.part.mxe.groups[g]) ∧
      (∀ (g : GroupIx) (r : GroupRamp), s.part.mxe.groups[g].ramp = some r → r.length ≤ r.k + 1 →
        t.mxe.groups[g] = { s.part.mxe.groups[g] with gain := s.part.mxe.groups[g].target, ramp := none }) ∧
      (∀ (g : GroupIx) (r : GroupRamp), s.part.mxe.groups[g].ramp = some r → r.k + 1 < r.length →
        let n : Int := r.length
        let k : Int := r.k + 1
        let way : Int := (s.part.mxe.groups[g].target : Int) - r.start
        t.mxe.groups[g] = { s.part.mxe.groups[g] with
          gain := ((r.start : Int) + match r.shape with
            | .linear => Int.tdiv (way * k) n
            | .eased => Int.tdiv (way * (3 * k ^ 2 * n - 2 * k ^ 3)) (n ^ 3)).toNat
          ramp := some { r with k := r.k + 1 } }) ∧
      (∀ aim : Nat, ((∃ x : Station, x ≠ s.part.sul.own ∧
            ((t.plu.lane x talkLane).state = .playing ∨ (t.plu.lane x talkLane).state = .recovering)) ∧
          aim = s.part.settings.duckGain ∨
          (∀ x : Station, x ≠ s.part.sul.own →
            (t.plu.lane x talkLane).state ≠ .playing ∧ (t.plu.lane x talkLane).state ≠ .recovering) ∧
          aim = 32768) →
        let level := s.part.mxe.duckLevel
        let begun : Int → Nat := fun start => (start + Int.tdiv (((aim : Int) - start) * 1) 10).toNat
        (s.part.mxe.duckRamp = none → level = aim → t.mxe.duckLevel = level ∧ t.mxe.duckRamp = none) ∧
        (s.part.mxe.duckRamp = none → level ≠ aim →
          t.mxe.duckLevel = begun level ∧ t.mxe.duckRamp = some ⟨level, aim, 1⟩) ∧
        (∀ r : DuckRamp, s.part.mxe.duckRamp = some r → r.aim ≠ aim →
          t.mxe.duckLevel = begun level ∧ t.mxe.duckRamp = some ⟨level, aim, 1⟩) ∧
        (∀ r : DuckRamp, s.part.mxe.duckRamp = some r → r.aim = aim → 9 ≤ r.k →
          t.mxe.duckLevel = aim ∧ t.mxe.duckRamp = none) ∧
        (∀ r : DuckRamp, s.part.mxe.duckRamp = some r → r.aim = aim → r.k < 9 →
          t.mxe.duckLevel = ((r.start : Int) + Int.tdiv (((aim : Int) - r.start) * (r.k + 1)) 10).toNat ∧
          t.mxe.duckRamp = some ⟨r.start, aim, r.k + 1⟩))

/-- O39. Formalises R174 and R175. What the raise and the end do to the fault list is CrossingEntersTheNextBlock with
FaultListFollowsRaisesAndEnds. That a window left a second time, after a re-anchor back, is evaluated again is log 51
(DESIGN CHOICE). -/
def Obligations.WindowsAreEvaluatedAsPlayoutLeavesThem : Prop :=
  ∀ (s : State) (slots : Vector Sample 8) (talk : Sample) (order : CrossOrder) (pos : SampleCount),
    s.part.moment.idle → s.part.plu.owed = none → s.part.plu.position = some pos → pos.toNat % 48 = 47 →
    pos.toNat + 1 < 2 ^ 48 → s.part.plu.slipPhase + 1 < s.part.settings.slipRate →
    ∀ (y : Station) (e : WindowEntry), (blockOf pos).toNat % 64 = 63 → y ≠ s.part.sul.own →
    s.part.imn[y].entries.find? (fun w => w.window == (blockOf pos).toNat / 64) = some e →
    let whole := e.expected.isSome = true ∧ e.spoiled = false ∧
      ∃ a, (s.part.peer y).announced = some a ∧ 1 ≤ a.laneCount ∧ e.fills = 64 * a.laneCount
    let d := s.part.imn[y]
    ∃ t, exec (.samplePeriod slots talk .now order) s = .next (s.withPart t) ∧
      (∀ w ∈ t.imn[y].entries, w.window ≠ (blockOf pos).toNat / 64) ∧
      (whole → e.expected = some e.sum →
        t.imn[y].outcome = some .agreed ∧ t.imn[y].mismatchRun = 0 ∧ t.imn[y].suspect = false) ∧
      (whole → e.expected ≠ some e.sum →
        t.imn[y].outcome = some .mismatch ∧ t.imn[y].mismatchRun = min (d.mismatchRun + 1) 3 ∧
          t.imn[y].suspect = (d.suspect || decide (2 ≤ d.mismatchRun))) ∧
      (¬whole → t.imn[y].outcome = some .incomplete ∧ t.imn[y].mismatchRun = d.mismatchRun ∧
        t.imn[y].suspect = d.suspect) ∧
      (⟨.digestSuspect, .station y⟩ ∈ t.faults.marks ↔ t.imn[y].suspect = true) ∧
      (whole → e.expected ≠ some e.sum → d.suspect = false → d.mismatchRun = 2 →
        ⟨.digestSuspect, .station y⟩ ∈ t.faults.marks) ∧
      (whole → e.expected = some e.sum → ⟨.digestSuspect, .station y⟩ ∉ t.faults.marks)

/-- O40. Formalises R26 for AUDIO and TALK, with R27, R30, R34, R35, R36, R38, R39 and R41, and R90 to R98, R170, R171
and R172. What ending and raising a fault do is FaultListFollowsRaisesAndEnds; the tick that a RESYNC parcel overtakes
is log 36 (DEDUCED), a destination above 16 log 37 (DESIGN CHOICE). The reports are log 17 (DEDUCED). That a fill
count has no upper limit here is log 49 (DESIGN CHOICE). -/
def Obligations.AudioAndTalkParcelsAreFiledOrRefused : Prop :=
  (∀ (s : State) (st : ArrivalStamp) (bytes : List Byte) (x : RxParcel),
    s.part.liu.rx = some st → s.part.cap.station ≠ .loading →
    goodFrame (decide (4641 < bytes.length)) (bytes.take 4641) = some x → x.kind ≠ .notice →
    x.source ≠ s.part.sul.own →
    let held := if (s.part.peer x.source).state = .absent then
        { PeerRecord.cleared with state := .joining, lastSequence := x.sequence - 1 }
      else s.part.peer x.source
    let r := held.afterParcel s.part x st
    let ast := s.part.ast
    let b : Nat → BlockNo := fun i => x.firstBlock + BitVec.ofNat 32 i
    let addressed := x.kind = .audio ∨ x.destination = 0 ∨ x.destination = s.part.sul.own.number
    let carried : LaneNo → Prop := fun k => if x.kind = .audio then k.val < x.laneCount else k = talkLane
    let entered := if held.state = .lapsed then (s.part.endFault ⟨.peerLapsed, .station x.source⟩).faults
      else s.part.faults
    let taken : DigestRecord → DigestRecord := fun d =>
      if x.digestPresent = true then d.expecting ((List.range x.span).map b) x.digest else d
    let told := taken (s.part.imn[x.source].spoiledFor ((List.range x.span).map b))
    let report : PeerRecord → Report := fun v => ⟨.peer, [peerPayload { s.part with
      ptb := { s.part.ptb with records := s.part.ptb.records.set x.source.val v x.source.isLt } } x.source]⟩
    let known : Part :=
      if (s.part.peer x.source).state = .absent then
        { s.part with pnl := s.part.pnl.emit (report { held with lastSequence := x.sequence, lastHeard := st.sc }) }
      else if held.state = .lapsed then
        ({ s.part with pnl := s.part.pnl.emit (report { held with
          state := .present, lastHeard := st.sc, quietCount := 0 }) } : Part).endFault ⟨.peerLapsed, .station x.source⟩
      else s.part
    let heard : Part := { known with
      liu := { s.part.liu with
        rx := none, frameStore := bytes.take 4641, overlength := decide (4641 < bytes.length) }
      ptb := { s.part.ptb with records := s.part.ptb.records.set x.source.val r x.source.isLt }
      moment := if x.resync = true ∧ held.resyncSeen = 1 ∧ s.part.moment.due (.resyncSeen x.source) then
        s.part.moment.took (.resyncSeen x.source) else s.part.moment }
    let lanes : Nat → List (LaneNo × StoredLane) := fun j =>
      let resync := decide (s.part.tau.resyncTimer ≠ 0)
      if x.kind = .audio then
        ((List.finRange 8).filter fun k : ProgLane => k.val < x.laneCount).map fun k =>
          let f := x.laneFlags.getD k.val ⟨false, false⟩
          (k.lane, { silent := f.silent, stuck := f.stuck, resync := resync, endMark := false
                     samples := (x.blocks.getD j []).getD k.val [] })
      else [(talkLane, { silent := false, stuck := false, resync := resync
                         endMark := x.endFlag && decide (j + 1 = x.span)
                         samples := (x.blocks.getD j []).getD 0 [] })]
    ∃ t, exec (.linkRxframeRelease bytes) s = .next (s.withPart t) ∧
      (¬addressed ∨ s.part.plu.position = none ∨ s.part.tau.mode.settled = false ∨ r.settled = false ∨
          (x.kind = .audio ∧ r.announced.map (·.laneCount) ≠ some x.laneCount) → t.pnl = known.pnl) ∧
      (∀ pb, addressed → s.part.playBlock = some pb → s.part.tau.mode.settled = true → r.settled = true →
        (x.kind = .audio → r.announced.map (·.laneCount) = some x.laneCount) →
        let filed := (List.range x.span).foldl (fun q j => q.admitBlock x.source pb (b j) (lanes j)) heard
        let again := ∃ j < x.span, 0 ≤ (b j - pb).toInt ∧ (b j - pb).toInt ≤ 1023 ∧
          ∃ f ∈ lanes j, (ast.lane x.source (b j) f.1).isSome = true
        let counted : PeerRecord := { filed.peer x.source with
          duplicate := min ((filed.peer x.source).duplicate + 1) 65535 }
        t = { filed with
          ptb := if again then
              { filed.ptb with records := filed.ptb.records.set x.source.val counted x.source.isLt }
            else filed.ptb
          imn := filed.imn.set x.source.val (taken filed.imn[x.source]) x.source.isLt }) ∧
      (let full : FaultKey := ⟨.storeFull, .none⟩
       let record := t.peer x.source
       let digest := t.imn[x.source]
       t = { s.part with
          liu := { s.part.liu with
            rx := none, frameStore := bytes.take 4641, overlength := decide (4641 < bytes.length) }
          ptb := { s.part.ptb with records := t.ptb.records }
          ast := t.ast, imn := t.imn, faults := t.faults, pnl := s.part.pnl.withReports t.pnl
          moment := if x.resync = true ∧ held.resyncSeen = 1 ∧ s.part.moment.due (.resyncSeen x.source) then
            s.part.moment.took (.resyncSeen x.source) else s.part.moment } ∧
       (∀ y : Station, y ≠ x.source → t.peer y = s.part.peer y ∧ t.imn[y] = s.part.imn[y]) ∧
       (¬addressed → record = r ∧ t.ast = ast ∧ digest = s.part.imn[x.source] ∧ t.faults = entered) ∧
       (addressed → s.part.plu.position = none ∨ s.part.tau.mode.settled = false →
         record = r ∧ t.ast = { ast with notPlaying := min (ast.notPlaying + 1) 4294967295 } ∧
           t.faults = entered ∧ digest = told) ∧
       (∀ pb, addressed → s.part.playBlock = some pb → s.part.tau.mode.settled = true →
         (r.settled = false →
           record = { r with unsettled := min (r.unsettled + 1) 65535 } ∧ t.ast = ast ∧ t.faults = entered ∧
             digest = told) ∧
         (r.settled = true → x.kind = .audio → r.announced.map (·.laneCount) ≠ some x.laneCount →
           record = { r with format := min (r.format + 1) 65535 } ∧ t.ast = ast ∧ t.faults = entered ∧
             digest = told) ∧
         (r.settled = true → (x.kind = .audio → r.announced.map (·.laneCount) = some x.laneCount) →
           (x.span = 1 → (x.firstBlock - pb).toInt < 0 →
             record = { r with late := min (r.late + 1) 65535 } ∧ t.ast = ast ∧ t.faults = entered ∧
               digest = told) ∧
           (x.span = 1 → 1023 < (x.firstBlock - pb).toInt →
             record = { r with early := min (r.early + 1) 65535 } ∧ t.ast = ast ∧ t.faults = entered ∧
               digest = told) ∧
           (x.span = 1 → (x.firstBlock - pb).toNat ≤ 1023 → ast.find x.source x.firstBlock = none → ast.free = 0 →
             record = r ∧ t.ast = { ast with storeFull := min (ast.storeFull + 1) 4294967295, quiet := 0 } ∧
               full ∈ t.faults.marks ∧ (∀ m ∈ entered.marks, m ∈ t.faults.marks) ∧
               digest = told) ∧
           ((∀ i < x.span, (b i - pb).toNat ≤ 1023) → x.span ≤ ast.free →
             ((∃ i < x.span, ∃ k, carried k ∧ (ast.lane x.source (b i) k).isSome = true) →
               record = { r with duplicate := min (r.duplicate + 1) 65535 }) ∧
             ((∀ i < x.span, ∀ k, carried k → ast.lane x.source (b i) k = none) → record = r) ∧
             t.faults = entered ∧
             t.ast = { ast with buffers := t.ast.buffers, free := t.ast.free } ∧
             t.ast.free + t.ast.buffers.length = ast.free + ast.buffers.length ∧
             (∀ (i : Nat) (k : LaneNo), i < x.span → carried k → t.ast.lane x.source (b i) k =
               match ast.lane x.source (b i) k with
               | some y => some y
               | none => some
                 { silent := x.kind == .audio && (x.laneFlags.getD k.val ⟨false, false⟩).silent
                   stuck := x.kind == .audio && (x.laneFlags.getD k.val ⟨false, false⟩).stuck
                   resync := decide (s.part.tau.resyncTimer ≠ 0)
                   endMark := x.kind == .talk && x.endFlag && decide (i + 1 = x.span)
                   samples := (x.blocks.getD i []).getD (if x.kind = .audio then k.val else 0) [] }) ∧
             (∀ (y : Station) (n : BlockNo) (k : LaneNo),
               (y = x.source → carried k → ∀ i < x.span, n ≠ b i) → t.ast.lane y n k = ast.lane y n k) ∧
             (x.kind = .talk → digest = s.part.imn[x.source]) ∧
             (x.kind = .audio → x.span = 1 → ast.find x.source x.firstBlock = none →
               digest = taken { s.part.imn[x.source] with
                 entries := s.part.imn[x.source].entries.map fun e =>
                   if e.window = x.firstBlock.toNat / 64 then
                     { e with
                       sum := (List.range x.laneCount).foldl
                         (fun acc k => acc + sampleSum ((x.blocks.getD 0 []).getD k [])) e.sum
                       fills := e.fills + x.laneCount
                       spoiled := e.spoiled || decide (s.part.tau.resyncTimer ≠ 0) }
                   else e })))))) ∧
  (∀ (p : Part) (y : Station) (pb b : BlockNo) (fs : List (LaneNo × StoredLane)), (fs.map (·.1)).Nodup →
    let t := p.admitBlock y pb b fs
    let off := (b - pb).toInt
    let r := p.peer y
    let withRecord : PeerRecord → Part := fun v =>
      { p with ptb := { p.ptb with records := p.ptb.records.set y.val v y.isLt } }
    let entries : (WindowEntry → WindowEntry) → Vector DigestRecord 16 := fun f =>
      p.imn.set y.val { p.imn[y] with
        entries := p.imn[y].entries.map fun e => if e.window = b.toNat / 64 then f e else e } y.isLt
    let spoiled := entries fun e => { e with spoiled := true }
    (off < 0 → t = { withRecord { r with late := min (r.late + 1) 65535 } with imn := spoiled }) ∧
    (1023 < off → t = { withRecord { r with early := min (r.early + 1) 65535 } with imn := spoiled }) ∧
    (0 ≤ off → off ≤ 1023 → p.ast.find y b = none → p.ast.free = 0 →
      t = { ({ p with
          ast := { p.ast with storeFull := min (p.ast.storeFull + 1) 4294967295, quiet := 0 } } : Part).raiseFault
            ⟨.storeFull, .none⟩ with imn := spoiled }) ∧
    (0 ≤ off → off ≤ 1023 → p.ast.find y b ≠ none ∨ p.ast.free ≠ 0 →
      let first := fs.filter fun f => (p.ast.lane y b f.1).isNone
      let programme := first.filter fun f => f.1 ≠ talkLane
      t = { p with
        ast := { p.ast with
          buffers := t.ast.buffers
          free := if p.ast.find y b = none then p.ast.free - 1 else p.ast.free }
        imn := entries fun e => { e with
          sum := programme.foldl (fun acc f => acc + sampleSum f.2.samples) e.sum
          fills := e.fills + programme.length
          spoiled := e.spoiled || programme.any fun f => f.2.resync } } ∧
      t.ast.free + t.ast.buffers.length = p.ast.free + p.ast.buffers.length ∧
      (∀ k : LaneNo, t.ast.lane y b k = match p.ast.lane y b k with
        | some held => some held
        | none => (fs.find? fun f => f.1 == k).map fun f => f.2) ∧
      (∀ (z : Station) (n : BlockNo) (k : LaneNo), z ≠ y ∨ n ≠ b → t.ast.lane z n k = p.ast.lane z n k)))

/-- O41. Formalises R160's table with the draws of R161, over the reduction that SamplePeriodInsideABlock's output
value uses. -/
def Obligations.OutputsKeepTheirWordLength : Prop :=
  ∀ (o : OutputSetting) (register : BitVec 32) (x : Int), -8388608 ≤ x → x ≤ 8388607 →
    let y := reduceWord o register x
    let q : Int := if o.word = .w24 then 1 else if o.word = .w20 then 16 else 256
    let low : BitVec 32 → Int := fun r => (r.toNat : Int) % q
    let z := x + low (ditherAdvance register) + low (ditherAdvance (ditherAdvance register)) - (q - 1)
    y ≤ 8388607 ∧ -8388608 ≤ y ∧ q ∣ y ∧
      (o.word = .w24 → y = x) ∧
      (o.dither = false → y ≤ x ∧ x < y + q) ∧
      (o.word ≠ .w24 → o.dither = true →
        y = max (-8388608) (min (8388608 - q) (z - z % q)))

/-- O42. Formalises R46 with the counts of R7, R11, R15, R20, R28, R29, R30, R36, R42, R44, R58, R97 and R163, the new
block of R69, and the boundary of R142. What happens at the limits is QuietCountsEndTheirFaults,
NoticeDueQueuesANotice, ExpiriesRemoveTheRecord, LapseKeepsTheRecord, TimersExpireAtABlockTick and
MetersBeginAfreshAndReport. That a tick is taken once is log 1 and log 3, that the instant's work comes before the
closing log 21. The number of the new block is the formula of R69, also where SC wraps with K negative (DESIGN CHOICE,
log 50). That a record that expires while playout runs has fresh digest entries is log 19 (DEDUCED). -/
def Obligations.BlockTickCountsOnce : Prop :=
  (∀ s : State, s.part.moment.tick = true → s.part.cap.station ≠ .loading →
    let done := s.part.moment.done
    let hands := s.part.cap.station = .listening ∨ s.part.cap.station = .onAir
    ∃ t, exec .blockTick s = .next (s.withPart t) ∧ exec .blockTick (s.withPart t) = .next (s.withPart t) ∧
      t.moment = { s.part.moment with tick := false, done := [], tauDue := s.part.moment.tauDue && decide (.capture ∈ done)
                                      stepped := t.moment.stepped } ∧
      t.tau.sc = s.part.tau.sc ∧ t.liu.sequence = s.part.liu.sequence ∧ t.liu.tx = s.part.liu.tx ∧
      (s.part.moment.tauDue = false ∨ .capture ∈ done →
        t.tau = { s.part.tau with resyncTimer :=
          if s.part.moment.stepped = true ∨ .resyncTimer ∈ done then s.part.tau.resyncTimer else s.part.tau.resyncTimer - 1 } ∧
        t.plu.position = s.part.plu.position ∧ t.moment.stepped = s.part.moment.stepped) ∧
      ((s.part.liu.cleanBlocks ≤ 1000 → .cleanBlocks ∉ done →
          t.liu.cleanBlocks = min (s.part.liu.cleanBlocks + 1) 1000) ∧
        (hands → .notice ∉ done → s.part.liu.noticeCount + 1 < (if t.tau.mode = .tracking ∨ t.tau.mode = .holdover then 100 else 20) →
          t.liu.noticeCount = s.part.liu.noticeCount + 1) ∧
        (hands → .echoLost ∉ done → s.part.liu.echoLostCount ≠ 499 → t.liu.echoLostCount = s.part.liu.echoLostCount + 1) ∧
        (⟨.txOverrun, .none⟩ ∈ s.part.faults.marks → .txQuiet ∉ done → s.part.liu.txQuiet < 999 → s.part.liu.queue.length ≤ 5 →
          t.liu.txQuiet = s.part.liu.txQuiet + 1) ∧
        (s.part.liu.txDropped < t.liu.txDropped →
          t.liu.txQuiet = 0 ∧ ⟨.txOverrun, .none⟩ ∈ t.faults.marks) ∧
        (⟨.storeFull, .none⟩ ∈ s.part.faults.marks → .storeQuiet ∉ done → s.part.ast.quiet < 999 →
          t.ast.quiet = s.part.ast.quiet + 1) ∧
        (s.part.faults.conflict = some .won → .win ∉ done → s.part.ptb.winCount < 4999 →
          t.ptb.winCount = s.part.ptb.winCount + 1) ∧
        (.lagWindow ∉ done → s.part.ptb.lagWindow < 999 → t.ptb.lagWindow = s.part.ptb.lagWindow + 1) ∧
        (s.part.mxe.metersOn = true → .meter ∉ done → s.part.mxe.meterCount < 19 →
          t.mxe.meterCount = s.part.mxe.meterCount + 1)) ∧
      ((.cleanBlocks ∈ done → t.liu.cleanBlocks = s.part.liu.cleanBlocks) ∧
        (.notice ∈ done → t.liu.noticeCount = s.part.liu.noticeCount) ∧
        (.echoLost ∈ done → t.liu.echoLostCount = s.part.liu.echoLostCount) ∧
        (.txQuiet ∈ done → t.liu.txQuiet = s.part.liu.txQuiet ∨ s.part.liu.txDropped < t.liu.txDropped ∨
          s.part.liu.txDropped = 4294967295) ∧
        (.storeQuiet ∈ done → t.ast.quiet = s.part.ast.quiet) ∧
        (.win ∈ done → t.ptb.winCount = s.part.ptb.winCount) ∧
        (.lagWindow ∈ done → t.ptb.lagWindow = s.part.ptb.lagWindow) ∧
        (.meter ∈ done → t.mxe.meterCount = s.part.mxe.meterCount) ∧
        (.capture ∈ done → t.cap = s.part.cap)) ∧
      (∀ x : Station,
        let r := s.part.peer x
        (r.state = .present → r.quietCount < 199 → (t.peer x).state = .present ∧
          (t.peer x).quietCount = (if .quiet x ∈ done then r.quietCount else r.quietCount + 1) ∧
          (t.peer x).resyncSeen = if .resyncSeen x ∈ done then r.resyncSeen else r.resyncSeen - 1) ∧
        (r.state = .lapsed → r.quietCount < 5199 → (t.peer x).state = .lapsed ∧
          (t.peer x).quietCount = (if .quiet x ∈ done then r.quietCount else r.quietCount + 1) ∧
          (t.peer x).resyncSeen = if .resyncSeen x ∈ done then r.resyncSeen else r.resyncSeen - 1) ∧
        (r.state = .joining → r.joinCount < 999 → (t.peer x).state = .joining ∧
          (t.peer x).joinCount = (if .join x ∈ done then r.joinCount else r.joinCount + 1) ∧
          (t.peer x).resyncSeen = if .resyncSeen x ∈ done then r.resyncSeen else r.resyncSeen - 1)) ∧
      (.capture ∉ done → t.cap.block = some
        { number := blockOf (s.part.tau.sc + BitVec.ofInt 48 t.tau.correction)
          onAir := decide (s.part.cap.station = .onAir ∧ s.part.cap.contribute = true)
          afterStep := t.moment.stepped, samples := [s.part.cap.input] }) ∧
      (s.part.plu.position = none →
        (∀ (x : Station) (k : ProgLane), t.mxe.resolved[x][k] = match s.part.mxe.map[x][k] with
          | .group g => g
          | .byRole => match (t.peer x).announced with
            | none => 0
            | some a => match a.roles[k] with
              | .none => 0
              | .comm => 1
              | .crowd => 2
              | .aux => 3) ∧
        (∀ x : Station, t.mxe.silenced[x] = (decide (x ≠ s.part.sul.own) && t.imn[x].suspect)) ∧
        (∀ g : GroupIx, s.part.mxe.groups[g].ramp = none → t.mxe.groups[g] = s.part.mxe.groups[g]) ∧
        (∀ (g : GroupIx) (r : GroupRamp), s.part.mxe.groups[g].ramp = some r → r.length ≤ r.k + 1 →
          t.mxe.groups[g] = { s.part.mxe.groups[g] with gain := s.part.mxe.groups[g].target, ramp := none }) ∧
        (∀ (g : GroupIx) (r : GroupRamp), s.part.mxe.groups[g].ramp = some r → r.k + 1 < r.length →
          t.mxe.groups[g].ramp = some { r with k := r.k + 1 } ∧
            t.mxe.groups[g].target = s.part.mxe.groups[g].target) ∧
        t.mxe.takeCount = 0 ∧ t.mxe.crossfade = false ∧
        (t.mxe.active, t.mxe.pendingBank) =
          if s.part.mxe.takeCount % 2 = 1 then (s.part.mxe.pendingBank, s.part.mxe.active)
          else (s.part.mxe.active, s.part.mxe.pendingBank)) ∧
      (s.part.plu.position ≠ none → s.part.moment.tauDue = false ∨ .capture ∈ done →
        t.mxe.groups = s.part.mxe.groups ∧ t.mxe.takeCount = s.part.mxe.takeCount ∧
          t.mxe.active = s.part.mxe.active ∧ t.mxe.crossfade = s.part.mxe.crossfade ∧
          t.mxe.resolved = s.part.mxe.resolved) ∧
      (s.part.moment.tauDue = false ∨ .capture ∈ done →
        let gone : Station → Bool := fun x =>
          decide ((s.part.peer x).state = .joining ∧ 999 ≤ (s.part.peer x).joinCount ∧ .join x ∉ done) ||
          decide ((s.part.peer x).state = .lapsed ∧ 5199 ≤ (s.part.peer x).quietCount ∧ .quiet x ∉ done)
        t = { s.part with
          liu := { s.part.liu with
            queue := t.liu.queue, noticeCount := t.liu.noticeCount, echoLostCount := t.liu.echoLostCount
            echoDelay := t.liu.echoDelay, echoCount := t.liu.echoCount, cleanBlocks := t.liu.cleanBlocks
            txQuiet := t.liu.txQuiet, txDropped := t.liu.txDropped }
          ptb := t.ptb
          tau := { s.part.tau with resyncTimer := t.tau.resyncTimer }
          cap := { t.cap with contribute := s.part.cap.contribute, input := s.part.cap.input }
          ast := { s.part.ast with buffers := t.ast.buffers, free := t.ast.free, quiet := t.ast.quiet }
          plu := { s.part.plu with lanes := t.plu.lanes }
          mxe := { s.part.mxe with
            resolved := t.mxe.resolved, silenced := t.mxe.silenced, groups := t.mxe.groups
            active := t.mxe.active, pendingBank := t.mxe.pendingBank, takeCount := t.mxe.takeCount
            crossfade := t.mxe.crossfade, duckLevel := t.mxe.duckLevel, duckRamp := t.mxe.duckRamp
            switches := t.mxe.switches, meterCount := t.mxe.meterCount, peaks := t.mxe.peaks, clips := t.mxe.clips }
          imn := t.imn, faults := t.faults, pnl := s.part.pnl.withReports t.pnl, moment := t.moment } ∧
        t.ast.buffers = s.part.ast.buffers.filter (fun b => !gone b.peer) ∧
        t.ast.free + t.ast.buffers.length = s.part.ast.free + s.part.ast.buffers.length ∧
        (∀ x : Station, gone x = false →
          t.plu.lanes[x] = s.part.plu.lanes[x] ∧ t.mxe.switches[x] = s.part.mxe.switches[x] ∧
          t.imn[x] = s.part.imn[x] ∧
          t.peer x = { s.part.peer x with
            state := (t.peer x).state, joinCount := (t.peer x).joinCount, quietCount := (t.peer x).quietCount
            resyncSeen := (t.peer x).resyncSeen, lagCurrent := (t.peer x).lagCurrent
            lagPrevious := (t.peer x).lagPrevious }) ∧
        (∀ x : Station, gone x = true → t.peer x = PeerRecord.cleared ∧
          (∀ k : LaneNo, t.plu.lane x k = LaneRecord.reset) ∧
          (∀ k : ProgLane, t.mxe.switches[x][k] = ⟨.onPrimary, none, 0⟩) ∧
          t.imn[x] = { mismatchRun := 0, suspect := false, outcome := none
                       entries := match s.part.plu.position with
                         | none => []
                         | some pos =>
                           (List.range (if (blockOf pos).toNat % 64 = 0 then 16 else 17)).map fun i =>
                             { window := ((blockOf pos).toNat / 64 + i) % 67108864, expected := none, sum := 0
                               fills := 0, spoiled := false } }) ∧
        (s.part.plu.position ≠ none → t.mxe = { s.part.mxe with
          switches := t.mxe.switches, meterCount := t.mxe.meterCount, peaks := t.mxe.peaks
          clips := t.mxe.clips }))) ∧
  (∀ s : State, s.part.moment.tick = true → s.part.cap.station = .loading →
    s.part.cap.block = none →
    exec .blockTick s = .next (s.withPart { s.part with
      moment := { s.part.moment with
        tick := false, done := [], tauDue := s.part.moment.tauDue && decide (.capture ∈ s.part.moment.done) } }))

/-- O43. The model's choice (DESIGN CHOICE, log 2): the spec's rows occur only when they are due. -/
def Obligations.CommandsNotDueChangeNothing : Prop :=
  ∀ (s : State) (x : Station) (k : ProgLane) (o : InstantOrder) (r : CrossOrder),
    (¬s.part.moment.due .txQuiet → exec .txOverrunEnd s = .next s) ∧
    (¬s.part.moment.due .notice → exec .noticeDue s = .next s) ∧
    (¬s.part.moment.due .cleanBlocks → exec .linkErrorsEnd s = .next s) ∧
    (¬s.part.moment.due .echoLost → exec .echoLost s = .next s) ∧
    (¬s.part.moment.due .storeQuiet → exec .storeFullEnd s = .next s) ∧
    (¬s.part.moment.due .win → exec .wonEnd s = .next s) ∧
    (¬s.part.moment.due (.join x) → exec (.joinExpiry x) s = .next s) ∧
    (¬s.part.moment.due (.quiet x) → exec (.peerLapse x) s = .next s ∧ exec (.lapseExpiry x) s = .next s) ∧
    (¬s.part.moment.due (.resyncSeen x) → exec (.resyncSeenExpiry x) s = .next s) ∧
    (¬s.part.moment.due .lagWindow → exec .lagWindowEnd s = .next s) ∧
    (¬s.part.moment.due .resyncTimer → exec .resyncTimerExpiry s = .next s) ∧
    (¬s.part.moment.due .meter → exec .meterReport s = .next s) ∧
    (¬s.part.moment.due .capture → exec (.silentSet k) s = .next s ∧ exec (.silentClear k) s = .next s ∧
      exec (.stuckSet k) s = .next s ∧ exec .leaveOnAir s = .next s ∧ exec .talkSessionAdvance s = .next s) ∧
    (s.part.moment.tick = false → exec .blockTick s = .next s) ∧
    (s.part.moment.trimDue = false → exec (.agreementInstant o) s = .next s) ∧
    (s.part.moment.tauDue = false → exec .founding s = .next s ∧ exec .emptyRunExpiry s = .next s ∧
      exec .largeRunStep s = .next s) ∧
    (s.part.moment.pluDue = false → exec .playoutStart s = .next s) ∧
    (s.part.moment.controlDue = false → exec .goOnAir s = .next s) ∧
    (s.part.plu.owed ≠ some .slip → exec (.slipDecision r) s = .next s)

/-- O44. Formalises R72, R73 and R81, with R70's stage 2. The named commands close the block with them (log 4), and
BLOCK_TICK takes the closing with the other jobs of the tick (log 3). -/
def Obligations.DetectorsSetAndClear : Prop :=
  (∀ (s : State) (b : CaptureBlock) (k : ProgLane), s.part.moment.due .capture → s.part.cap.block = some b →
    k.val < s.part.settings.laneCount →
    let d := s.part.cap.detectors[k]
    let peak := ((b.lane k).map fun x => x.toInt.natAbs).foldl max 0
    (d.silent = false → peak < s.part.settings.silenceThreshold →
      s.part.settings.silenceTime ≤ d.quietRun + 1 →
      ∃ t, exec (.silentSet k) s = .next (s.withPart t) ∧ t.cap.detectors[k].silent = true ∧
        t.cap.detectors[k].loudRun = 0 ∧
        t.faults.isActive ⟨.captureSilent, .lane s.part.sul.own k⟩ = true) ∧
    (d.silent = true → min (2 * s.part.settings.silenceThreshold) 8388607 ≤ peak → d.loudRun = 9 →
      ∃ t, exec (.silentClear k) s = .next (s.withPart t) ∧ t.cap.detectors[k].silent = false ∧
        t.cap.detectors[k].quietRun = 0 ∧
        t.faults.isActive ⟨.captureSilent, .lane s.part.sul.own k⟩ = false) ∧
    (d.stuck = false → d.held ≠ 0 → (∀ y ∈ b.lane k, y = d.held) → d.stuckRun = 199 →
      ∃ t, exec (.stuckSet k) s = .next (s.withPart t) ∧ t.cap.detectors[k].stuck = true ∧
        t.cap.detectors[k].stuckRun = 200 ∧
        t.faults.isActive ⟨.captureStuck, .lane s.part.sul.own k⟩ = true)) ∧
  (∀ (s : State) (b : CaptureBlock), s.part.moment.tick = true → s.part.moment.done = [] →
    s.part.cap.block = some b →
    ∃ t, exec .blockTick s = .next (s.withPart t) ∧
      ∀ k : ProgLane,
        t.cap.detectors[k] = (if k.val < s.part.settings.laneCount then
          s.part.cap.detectors[k].take s.part.settings (b.lane k) else s.part.cap.detectors[k]) ∧
        (⟨.captureSilent, .lane s.part.sul.own k⟩ ∈ t.faults.marks ↔ t.cap.detectors[k].silent = true) ∧
        (⟨.captureStuck, .lane s.part.sul.own k⟩ ∈ t.faults.marks ↔ t.cap.detectors[k].stuck = true)) ∧
  (∀ (set : Settings) (xs : List Sample) (d : Detector),
    let v := d.take set xs
    let peak := (xs.map fun x => x.toInt.natAbs).foldl max 0
    let release := min (2 * set.silenceThreshold) 8388607
    (d.silent = false → peak < set.silenceThreshold → d.quietRun + 1 < set.silenceTime →
      v.silent = false ∧ v.quietRun = d.quietRun + 1 ∧ v.loudRun = d.loudRun) ∧
    (d.silent = false → peak < set.silenceThreshold → set.silenceTime ≤ d.quietRun + 1 →
      v.silent = true ∧ v.quietRun = d.quietRun + 1 ∧ v.loudRun = 0) ∧
    (d.silent = false → set.silenceThreshold ≤ peak →
      v.silent = false ∧ v.quietRun = 0 ∧ v.loudRun = d.loudRun) ∧
    (d.silent = true → release ≤ peak → d.loudRun + 1 < 10 →
      v.silent = true ∧ v.quietRun = d.quietRun ∧ v.loudRun = d.loudRun + 1) ∧
    (d.silent = true → release ≤ peak → 10 ≤ d.loudRun + 1 →
      v.silent = false ∧ v.quietRun = 0 ∧ v.loudRun = d.loudRun + 1) ∧
    (d.silent = true → peak < release → v.silent = true ∧ v.quietRun = d.quietRun ∧ v.loudRun = 0) ∧
    (∀ y : Sample, xs ≠ [] → (∀ x ∈ xs, x = y) → y ≠ 0 →
      (y = d.held → 0 < d.stuckRun → v.held = d.held ∧ v.stuckRun = min (d.stuckRun + 1) 200 ∧
        v.stuck = (d.stuck || decide (199 ≤ d.stuckRun))) ∧
      (y ≠ d.held ∨ d.stuckRun = 0 → v.held = y ∧ v.stuckRun = 1 ∧ v.stuck = false)) ∧
    ((∀ x ∈ xs, x = 0) ∨ (∃ x ∈ xs, ∃ y ∈ xs, x ≠ y) →
      v.held = d.held ∧ v.stuckRun = 0 ∧ v.stuck = false)) ∧
  (∀ (s : State) (c : Instr) (k : ProgLane), s.part.moment.tauDue = false →
    (c = .silentSet k ∨ c = .silentClear k ∨ c = .stuckSet k ∨ c = .leaveOnAir ∨ c = .talkSessionAdvance) →
    ∃ t, exec c s = .next (s.withPart t) ∧
      t = { s.part with
        liu := { s.part.liu with queue := t.liu.queue, txDropped := t.liu.txDropped, txQuiet := t.liu.txQuiet }
        cap := { t.cap with contribute := s.part.cap.contribute, input := s.part.cap.input }
        faults := t.faults, pnl := s.part.pnl.withReports t.pnl
        moment := { s.part.moment with done := t.moment.done } } ∧
      t.faults.conflict = s.part.faults.conflict ∧
      (∀ m : FaultKey, m.kind ≠ .captureSilent → m.kind ≠ .captureStuck → m.kind ≠ .txOverrun →
        (m ∈ t.faults.marks ↔ m ∈ s.part.faults.marks)) ∧
      (∀ j ∈ t.moment.done, j ∈ s.part.moment.done ∨ j = .capture ∨ j = .txQuiet) ∧
      (t.liu.txDropped = s.part.liu.txDropped → s.part.liu.txDropped < 4294967295 →
        t.liu.txQuiet = s.part.liu.txQuiet))

/-- O45. Formalises R77, R78, R191, R70 and R71's assembly and closing, R74's closing on leaving and at a step, R75,
and R76 for the digest placed. That the block is closed with LEAVE_ON_AIR is log 4, that GO_ON_AIR is a turn taken
once at an instant and marks a block already begun log 6, that CONTRIBUTE is a whole message log 8, and that an AUDIO
joins the queue before a TALK of the same tick log 39. That a parcel runs across the wrap of CT is log 40, and across
the wrap of SC with K negative, where a number comes twice, log 50 (both DESIGN CHOICE). What the command leaves is
DetectorsSetAndClear. The digest of a parcel in assembly is what a step has left of it (LargeRunTakesAStep), and one
already in the queue keeps its own, log 46 (DEDUCED). Windows numbered again or taken up again after a step back are
log 42 and 43. What joining the queue does is NoticeDueQueuesANotice; what a step spoils LargeRunTakesAStep. -/
def Obligations.ContributionMovesTheStationState : Prop :=
  (∀ (s : State) (value : Byte), exec (.contribute value) s = .next (s.withPart { s.part with
    cap := { s.part.cap with contribute := decide (value ≠ 0) }
    pnl := s.part.pnl.afterMessage })) ∧
  (∀ s : State, s.part.moment.controlDue = true →
    exec .goOnAir s = .next (s.withPart { s.part with
      cap :=
        if s.part.cap.station = .listening ∧ s.part.cap.contribute = true ∧
            (s.part.tau.mode = .tracking ∨ s.part.tau.mode = .holdover) then
          { s.part.cap with
            station := .onAir
            block := if s.part.moment.tick = true ∧ .capture ∉ s.part.moment.done then s.part.cap.block
              else s.part.cap.block.map fun b => { b with onAir := true } }
        else s.part.cap
      moment := { s.part.moment with controlDue := false } })) ∧
  (∀ (s : State) (b : CaptureBlock), s.part.moment.due .capture → s.part.cap.station = .onAir →
    s.part.cap.contribute = false → s.part.cap.block = some b →
    ∃ t, exec .leaveOnAir s = .next (s.withPart t) ∧ t.cap.station = .listening ∧ t.cap.audio = none ∧
      (∃ nb, t.cap.block = some nb ∧ nb.onAir = false ∧ nb.samples = [s.part.cap.input]) ∧
      (∀ a, s.part.cap.audio = some a → s.part.liu.queue.length ≤ 6 →
        ∃ x ∈ t.liu.queue, x.kind = .audio ∧ x.firstBlock = a.firstBlock ∧ x.blocks.length = a.blocks.length +
          if b.onAir = true ∧ s.part.settings.laneCount ≠ 0 then 1 else 0)) ∧
  (∀ (s : State) (b : CaptureBlock) (c : Instr), s.part.moment.tauDue = false → s.part.cap.station = .onAir →
    s.part.cap.block = some b →
    (c = .leaveOnAir ∧ s.part.moment.due .capture ∧ s.part.cap.contribute = false ∨
      c = .blockTick ∧ s.part.moment.tick = true ∧ s.part.moment.done = [] ∧ s.part.liu.noticeCount + 1 <
        if s.part.tau.mode = .tracking ∨ s.part.tau.mode = .holdover then 100 else 20) →
    let lanes := (List.finRange 8).filter fun k : ProgLane => k.val < s.part.settings.laneCount
    let samples := lanes.map b.lane
    let contributed := b.onAir = true ∧ s.part.settings.laneCount ≠ 0
    let taken := s.part.cap.digest.take b.number (sampleSum samples.flatten) b.afterStep
    let record := { taken with spoiled := taken.spoiled || s.part.moment.stepped }
    let a := s.part.cap.audio.getD { firstBlock := b.number, destination := 0, digest := none, blocks := [] }
    let joined : Assembly := { a with
      blocks := a.blocks ++ [samples]
      digest := if b.number.toNat % 64 = 63 ∧ record.spoiled = false then some record.sum else a.digest }
    let assembled := if contributed then some joined else s.part.cap.audio
    let closes := s.part.moment.stepped = true ∨ s.part.cap.contribute = false ∨
      ∃ x ∈ assembled, s.part.settings.span ≤ x.blocks.length
    ∃ t, exec c s = .next (s.withPart t) ∧
      t.cap.station = (if s.part.cap.contribute = true then .onAir else .listening) ∧
      t.cap.digest = (if contributed then record else s.part.cap.digest) ∧
      (closes → t.cap.audio = none) ∧ (¬closes → t.cap.audio = assembled) ∧
      ∃ audio talk : List Parcel,
        t.liu.queue = ((audio ++ talk).foldl (fun (q : Part) x => q.enqueue x) s.part).liu.queue ∧
        t.liu.txDropped = ((audio ++ talk).foldl (fun (q : Part) x => q.enqueue x) s.part).liu.txDropped ∧
        (∀ x ∈ talk, x.kind = .talk) ∧
        (s.part.cap.session = .idle → s.part.cap.talkParcel = none → talk = []) ∧ (¬closes → audio = []) ∧
        (closes → audio = assembled.toList.map fun x =>
          { kind := .audio, firstBlock := x.firstBlock, laneCount := s.part.settings.laneCount, destination := 0
            endFlag := false, digest := x.digest
            laneFlags := lanes.map fun k => ⟨t.cap.detectors[k].silent, t.cap.detectors[k].stuck⟩
            blocks := x.blocks })) ∧
  (∀ (r : SenderDigest) (b : BlockNo) (sum : Sample) (afterStep : Bool),
    let v := r.take b sum afterStep
    let next := r.last = some (b - 1) ∧ r.window = some (b.toNat / 64)
    v.last = some b ∧ v.window = some (b.toNat / 64) ∧
      (b.toNat % 64 = 0 → v.sum = sum ∧ v.spoiled = afterStep) ∧
      (b.toNat % 64 ≠ 0 → next → v.sum = r.sum + sum ∧ v.spoiled = (r.spoiled || afterStep)) ∧
      (b.toNat % 64 ≠ 0 → ¬next → v.spoiled = true))

/-- O46. Formalises R84, and R74 for a TALK parcel. That the block is closed with the command is log 4, and that an
AUDIO joins the queue before a TALK of the same tick log 39. That a parcel runs across the wrap of CT is log 40, and
across the wrap of SC with K negative, where a number comes twice, log 50 (both DESIGN CHOICE). What the command
leaves is DetectorsSetAndClear. What joining the queue does is NoticeDueQueuesANotice. -/
def Obligations.TalkSessionAdvancesAtTheTick : Prop :=
  (∀ (s : State) (b : CaptureBlock), s.part.moment.due .capture → s.part.cap.block = some b →
    (s.part.cap.station = .listening ∨ s.part.cap.station = .onAir) →
    (∀ d, s.part.cap.session = .starting d →
      ∃ t, exec .talkSessionAdvance s = .next (s.withPart t) ∧ t.cap.session = .opened d) ∧
    (∀ d d' : Byte, ∀ after : TalkSession,
      s.part.cap.session = .ending d ∧ after = .idle ∨
        s.part.cap.session = .switching d d' ∧ after = .opened d' →
      ∃ t, exec .talkSessionAdvance s = .next (s.withPart t) ∧ t.cap.session = after ∧
        t.cap.talkParcel = none ∧
        (s.part.cap.talkParcel = none → s.part.liu.queue.length ≤ 6 →
          ∃ x ∈ t.liu.queue, x.kind = .talk ∧ x.endFlag = true ∧ x.destination = d ∧ x.firstBlock = b.number ∧
            x.blocks = [[b.talk]]))) ∧
  (∀ (s : State) (b : CaptureBlock) (c : Instr), s.part.moment.tauDue = false →
    (s.part.cap.station = .listening ∨ s.part.cap.station = .onAir) → s.part.cap.block = some b →
    (c = .talkSessionAdvance ∧ s.part.moment.due .capture ∧ s.part.cap.session ≠ .idle ∧
        (∀ d, s.part.cap.session ≠ .opened d) ∨
      c = .blockTick ∧ s.part.moment.tick = true ∧ s.part.moment.done = [] ∧ s.part.liu.noticeCount + 1 <
        if s.part.tau.mode = .tracking ∨ s.part.tau.mode = .holdover then 100 else 20) →
    let held : Option Byte := match s.part.cap.session with
      | .opened d | .ending d | .switching d _ => some d
      | _ => none
    let ends : Bool := match s.part.cap.session with
      | .ending _ | .switching _ _ => true
      | _ => false
    let assembled : Option Assembly := match held with
      | none => s.part.cap.talkParcel
      | some d =>
        let a := s.part.cap.talkParcel.getD { firstBlock := b.number, destination := d, digest := none, blocks := [] }
        some { a with blocks := a.blocks ++ [[b.talk]] }
    let closes := s.part.moment.stepped = true ∨ ends = true ∨
      ∃ x ∈ assembled, s.part.settings.span ≤ x.blocks.length
    ∃ t, exec c s = .next (s.withPart t) ∧
      t.cap.session = (match s.part.cap.session with
        | .idle | .ending _ => .idle
        | .starting d | .opened d | .switching _ d => .opened d) ∧
      (closes → t.cap.talkParcel = none) ∧ (¬closes → t.cap.talkParcel = assembled) ∧
      ∃ audio talk : List Parcel,
        t.liu.queue = ((audio ++ talk).foldl (fun (q : Part) x => q.enqueue x) s.part).liu.queue ∧
        t.liu.txDropped = ((audio ++ talk).foldl (fun (q : Part) x => q.enqueue x) s.part).liu.txDropped ∧
        (∀ x ∈ audio, x.kind = .audio) ∧
        (s.part.cap.station = .listening → s.part.cap.audio = none → audio = []) ∧ (¬closes → talk = []) ∧
        (closes → talk = assembled.toList.map fun x =>
          { kind := .talk, firstBlock := x.firstBlock, laneCount := 1, destination := x.destination
            endFlag := ends, digest := none, laneFlags := [], blocks := x.blocks }))

/-- O47. Formalises R51. A settled peer holds F (kept by the measurement count, R37). -/
def Obligations.ConsensusTrimsTheExtremes : Prop :=
  (∀ xs : List Int, xs.length < 4 → consensus xs = Int.tdiv xs.sum xs.length) ∧
  (∀ xs : List Int, 4 ≤ xs.length → ∃ (hi lo : Int) (rest : List Int), (hi :: lo :: rest).Perm xs ∧
    (∀ x ∈ xs, x ≤ hi) ∧ (∀ x ∈ xs, lo ≤ x) ∧ consensus xs = Int.tdiv rest.sum rest.length) ∧
  (∀ p : Part, (∀ x : Station, (p.peer x).settled = true → (p.peer x).offset.isSome = true) →
    let offsets := (List.finRange 16).filterMap fun x : Station =>
      if (p.peer x).settled = true then (p.peer x).offset else none
    p.acquiringError = consensus offsets ∧ p.trackingError = consensus (0 :: offsets))

/-- O48. Formalises R60 to R62 and R64 for an instant without a step. The orders are log 6. The third large instant is
LargeRunTakesAStep, and what an instant leaves ClockModesMoveOnTheirEcho. -/
def Obligations.TrimUpdateAndTrimWord : Prop :=
  ∀ (s : State) (o : InstantOrder), o ≠ .targetOnly → s.part.moment.trimDue = true → s.part.moment.tauDue = true →
    s.part.cap.station ≠ .loading → s.part.tau.mode = .tracking → s.part.liu.echoCount = 4 →
    s.part.settledPeers ≠ [] → (s.part.trackingError.natAbs < 7680 ∨ s.part.tau.largeRun + 1 < 3) →
    let m := s.part.trackingError
    let i := max (-10000) (min 10000 (s.part.tau.integral - Int.tdiv m 16))
    let trim := max (-10000) (min 10000 (i - 4 * m))
    ∃ t, exec (.agreementInstant o) s = .next (s.withPart t) ∧
      t.tau = { s.part.tau with
        integral := i, trim := trim, emptyRun := 0
        largeRun := if m.natAbs < 7680 then 0 else s.part.tau.largeRun + 1
        trimWord := BitVec.ofInt 16 trim, trimWords := s.part.tau.trimWords + 1 } ∧
      t.moment.trimDue = false ∧ t.moment.tauDue = false

/-- O49. Formalises R50, R52 to R57, R59, R60 short of its limit, R63 and R64, R115 and R116 while playout is started.
That the first instant back from HOLDOVER leaves the large run 0 is log 41 (DEDUCED); the orders of an instant are log
6. TRACKING with a settled peer is TrimUpdateAndTrimWord and LargeRunTakesAStep, and the limits are
FoundingAndEmptyRunMoveTheMode. That the Playout Unit formed first reads the records before the step of a third large
error is log 6 too. -/
def Obligations.ClockModesMoveOnTheirEcho : Prop :=
  (∀ (s : State) (o : InstantOrder), o ≠ .targetOnly → s.part.moment.trimDue = true → s.part.moment.tauDue = true →
    s.part.cap.station ≠ .loading →
    let valid := s.part.liu.echoCount = 4
    let sent : Tau → Tau := fun u => { u with
      trimWord := BitVec.ofInt 16 u.trim, trimWords := u.trimWords + 1 }
    let tau := s.part.tau
    let joined : Tau := { tau with mode := .tracking, foundingCount := 0, emptyRun := 0, largeRun := 0 }
    let limit : Int → Int := fun v => max (-10000) (min 10000 v)
    ∃ t, exec (.agreementInstant o) s = .next (s.withPart t) ∧
      (s.part.tau.mode = .free → valid →
        t.tau = sent { s.part.tau with mode := .acquiring, foundingCount := 0 }) ∧
      (s.part.tau.mode = .free → ¬valid → t.tau = sent s.part.tau) ∧
      (s.part.tau.mode = .acquiring → ¬valid →
        t.tau = sent { s.part.tau with mode := .free, foundingCount := 0 }) ∧
      (s.part.tau.mode = .acquiring → valid → s.part.settledPeers = [] →
        s.part.tau.foundingCount + 1 < 20 + s.part.sul.own.number →
        t.tau = sent { s.part.tau with foundingCount := s.part.tau.foundingCount + 1 }) ∧
      (s.part.tau.mode = .tracking → ¬valid →
        t.tau = sent { s.part.tau with
          mode := .holdover, trim := s.part.tau.integral, emptyRun := 0, largeRun := 0 }) ∧
      (s.part.tau.mode = .holdover → ¬valid ∨ s.part.settledPeers = [] → t.tau = sent s.part.tau) ∧
      (tau.mode = .acquiring → valid → s.part.settledPeers ≠ [] →
        let m := s.part.acquiringError
        let blocks : Int := if 0 ≤ m then (m + 384) / 768 else -((384 - m) / 768)
        (m.natAbs < 384 → t.tau = sent joined ∧ t.moment.stepped = s.part.moment.stepped) ∧
        (384 ≤ m.natAbs → t.moment.stepped = true ∧ t.tau = sent { joined with
          correction := max (-140737488355296) (min 140737488355296 (tau.correction - 48 * blocks))
          resyncTimer := 200, trim := tau.integral })) ∧
      (tau.mode = .tracking → valid → s.part.settledPeers = [] → tau.emptyRun < 9 →
        -10000 ≤ tau.integral → tau.integral ≤ 10000 →
        t.tau = sent { tau with emptyRun := tau.emptyRun + 1, largeRun := 0, trim := tau.integral }) ∧
      (tau.mode = .holdover → valid → s.part.settledPeers ≠ [] →
        let m := s.part.trackingError
        let i := limit (tau.integral - Int.tdiv m 16)
        t.tau = sent { tau with mode := .tracking, largeRun := 0, integral := i, trim := limit (i - 4 * m) })) ∧
  (∀ s : State, s.part.moment.trimDue = true →
    let peers := (List.finRange 16).filter fun x : Station => (s.part.peer x).settled
    let raw := (peers.map fun x => max (s.part.peer x).lagCurrent (s.part.peer x).lagPrevious).foldl max 0 +
      s.part.settings.guardTime
    let formed := if s.part.moment.pluDue = true ∧ s.part.plu.position ≠ none ∧ peers ≠ [] then
        max s.part.settings.hmin (min s.part.settings.hmax raw)
      else s.part.plu.target
    ∃ t, exec (.agreementInstant .targetOnly) s = .next (s.withPart t) ∧ t.tau = s.part.tau ∧
      t.moment = { s.part.moment with pluDue := s.part.moment.pluDue && s.part.plu.position.isNone } ∧
      t.plu = { s.part.plu with target := formed } ∧
      (let told := if s.part.moment.pluDue = true ∧ s.part.plu.position ≠ none ∧ peers ≠ [] then
          if s.part.settings.hmax < raw then s.part.raiseFault ⟨.horizonLimit, .none⟩
          else s.part.endFault ⟨.horizonLimit, .none⟩
        else s.part
       t.faults = told.faults ∧ t.pnl = told.pnl)) ∧
  (∀ (s : State) (o : InstantOrder), s.part.moment.trimDue = true → s.part.moment.pluDue = true →
    s.part.plu.position ≠ none →
    ∃ t, exec (.agreementInstant o) s = .next (s.withPart t) ∧
      (let read : Part := if o = .timeFirst then t else s.part
       let peers := (List.finRange 16).filter fun x : Station => (read.peer x).settled
       let raw := (peers.map fun x => max (read.peer x).lagCurrent (read.peer x).lagPrevious).foldl max 0 +
         s.part.settings.guardTime
       t.moment.pluDue = false ∧
        (peers ≠ [] → t.plu.target = max s.part.settings.hmin (min s.part.settings.hmax raw) ∧
          (⟨.horizonLimit, .none⟩ ∈ t.faults.marks ↔ s.part.settings.hmax < raw)) ∧
        (peers = [] → t.plu.target = s.part.plu.target ∧
          (⟨.horizonLimit, .none⟩ ∈ t.faults.marks ↔ ⟨.horizonLimit, .none⟩ ∈ s.part.faults.marks)))) ∧
  (∀ (s : State) (o : InstantOrder), s.part.moment.trimDue = true → o ≠ .targetOnly →
    s.part.moment.pluDue = false ∨ s.part.plu.position = none →
    let sent : Part → Part := fun p => { p with
      tau := { p.tau with trimWord := BitVec.ofInt 16 p.tau.trim, trimWords := p.tau.trimWords + 1 }
      moment := { p.moment with trimDue := false } }
    let completed : Part → Part := fun p =>
      if p.plu.owed = some .step then p.takeMove .evaluationFirst else p
    let begun : Part := { s.part with moment := { s.part.moment with tauDue := false } }
    (s.part.moment.tauDue = false →
      exec (.agreementInstant o) s = .next (s.withPart (completed (sent s.part)))) ∧
    (s.part.moment.tauDue = true → s.part.cap.station = .loading →
      exec (.agreementInstant o) s = .next (s.withPart (completed (sent begun)))) ∧
    (s.part.moment.tauDue = true → s.part.cap.station ≠ .loading → s.part.tau.mode = .acquiring →
      s.part.liu.echoCount = 4 → s.part.settledPeers ≠ [] → 384 ≤ s.part.acquiringError.natAbs →
      exec (.agreementInstant o) s = .next (s.withPart (completed (sent (Part.takeStep s.part.acquiringError { begun with
        tau := { s.part.tau with mode := .tracking, foundingCount := 0, emptyRun := 0, largeRun := 0 } })))))) ∧
  (∀ s : State, s.part.moment.trimDue = true →
    ∀ u, exec (.agreementInstant .targetOnly) s = .next u →
      exec (.agreementInstant .playoutFirst) s = exec (.agreementInstant .timeFirst) u) ∧
  (∀ (s : State) (o : InstantOrder), s.part.moment.trimDue = true → o ≠ .targetOnly →
    (s.part.moment.tauDue = true → s.part.cap.station ≠ .loading → s.part.liu.echoCount = 4 →
      s.part.settledPeers ≠ [] →
      (s.part.tau.mode = .acquiring → s.part.acquiringError.natAbs < 384) ∧
        (s.part.tau.mode = .tracking → s.part.trackingError.natAbs < 7680 ∨ s.part.tau.largeRun + 1 < 3)) →
    let peers := (List.finRange 16).filter fun x : Station => (s.part.peer x).settled
    let raw := (peers.map fun x => max (s.part.peer x).lagCurrent (s.part.peer x).lagPrevious).foldl max 0 +
      s.part.settings.guardTime
    let forms := s.part.moment.pluDue = true ∧ s.part.plu.position ≠ none ∧ peers ≠ []
    let told := if forms then
        if s.part.settings.hmax < raw then s.part.raiseFault ⟨.horizonLimit, .none⟩
        else s.part.endFault ⟨.horizonLimit, .none⟩
      else s.part
    let completed : Part → Part := fun p =>
      if p.plu.owed = some .step then p.takeMove .evaluationFirst else p
    ∃ t, exec (.agreementInstant o) s = .next (s.withPart t) ∧
      t = completed { s.part with
        tau := t.tau
        plu := { s.part.plu with
          target := if forms then max s.part.settings.hmin (min s.part.settings.hmax raw) else s.part.plu.target }
        faults := told.faults, pnl := told.pnl
        moment := { s.part.moment with
          tauDue := false, trimDue := false, pluDue := s.part.moment.pluDue && s.part.plu.position.isNone } } ∧
      (s.part.moment.tauDue = false ∨ s.part.cap.station = .loading →
        t.tau = { s.part.tau with
          trimWord := BitVec.ofInt 16 s.part.tau.trim, trimWords := s.part.tau.trimWords + 1 })) ∧
  (∀ (s u : State) (o : InstantOrder) (c : Instr), s.part.moment.trimDue = true → o ≠ .targetOnly →
    (c = .founding ∨ c = .emptyRunExpiry ∨
      c = .largeRunStep ∧ (o = .timeFirst ∨ s.part.moment.pluDue = false ∨ s.part.plu.position = none)) →
    exec c s = .next u → exec (.agreementInstant o) s = exec (.agreementInstant o) u)

/-- O50. Formalises R55 and R60 at their limits, with R63's entry. That they are commands of their own is log 2, and
that they take the mode work alone, the trim word following with AGREEMENT_INSTANT, is log 6. -/
def Obligations.FoundingAndEmptyRunMoveTheMode : Prop :=
  ∀ s : State, s.part.moment.tauDue = true → s.part.cap.station ≠ .loading → s.part.liu.echoCount = 4 →
    s.part.settledPeers = [] →
    (s.part.tau.mode = .acquiring → 20 + s.part.sul.own.number ≤ s.part.tau.foundingCount + 1 →
      exec .founding s = .next (s.withPart { s.part with
        tau := { s.part.tau with mode := .tracking, foundingCount := 0, emptyRun := 0, largeRun := 0 }
        moment := { s.part.moment with tauDue := false } })) ∧
    (s.part.tau.mode = .tracking → 9 ≤ s.part.tau.emptyRun →
      exec .emptyRunExpiry s = .next (s.withPart { s.part with
        tau := { s.part.tau with
          mode := .holdover, trim := s.part.tau.integral, emptyRun := 0, largeRun := 0 }
        moment := { s.part.moment with tauDue := false } }))

/-- O51. Formalises R40, R47, R56, R57 with the digest it omits, R61, R76's spoiling, R103, R119, R120, R125, R134,
R142 and R173. That the command takes the mode work alone is log 6, that H is read less one while a move of P is owed
log 28, and that an ABSENT record stays cleared log 38 (both DEDUCED). That the window of a digest in assembly is that
of the parcel's first block is log 46 (DEDUCED). That a re-anchor plays the sample at the new P in place of a move
still owed is log 27 (DEDUCED), and that LANE_LOSS is taken in station and lane number order log 30 (DESIGN CHOICE).
-/
def Obligations.LargeRunTakesAStep : Prop :=
  (∀ s : State, s.part.moment.tauDue = true → s.part.cap.station ≠ .loading → s.part.tau.mode = .tracking →
    s.part.liu.echoCount = 4 → s.part.settledPeers ≠ [] → 7680 ≤ s.part.trackingError.natAbs →
    s.part.tau.largeRun = 2 →
    let m := s.part.trackingError
    let k := s.part.tau.correction
    let blocks : Int := if 0 ≤ m then (m + 384) / 768 else -((384 - m) / 768)
    let k' := max (-140737488355296) (min 140737488355296 (k - 48 * blocks))
    let tau' := { s.part.tau with
      correction := k', resyncTimer := 200, trim := s.part.tau.integral, emptyRun := 0, largeRun := 0 }
    let q : Part := { s.part with tau := tau' }
    ∃ t, exec .largeRunStep s = .next (s.withPart t) ∧
      t = Part.takeStep m { s.part with
        tau := { s.part.tau with emptyRun := 0, largeRun := 0 }
        moment := { s.part.moment with tauDue := false } } ∧ t.tau = tau' ∧ t.moment.tauDue = false ∧
      t.moment.stepped = true ∧
      (∀ x : Station, x = s.part.sul.own ∨ (s.part.peer x).state = .absent → t.peer x = s.part.peer x) ∧
      (∀ x : Station, x ≠ s.part.sul.own → (s.part.peer x).state ≠ .absent → t.peer x = { s.part.peer x with
        offset := (s.part.peer x).offset.map fun f =>
          max (-134217728) (min 134217712 (f - 16 * (k - k')))
        lagCurrent := (max 0 (min 65535 (((s.part.peer x).lagCurrent : Int) - (k - k')))).toNat
        lagPrevious := (max 0 (min 65535 (((s.part.peer x).lagPrevious : Int) - (k - k')))).toNat }) ∧
      t.plu.position =
        (if s.part.plu.position = none ∨ (48 ≤ q.horizon ∧ q.horizon ≤ 49104) then s.part.plu.position
         else some (s.part.tau.sc + BitVec.ofInt 48 k' - BitVec.ofNat 48 s.part.plu.target)) ∧
      (let spoils : Option Nat → Prop := fun w => w = s.part.cap.block.map (fun b => b.number.toNat / 64) ∨
          w = some ((blockOf (s.part.tau.sc + BitVec.ofInt 48 k')).toNat / 64)
       t.cap = { s.part.cap with digest := t.cap.digest, audio := t.cap.audio } ∧
        t.cap.digest = { s.part.cap.digest with spoiled := t.cap.digest.spoiled } ∧
        (t.cap.digest.spoiled = true ↔ s.part.cap.digest.spoiled = true ∨ spoils s.part.cap.digest.window) ∧
        (s.part.cap.audio = none → t.cap.audio = none) ∧
        ∀ a, s.part.cap.audio = some a →
          (spoils (some (a.firstBlock.toNat / 64)) → t.cap.audio = some { a with digest := none }) ∧
          (¬spoils (some (a.firstBlock.toNat / 64)) → t.cap.audio = some a)) ∧
      (s.part.plu.position = none ∨ (48 ≤ q.horizon ∧ q.horizon ≤ 49104) →
        t.plu = s.part.plu ∧ t.ast = s.part.ast ∧ t.imn = s.part.imn ∧ t.mxe = s.part.mxe) ∧
      (∀ pos, s.part.plu.position ≠ none → ¬(48 ≤ q.horizon ∧ q.horizon ≤ 49104) → t.plu.position = some pos →
        let pb := blockOf pos
        t.plu.slipPhase = 0 ∧ t.plu.owed = none ∧ t.plu.slipCount = s.part.plu.slipCount ∧
        t.plu.target = s.part.plu.target ∧
        t.ast.buffers = s.part.ast.buffers.filter (fun x => (x.block - pb).toNat ≤ 1023) ∧
        t.ast.free + t.ast.buffers.length = s.part.ast.free + s.part.ast.buffers.length ∧
        (∀ (x : Station) (j : LaneNo), t.plu.lane x j =
          if x = s.part.sul.own then s.part.plu.lane x j
          else (s.part.plu.lane x j).enter j ((s.part.peer x).expects j) (s.part.ast.lane x pb j)) ∧
        ∀ x : Station, x ≠ s.part.sul.own → t.imn[x] = { s.part.imn[x] with
          entries := (List.range (if pb.toNat % 64 = 0 then 16 else 17)).map fun i =>
            let window := (pb.toNat / 64 + i) % 67108864
            match s.part.imn[x].entries.find? (fun e => e.window == window) with
            | some e => { e with spoiled := true }
            | none => { window := window, expected := none, sum := 0, fills := 0, spoiled := false } })) ∧
  (∀ (p : Part) (m : Int),
    let k := p.tau.correction
    let blocks : Int := if 0 ≤ m then (m + 384) / 768 else -((384 - m) / 768)
    let k' := max (-140737488355296) (min 140737488355296 (k - 48 * blocks))
    let q : Part := { p with tau := { p.tau with correction := k', resyncTimer := 200, trim := p.tau.integral } }
    let out := p.plu.position ≠ none ∧ ¬(48 ≤ q.horizon ∧ q.horizon ≤ 49104)
    let anchor := p.tau.sc + BitVec.ofInt 48 k' - BitVec.ofNat 48 p.plu.target
    let spoils : Option Nat → Prop := fun w => w = p.cap.block.map (fun b => b.number.toNat / 64) ∨
      w = some ((blockOf (p.tau.sc + BitVec.ofInt 48 k')).toNat / 64)
    let t := p.takeStep m
    t = { q with
        moment := { p.moment with stepped := true }
        ptb := { p.ptb with records := t.ptb.records }
        cap := { p.cap with digest := t.cap.digest, audio := t.cap.audio }
        ast := { p.ast with buffers := t.ast.buffers, free := t.ast.free }
        plu := if out then
            { p.plu with position := some anchor, slipPhase := 0, owed := none, lanes := t.plu.lanes }
          else p.plu
        mxe := { p.mxe with
          outputs := t.mxe.outputs, dither := t.mxe.dither, clipCount := t.mxe.clipCount, peaks := t.mxe.peaks
          clips := t.mxe.clips, switches := t.mxe.switches, resolved := t.mxe.resolved
          silenced := t.mxe.silenced, groups := t.mxe.groups, active := t.mxe.active
          pendingBank := t.mxe.pendingBank, takeCount := t.mxe.takeCount, crossfade := t.mxe.crossfade
          duckLevel := t.mxe.duckLevel, duckRamp := t.mxe.duckRamp }
        imn := t.imn, faults := t.faults, pnl := t.pnl } ∧
      (∀ x : Station, t.peer x =
        if x = p.sul.own ∨ (p.peer x).state = .absent then p.peer x
        else { p.peer x with
          offset := (p.peer x).offset.map fun f => max (-134217728) (min 134217712 (f - 16 * (k - k')))
          lagCurrent := (max 0 (min 65535 (((p.peer x).lagCurrent : Int) - (k - k')))).toNat
          lagPrevious := (max 0 (min 65535 (((p.peer x).lagPrevious : Int) - (k - k')))).toNat }) ∧
      t.cap.digest = { p.cap.digest with spoiled := t.cap.digest.spoiled } ∧
      (t.cap.digest.spoiled = true ↔ p.cap.digest.spoiled = true ∨ spoils p.cap.digest.window) ∧
      (p.cap.audio = none → t.cap.audio = none) ∧
      (∀ a, p.cap.audio = some a →
        (spoils (some (a.firstBlock.toNat / 64)) → t.cap.audio = some { a with digest := none }) ∧
        (¬spoils (some (a.firstBlock.toNat / 64)) → t.cap.audio = some a)) ∧
      (¬out → t.ast = p.ast ∧ t.imn = p.imn ∧ t.mxe = p.mxe ∧ t.faults = p.faults ∧ t.pnl = p.pnl) ∧
      (out → p.plu.owed = none →
        t.mxe.outputs = p.mxe.outputs ∧ t.mxe.dither = p.mxe.dither ∧ t.mxe.clipCount = p.mxe.clipCount ∧
        t.mxe.peaks = p.mxe.peaks ∧ t.mxe.clips = p.mxe.clips) ∧
      (out → p.plu.owed ≠ none →
        (let i := anchor.toNat % 48
         let clip : OutputNo → Bool := fun o => decide (t.unsaturated o i < -8388608 ∨ 8388607 < t.unsaturated o i)
         let value : OutputNo → Int := fun o => reduceWord p.settings.outputs[o] p.mxe.dither[o]
           (max (-8388608) (min 8388607 (t.unsaturated o i)))
         (∀ o : OutputNo, t.mxe.outputs[o] = BitVec.ofInt 24 (value o) ∧
            t.mxe.dither[o] = (if p.settings.outputs[o].dither = true ∧ p.settings.outputs[o].word ≠ .w24 then
              ditherAdvance (ditherAdvance p.mxe.dither[o]) else p.mxe.dither[o]) ∧
            t.mxe.peaks[o] = (if p.mxe.metersOn = true then max p.mxe.peaks[o] (value o).natAbs
              else p.mxe.peaks[o]) ∧
            t.mxe.clips[o] = (p.mxe.clips[o] || (p.mxe.metersOn && clip o))) ∧
          t.mxe.clipCount = min (p.mxe.clipCount + ((List.finRange 8).filter clip).length) 4294967295)) ∧
      (out →
        t.ast = { p.ast with buffers := t.ast.buffers, free := t.ast.free } ∧
        t.ast.buffers = p.ast.buffers.filter (fun x => (x.block - (blockOf anchor)).toNat ≤ 1023) ∧
        t.ast.free + t.ast.buffers.length = p.ast.free + p.ast.buffers.length ∧
        (∀ (x : Station) (j : LaneNo), t.plu.lane x j =
          if x = p.sul.own then p.plu.lane x j
          else (p.plu.lane x j).enter j ((p.peer x).expects j) (p.ast.lane x (blockOf anchor) j)) ∧
        (∀ x : Station, t.imn[x] = if x = p.sul.own then p.imn[x] else { p.imn[x] with
          entries := (List.range (if (blockOf anchor).toNat % 64 = 0 then 16 else 17)).map fun i =>
            let window := ((blockOf anchor).toNat / 64 + i) % 67108864
            match p.imn[x].entries.find? (fun e => e.window == window) with
            | some e => { e with spoiled := true }
            | none => { window := window, expected := none, sum := 0, fills := 0, spoiled := false } }) ∧
        (let bad : Station → ProgLane → Bool := fun x k => (t.plu.lane x k.lane).bad p.imn[x].suspect
         ∀ (x : Station) (k : ProgLane), t.mxe.switches[x][k] =
          if x = p.sul.own then p.mxe.switches[x][k]
          else FallbackSwitch.decide (if p.mxe.fallback[x][k] = some k then none else p.mxe.fallback[x][k])
            (bad x k) (bad x) p.mxe.switches[x][k]) ∧
        (let lost : Station → ProgLane → Bool := fun x k => decide ((t.plu.lane x k.lane).state = .muted ∧
            (p.peer x).expects k.lane = true ∧ (p.peer x).state = .present)
         let streams := ((List.finRange 16).filter fun x : Station => x ≠ p.sul.own).flatMap fun x =>
            (List.finRange 8).map fun k : ProgLane => (x, k)
         let told : Part := streams.foldl
            (fun q x => if lost x.1 x.2 = true then q.raiseFault ⟨.laneLoss, .lane x.1 x.2⟩
              else q.endFault ⟨.laneLoss, .lane x.1 x.2⟩) q
         t.faults = told.faults ∧ t.pnl = told.pnl) ∧
        (∀ x : Station, t.mxe.silenced[x] = (decide (x ≠ p.sul.own) && p.imn[x].suspect)) ∧
        (∀ (x : Station) (k : ProgLane), t.mxe.resolved[x][k] = match p.mxe.map[x][k] with
          | .group g => g
          | .byRole => match (p.peer x).announced with
            | none => 0
            | some a => match a.roles[k] with
              | .none => 0
              | .comm => 1
              | .crowd => 2
              | .aux => 3) ∧
        t.mxe.takeCount = 0 ∧ t.mxe.crossfade = decide (p.mxe.takeCount % 2 = 1) ∧
        ((t.mxe.active, t.mxe.pendingBank) =
          if p.mxe.takeCount % 2 = 1 then (p.mxe.pendingBank, p.mxe.active) else (p.mxe.active, p.mxe.pendingBank)) ∧
        (∀ g : GroupIx, t.mxe.groups[g] = match p.mxe.groups[g].ramp with
          | none => p.mxe.groups[g]
          | some r =>
            let n : Int := r.length
            let k : Int := r.k + 1
            let way : Int := (p.mxe.groups[g].target : Int) - r.start
            if r.length ≤ r.k + 1 then { p.mxe.groups[g] with gain := p.mxe.groups[g].target, ramp := none }
            else { p.mxe.groups[g] with
              gain := ((r.start : Int) + match r.shape with
                | .linear => Int.tdiv (way * k) n
                | .eased => Int.tdiv (way * (3 * k ^ 2 * n - 2 * k ^ 3)) (n ^ 3)).toNat
              ramp := some { r with k := r.k + 1 } }) ∧
        (let aim : Nat := if ∃ x : Station, x ≠ p.sul.own ∧
            ((t.plu.lane x talkLane).state = .playing ∨ (t.plu.lane x talkLane).state = .recovering)
           then p.settings.duckGain else 32768
         let begun : DuckRamp := ⟨p.mxe.duckLevel, aim, 0⟩
         let r : DuckRamp := match p.mxe.duckRamp with
           | some r => if r.aim = aim then r else begun
           | none => begun
         let still := p.mxe.duckRamp = none ∧ p.mxe.duckLevel = aim
         (still → t.mxe.duckLevel = aim ∧ t.mxe.duckRamp = none) ∧
         (¬still → 9 ≤ r.k → t.mxe.duckLevel = aim ∧ t.mxe.duckRamp = none) ∧
         (¬still → r.k < 9 →
           t.mxe.duckLevel = ((r.start : Int) + Int.tdiv (((aim : Int) - r.start) * (r.k + 1)) 10).toNat ∧
           t.mxe.duckRamp = some { r with k := r.k + 1 }))))

/-- O52. Formalises R112, R115 and R116 at the start, with R125's entry, R134, R138 and R142 at it, R158 to R163 at
the sample played, and R168's entries. That a turn without a start is taken once at an instant is log 6. That the
sample at P is played in the event of the start is log 27 (DEDUCED), and that LANE_LOSS is taken in station and lane
number order log 30 (DESIGN CHOICE). -/
def Obligations.PlayoutStartPlacesP : Prop :=
  ∀ s : State, s.part.moment.pluDue = true → s.part.plu.position = none →
    let peers := (List.finRange 16).filter fun x : Station => (s.part.peer x).settled
    let raw := (peers.map fun x => max (s.part.peer x).lagCurrent (s.part.peer x).lagPrevious).foldl max 0 +
      s.part.settings.guardTime
    let target := max s.part.settings.hmin (min s.part.settings.hmax raw)
    (s.part.tau.mode.settled = true → peers ≠ [] →
      ∃ t, exec .playoutStart s = .next (s.withPart t) ∧ t.plu.target = target ∧ t.plu.slipPhase = 0 ∧
        t.plu.position = some (s.part.tau.sc + BitVec.ofInt 48 s.part.tau.correction - BitVec.ofNat 48 target) ∧
        (∀ pb : BlockNo, t.plu.position.map blockOf = some pb → ∀ y : Station, y ≠ s.part.sul.own →
          t.imn[y] = { s.part.imn[y] with
            entries := (List.range (if pb.toNat % 64 = 0 then 16 else 17)).map fun i =>
              { window := (pb.toNat / 64 + i) % 67108864, expected := none, sum := 0, fills := 0
                spoiled := false } }) ∧
        (let i := match t.plu.position with | some pos => pos.toNat % 48 | none => 0
         let clip : OutputNo → Bool := fun o => decide (t.unsaturated o i < -8388608 ∨ 8388607 < t.unsaturated o i)
         let value : OutputNo → Int := fun o => reduceWord s.part.settings.outputs[o] s.part.mxe.dither[o]
           (max (-8388608) (min 8388607 (t.unsaturated o i)))
         (∀ o : OutputNo, t.mxe.outputs[o] = BitVec.ofInt 24 (value o) ∧
            t.mxe.dither[o] = (if s.part.settings.outputs[o].dither = true ∧ s.part.settings.outputs[o].word ≠ .w24 then
              ditherAdvance (ditherAdvance s.part.mxe.dither[o]) else s.part.mxe.dither[o]) ∧
            t.mxe.peaks[o] = (if s.part.mxe.metersOn = true then max s.part.mxe.peaks[o] (value o).natAbs
              else s.part.mxe.peaks[o]) ∧
            t.mxe.clips[o] = (s.part.mxe.clips[o] || (s.part.mxe.metersOn && clip o))) ∧
          t.mxe.clipCount = min (s.part.mxe.clipCount + ((List.finRange 8).filter clip).length) 4294967295) ∧
        (∀ pb : BlockNo, t.plu.position.map blockOf = some pb → ∀ (x : Station) (j : LaneNo), t.plu.lane x j =
          if x = s.part.sul.own then s.part.plu.lane x j
          else (s.part.plu.lane x j).enter j ((s.part.peer x).expects j) (s.part.ast.lane x pb j)) ∧
        (let bad : Station → ProgLane → Bool := fun x k => (t.plu.lane x k.lane).bad s.part.imn[x].suspect
         ∀ (x : Station) (k : ProgLane), t.mxe.switches[x][k] =
          if x = s.part.sul.own then s.part.mxe.switches[x][k]
          else FallbackSwitch.decide (if s.part.mxe.fallback[x][k] = some k then none else s.part.mxe.fallback[x][k])
            (bad x k) (bad x) s.part.mxe.switches[x][k]) ∧
        (let lost : Station → ProgLane → Bool := fun x k => decide ((t.plu.lane x k.lane).state = .muted ∧
            (s.part.peer x).expects k.lane = true ∧ (s.part.peer x).state = .present)
         let streams := ((List.finRange 16).filter fun x : Station => x ≠ s.part.sul.own).flatMap fun x =>
            (List.finRange 8).map fun k : ProgLane => (x, k)
         let told : Part := streams.foldl
            (fun q x => if lost x.1 x.2 = true then q.raiseFault ⟨.laneLoss, .lane x.1 x.2⟩
              else q.endFault ⟨.laneLoss, .lane x.1 x.2⟩) (if s.part.settings.hmax < raw then s.part.raiseFault ⟨.horizonLimit, .none⟩ else s.part.endFault ⟨.horizonLimit, .none⟩)
         t.faults = told.faults ∧ t.pnl = told.pnl) ∧
        (∀ x : Station, t.mxe.silenced[x] = (decide (x ≠ s.part.sul.own) && s.part.imn[x].suspect)) ∧
        (∀ (x : Station) (k : ProgLane), t.mxe.resolved[x][k] = match s.part.mxe.map[x][k] with
          | .group g => g
          | .byRole => match (s.part.peer x).announced with
            | none => 0
            | some a => match a.roles[k] with
              | .none => 0
              | .comm => 1
              | .crowd => 2
              | .aux => 3) ∧
        t.mxe.takeCount = 0 ∧ t.mxe.crossfade = decide (s.part.mxe.takeCount % 2 = 1) ∧
        ((t.mxe.active, t.mxe.pendingBank) =
          if s.part.mxe.takeCount % 2 = 1 then (s.part.mxe.pendingBank, s.part.mxe.active) else (s.part.mxe.active, s.part.mxe.pendingBank)) ∧
        (∀ g : GroupIx, t.mxe.groups[g] = match s.part.mxe.groups[g].ramp with
          | none => s.part.mxe.groups[g]
          | some r =>
            let n : Int := r.length
            let k : Int := r.k + 1
            let way : Int := (s.part.mxe.groups[g].target : Int) - r.start
            if r.length ≤ r.k + 1 then { s.part.mxe.groups[g] with gain := s.part.mxe.groups[g].target, ramp := none }
            else { s.part.mxe.groups[g] with
              gain := ((r.start : Int) + match r.shape with
                | .linear => Int.tdiv (way * k) n
                | .eased => Int.tdiv (way * (3 * k ^ 2 * n - 2 * k ^ 3)) (n ^ 3)).toNat
              ramp := some { r with k := r.k + 1 } }) ∧
        (let aim : Nat := if ∃ x : Station, x ≠ s.part.sul.own ∧
            ((t.plu.lane x talkLane).state = .playing ∨ (t.plu.lane x talkLane).state = .recovering)
           then s.part.settings.duckGain else 32768
         let begun : DuckRamp := ⟨s.part.mxe.duckLevel, aim, 0⟩
         let r : DuckRamp := match s.part.mxe.duckRamp with
           | some r => if r.aim = aim then r else begun
           | none => begun
         let still := s.part.mxe.duckRamp = none ∧ s.part.mxe.duckLevel = aim
         (still → t.mxe.duckLevel = aim ∧ t.mxe.duckRamp = none) ∧
         (¬still → 9 ≤ r.k → t.mxe.duckLevel = aim ∧ t.mxe.duckRamp = none) ∧
         (¬still → r.k < 9 →
           t.mxe.duckLevel = ((r.start : Int) + Int.tdiv (((aim : Int) - r.start) * (r.k + 1)) 10).toNat ∧
           t.mxe.duckRamp = some { r with k := r.k + 1 })) ∧
        t = { s.part with
          plu := { s.part.plu with
            position := t.plu.position, target := target, slipPhase := 0, owed := none, lanes := t.plu.lanes }
          mxe := { s.part.mxe with
            outputs := t.mxe.outputs, dither := t.mxe.dither, clipCount := t.mxe.clipCount, peaks := t.mxe.peaks
            clips := t.mxe.clips, switches := t.mxe.switches, resolved := t.mxe.resolved
            silenced := t.mxe.silenced, groups := t.mxe.groups, active := t.mxe.active
            pendingBank := t.mxe.pendingBank, takeCount := t.mxe.takeCount, crossfade := t.mxe.crossfade
            duckLevel := t.mxe.duckLevel, duckRamp := t.mxe.duckRamp }
          imn := t.imn, faults := t.faults, pnl := t.pnl, moment := t.moment } ∧
        t.ast = s.part.ast ∧ t.moment = { s.part.moment with pluDue := false } ∧
        t.faults.isActive ⟨.horizonLimit, .none⟩ = decide (s.part.settings.hmax < raw)) ∧
    (s.part.tau.mode.settled = false ∨ peers = [] →
      exec .playoutStart s = .next (s.withPart { s.part with
        moment := { s.part.moment with pluDue := false } }))

/-- O53. Formalises R117, R118, R113 with the sample played, R158 to R163 at it, R99, R125, R134, R138's reading,
R142, R144, R146, R153, R174 and R175 at a crossing, and R103, R113 and R173 past 2^48 − 1. That H is read less one
while the move is owed is log 28 (DEDUCED, unsafe by one sample); that a slip past 2^48 − 1 is counted is log 29
(DEDUCED); that either order of the evaluation may come with the move is log 5. That an ordinary move may be held is
log 5 too. That LANE_LOSS and DIGEST_SUSPECT are taken in station and lane number order is log 30 (DESIGN CHOICE).
That a window left a second time, after a re-anchor back, is evaluated again is log 51 (DESIGN CHOICE). -/
def Obligations.SlipDecisionMovesP : Prop :=
  (∀ (s : State) (order : CrossOrder) (pos : SampleCount), s.part.plu.owed = some .slip →
    s.part.plu.position = some pos →
    let h := (s.part.tau.sc + BitVec.ofInt 48 s.part.tau.correction - pos).toInt - 1
    let target : Int := s.part.plu.target
    ∃ t, exec (.slipDecision order) s = .next (s.withPart t) ∧ t = s.part.takeMove order ∧ t.plu.owed = none ∧
      t.plu.target = s.part.plu.target ∧ t.tau = s.part.tau ∧
      (h < target → t.plu.position = some pos) ∧ (h = target → t.plu.position = some (pos + 1)) ∧
      (target < h → t.plu.position = some (pos + 2)) ∧
      t.plu.slipCount = if h = target then s.part.plu.slipCount else min (s.part.plu.slipCount + 1) 4294967295) ∧
  (∀ (p : Part) (order : CrossOrder) (pos : SampleCount) (m : Move), p.plu.owed = some m →
    p.plu.position = some pos →
    let h := (p.tau.sc + BitVec.ofInt 48 p.tau.correction - pos).toInt - 1
    let target : Int := p.plu.target
    let step : Nat := match m with
      | .step => 1
      | .slip => if h < target then 0 else if h = target then 1 else 2
    let next : SampleCount := pos + BitVec.ofNat 48 step
    let b := blockOf pos
    let t := p.takeMove order
    t = { p with
        plu := { p.plu with
          position := some next, owed := none, lanes := t.plu.lanes
          slipPhase := if pos.toNat + step < 2 ^ 48 then p.plu.slipPhase else 0
          slipCount := if step = 1 then p.plu.slipCount else min (p.plu.slipCount + 1) 4294967295 }
        ast := { p.ast with buffers := t.ast.buffers, free := t.ast.free }
        mxe := { p.mxe with
          outputs := t.mxe.outputs, dither := t.mxe.dither, clipCount := t.mxe.clipCount, peaks := t.mxe.peaks
          clips := t.mxe.clips, switches := t.mxe.switches, resolved := t.mxe.resolved
          silenced := t.mxe.silenced, groups := t.mxe.groups, active := t.mxe.active
          pendingBank := t.mxe.pendingBank, takeCount := t.mxe.takeCount, crossfade := t.mxe.crossfade
          duckLevel := t.mxe.duckLevel, duckRamp := t.mxe.duckRamp }
        imn := t.imn, faults := t.faults, pnl := t.pnl } ∧
      (let i := next.toNat % 48
       let clip : OutputNo → Bool := fun o => decide (t.unsaturated o i < -8388608 ∨ 8388607 < t.unsaturated o i)
       let value : OutputNo → Int := fun o => reduceWord p.settings.outputs[o] p.mxe.dither[o]
         (max (-8388608) (min 8388607 (t.unsaturated o i)))
       (∀ o : OutputNo, t.mxe.outputs[o] = BitVec.ofInt 24 (value o) ∧
          t.mxe.dither[o] = (if p.settings.outputs[o].dither = true ∧ p.settings.outputs[o].word ≠ .w24 then
            ditherAdvance (ditherAdvance p.mxe.dither[o]) else p.mxe.dither[o]) ∧
          t.mxe.peaks[o] = (if p.mxe.metersOn = true then max p.mxe.peaks[o] (value o).natAbs
            else p.mxe.peaks[o]) ∧
          t.mxe.clips[o] = (p.mxe.clips[o] || (p.mxe.metersOn && clip o))) ∧
        t.mxe.clipCount = min (p.mxe.clipCount + ((List.finRange 8).filter clip).length) 4294967295) ∧
      (pos.toNat + step < 2 ^ 48 → blockOf next = b →
        t = { p with
          plu := { p.plu with position := some next, owed := none, slipCount := t.plu.slipCount }
          mxe := { p.mxe with
            outputs := t.mxe.outputs, dither := t.mxe.dither, clipCount := t.mxe.clipCount, peaks := t.mxe.peaks
            clips := t.mxe.clips } }) ∧
      (pos.toNat + step < 2 ^ 48 → blockOf next ≠ b →
        t.ast.buffers = p.ast.buffers.filter (fun x => x.block ≠ b) ∧
        t.ast.free + t.ast.buffers.length = p.ast.free + p.ast.buffers.length ∧
        (∀ (x : Station) (k : LaneNo), t.plu.lane x k =
          if x = p.sul.own then p.plu.lane x k
          else (p.plu.lane x k).enter k ((p.peer x).expects k) (p.ast.lane x (b + 1) k)) ∧
        (let suspect : Station → Bool := fun x =>
            match order with
            | .evaluationFirst => t.imn[x].suspect
            | .readersFirst => p.imn[x].suspect
          let bad : Station → ProgLane → Bool := fun x k => (t.plu.lane x k.lane).bad (suspect x)
          ∀ (x : Station) (k : ProgLane), t.mxe.switches[x][k] =
            if x = p.sul.own then p.mxe.switches[x][k]
            else FallbackSwitch.decide
              (if p.mxe.fallback[x][k] = some k then none else p.mxe.fallback[x][k]) (bad x k) (bad x)
              p.mxe.switches[x][k]) ∧
        (let lost : Station → ProgLane → Bool := fun x k => decide ((t.plu.lane x k.lane).state = .muted ∧
            (p.peer x).expects k.lane = true ∧ (p.peer x).state = .present)
          let streams := ((List.finRange 16).filter fun x : Station => x ≠ p.sul.own).flatMap fun x =>
            (List.finRange 8).map fun k : ProgLane => (x, k)
          let losses : Part → Part := fun p => streams.foldl
            (fun q x => if lost x.1 x.2 = true then q.raiseFault ⟨.laneLoss, .lane x.1 x.2⟩
              else q.endFault ⟨.laneLoss, .lane x.1 x.2⟩) p
          let judged := (List.finRange 16).filter fun x : Station => x ≠ p.sul.own ∧ b.toNat % 64 = 63 ∧
            p.imn[x].entries.any (fun e => e.window == b.toNat / 64) = true
          let suspects : Part → Part := fun p => judged.foldl
            (fun q x => if t.imn[x].suspect = true then q.raiseFault ⟨.digestSuspect, .station x⟩
              else q.endFault ⟨.digestSuspect, .station x⟩) p
          let told := match order with
            | .evaluationFirst => losses (suspects p)
            | .readersFirst => suspects (losses p)
          (∀ (x : Station) (k : ProgLane), x ≠ p.sul.own →
            (⟨.laneLoss, .lane x k⟩ ∈ t.faults.marks ↔ lost x k = true)) ∧
          t.faults = told.faults ∧ t.pnl = told.pnl) ∧
        (∀ x : Station, t.mxe.silenced[x] = (decide (x ≠ p.sul.own) &&
          match order with
          | .evaluationFirst => t.imn[x].suspect
          | .readersFirst => p.imn[x].suspect)) ∧
        (∀ (x : Station) (k : ProgLane), t.mxe.resolved[x][k] = match p.mxe.map[x][k] with
          | .group g => g
          | .byRole => match (p.peer x).announced with
            | none => 0
            | some a => match a.roles[k] with
              | .none => 0
              | .comm => 1
              | .crowd => 2
              | .aux => 3) ∧
        t.mxe.takeCount = 0 ∧ t.mxe.crossfade = decide (p.mxe.takeCount % 2 = 1) ∧
        ((t.mxe.active, t.mxe.pendingBank) =
          if p.mxe.takeCount % 2 = 1 then (p.mxe.pendingBank, p.mxe.active)
          else (p.mxe.active, p.mxe.pendingBank)) ∧
        (∀ y : Station,
          (y = p.sul.own → t.imn[y] = p.imn[y]) ∧
          (y ≠ p.sul.own → t.imn[y].entries = (List.range (if (b + 1).toNat % 64 = 0 then 16 else 17)).map fun i =>
            let window := ((b + 1).toNat / 64 + i) % 67108864
            match p.imn[y].entries.find? (fun e => e.window == window) with
            | some e => e
            | none => { window := window, expected := none, sum := 0, fills := 0, spoiled := false }) ∧
          (y ≠ p.sul.own → b.toNat % 64 ≠ 63 ∨ p.imn[y].entries.find? (fun e => e.window == b.toNat / 64) = none →
            t.imn[y].mismatchRun = p.imn[y].mismatchRun ∧ t.imn[y].suspect = p.imn[y].suspect ∧
              t.imn[y].outcome = p.imn[y].outcome)) ∧
        (∀ g : GroupIx, t.mxe.groups[g] = match p.mxe.groups[g].ramp with
          | none => p.mxe.groups[g]
          | some r =>
            let n : Int := r.length
            let k : Int := r.k + 1
            let way : Int := (p.mxe.groups[g].target : Int) - r.start
            if r.length ≤ r.k + 1 then { p.mxe.groups[g] with gain := p.mxe.groups[g].target, ramp := none }
            else { p.mxe.groups[g] with
              gain := ((r.start : Int) + match r.shape with
                | .linear => Int.tdiv (way * k) n
                | .eased => Int.tdiv (way * (3 * k ^ 2 * n - 2 * k ^ 3)) (n ^ 3)).toNat
              ramp := some { r with k := r.k + 1 } }) ∧
        (let aim : Nat := if ∃ x : Station, x ≠ p.sul.own ∧
            ((t.plu.lane x talkLane).state = .playing ∨ (t.plu.lane x talkLane).state = .recovering)
           then p.settings.duckGain else 32768
         let begun : DuckRamp := ⟨p.mxe.duckLevel, aim, 0⟩
         let r : DuckRamp := match p.mxe.duckRamp with
           | some r => if r.aim = aim then r else begun
           | none => begun
         let still := p.mxe.duckRamp = none ∧ p.mxe.duckLevel = aim
         (still → t.mxe.duckLevel = aim ∧ t.mxe.duckRamp = none) ∧
         (¬still → 9 ≤ r.k → t.mxe.duckLevel = aim ∧ t.mxe.duckRamp = none) ∧
         (¬still → r.k < 9 →
           t.mxe.duckLevel = ((r.start : Int) + Int.tdiv (((aim : Int) - r.start) * (r.k + 1)) 10).toNat ∧
           t.mxe.duckRamp = some { r with k := r.k + 1 }))) ∧
      (∀ (y : Station) (e : WindowEntry), pos.toNat + step < 2 ^ 48 → blockOf next ≠ b → b.toNat % 64 = 63 →
        y ≠ p.sul.own → p.imn[y].entries.find? (fun w => w.window == b.toNat / 64) = some e →
        let whole := e.expected.isSome = true ∧ e.spoiled = false ∧
          ∃ a, (p.peer y).announced = some a ∧ 1 ≤ a.laneCount ∧ e.fills = 64 * a.laneCount
        let d := p.imn[y]
        (∀ w ∈ t.imn[y].entries, w.window ≠ b.toNat / 64) ∧
        (whole → e.expected = some e.sum →
          t.imn[y].outcome = some .agreed ∧ t.imn[y].mismatchRun = 0 ∧ t.imn[y].suspect = false) ∧
        (whole → e.expected ≠ some e.sum →
          t.imn[y].outcome = some .mismatch ∧ t.imn[y].mismatchRun = min (d.mismatchRun + 1) 3 ∧
            t.imn[y].suspect = (d.suspect || decide (2 ≤ d.mismatchRun))) ∧
        (¬whole → t.imn[y].outcome = some .incomplete ∧ t.imn[y].mismatchRun = d.mismatchRun ∧
          t.imn[y].suspect = d.suspect) ∧
        (⟨.digestSuspect, .station y⟩ ∈ t.faults.marks ↔ t.imn[y].suspect = true) ∧
        (whole → e.expected ≠ some e.sum → d.suspect = false → d.mismatchRun = 2 →
          ⟨.digestSuspect, .station y⟩ ∈ t.faults.marks) ∧
        (whole → e.expected = some e.sum → ⟨.digestSuspect, .station y⟩ ∉ t.faults.marks)) ∧
      (2 ^ 48 ≤ pos.toNat + step →
        t.ast = { p.ast with buffers := t.ast.buffers, free := t.ast.free } ∧
        t.ast.buffers = p.ast.buffers.filter (fun x => (x.block - (blockOf next)).toNat ≤ 1023) ∧
        t.ast.free + t.ast.buffers.length = p.ast.free + p.ast.buffers.length ∧
        (∀ (x : Station) (j : LaneNo), t.plu.lane x j =
          if x = p.sul.own then p.plu.lane x j
          else (p.plu.lane x j).enter j ((p.peer x).expects j) (p.ast.lane x (blockOf next) j)) ∧
        (∀ x : Station, t.imn[x] = if x = p.sul.own then p.imn[x] else { p.imn[x] with
          entries := (List.range (if (blockOf next).toNat % 64 = 0 then 16 else 17)).map fun i =>
            let window := ((blockOf next).toNat / 64 + i) % 67108864
            match p.imn[x].entries.find? (fun e => e.window == window) with
            | some e => { e with spoiled := true }
            | none => { window := window, expected := none, sum := 0, fills := 0, spoiled := false } }) ∧
        (let bad : Station → ProgLane → Bool := fun x k => (t.plu.lane x k.lane).bad p.imn[x].suspect
         ∀ (x : Station) (k : ProgLane), t.mxe.switches[x][k] =
          if x = p.sul.own then p.mxe.switches[x][k]
          else FallbackSwitch.decide (if p.mxe.fallback[x][k] = some k then none else p.mxe.fallback[x][k])
            (bad x k) (bad x) p.mxe.switches[x][k]) ∧
        (let lost : Station → ProgLane → Bool := fun x k => decide ((t.plu.lane x k.lane).state = .muted ∧
            (p.peer x).expects k.lane = true ∧ (p.peer x).state = .present)
         let streams := ((List.finRange 16).filter fun x : Station => x ≠ p.sul.own).flatMap fun x =>
            (List.finRange 8).map fun k : ProgLane => (x, k)
         let told : Part := streams.foldl
            (fun q x => if lost x.1 x.2 = true then q.raiseFault ⟨.laneLoss, .lane x.1 x.2⟩
              else q.endFault ⟨.laneLoss, .lane x.1 x.2⟩) p
         t.faults = told.faults ∧ t.pnl = told.pnl) ∧
        (∀ x : Station, t.mxe.silenced[x] = (decide (x ≠ p.sul.own) && p.imn[x].suspect)) ∧
        (∀ (x : Station) (k : ProgLane), t.mxe.resolved[x][k] = match p.mxe.map[x][k] with
          | .group g => g
          | .byRole => match (p.peer x).announced with
            | none => 0
            | some a => match a.roles[k] with
              | .none => 0
              | .comm => 1
              | .crowd => 2
              | .aux => 3) ∧
        t.mxe.takeCount = 0 ∧ t.mxe.crossfade = decide (p.mxe.takeCount % 2 = 1) ∧
        ((t.mxe.active, t.mxe.pendingBank) =
          if p.mxe.takeCount % 2 = 1 then (p.mxe.pendingBank, p.mxe.active) else (p.mxe.active, p.mxe.pendingBank)) ∧
        (∀ g : GroupIx, t.mxe.groups[g] = match p.mxe.groups[g].ramp with
          | none => p.mxe.groups[g]
          | some r =>
            let n : Int := r.length
            let k : Int := r.k + 1
            let way : Int := (p.mxe.groups[g].target : Int) - r.start
            if r.length ≤ r.k + 1 then { p.mxe.groups[g] with gain := p.mxe.groups[g].target, ramp := none }
            else { p.mxe.groups[g] with
              gain := ((r.start : Int) + match r.shape with
                | .linear => Int.tdiv (way * k) n
                | .eased => Int.tdiv (way * (3 * k ^ 2 * n - 2 * k ^ 3)) (n ^ 3)).toNat
              ramp := some { r with k := r.k + 1 } }) ∧
        (let aim : Nat := if ∃ x : Station, x ≠ p.sul.own ∧
            ((t.plu.lane x talkLane).state = .playing ∨ (t.plu.lane x talkLane).state = .recovering)
           then p.settings.duckGain else 32768
         let begun : DuckRamp := ⟨p.mxe.duckLevel, aim, 0⟩
         let r : DuckRamp := match p.mxe.duckRamp with
           | some r => if r.aim = aim then r else begun
           | none => begun
         let still := p.mxe.duckRamp = none ∧ p.mxe.duckLevel = aim
         (still → t.mxe.duckLevel = aim ∧ t.mxe.duckRamp = none) ∧
         (¬still → 9 ≤ r.k → t.mxe.duckLevel = aim ∧ t.mxe.duckRamp = none) ∧
         (¬still → r.k < 9 →
           t.mxe.duckLevel = ((r.start : Int) + Int.tdiv (((aim : Int) - r.start) * (r.k + 1)) 10).toNat ∧
           t.mxe.duckRamp = some { r with k := r.k + 1 }))))

/-- O54. Formalises R132's release, R136 and R138: the two commands, and the whole table of a switch at an entry. That
the commands take the move owed is log 7, and that the release of a lane no longer expected leaves the count 0 log 47
(both DESIGN CHOICE). Left out of FALLBACK_RETURN: a primary that is CONCEALING or RECOVERING (clear too, R136), and a
window end, where the suspect flag may change. -/
def Obligations.TalkLaneAndFallbackReturn : Prop :=
  (∀ (s : State) (pos : SampleCount) (x : Station), s.part.plu.owed = some .step →
    s.part.plu.position = some pos → pos.toNat % 48 = 47 → pos.toNat + 1 < 2 ^ 48 → x ≠ s.part.sul.own →
    let b := blockOf pos + 1
    ((s.part.plu.lane x talkLane).state = .muted → (s.part.plu.lane x talkLane).mutedCount = 100 →
      s.part.ast.lane x b talkLane = none →
      ∃ t, exec (.talkLaneRelease x) s = .next (s.withPart t) ∧ t = s.part.takeMove .evaluationFirst ∧ t.plu.position = some (pos + 1) ∧
        t.plu.owed = none ∧ t.plu.lane x talkLane = LaneRecord.reset) ∧
    (∀ (k u : ProgLane) (y : StoredLane), s.part.mxe.switches[x][k] = ⟨.onFallback, some u, 99⟩ →
      s.part.mxe.fallback[x][k] = some u → u ≠ k → (s.part.plu.lane x k.lane).state = .playing →
      s.part.ast.lane x b k.lane = some y → y.silent = false → y.stuck = false →
      s.part.imn[x].suspect = false → (blockOf pos).toNat % 64 ≠ 63 →
      ∃ t, exec (.fallbackReturn x k) s = .next (s.withPart t) ∧ t = s.part.takeMove .evaluationFirst ∧ t.plu.position = some (pos + 1) ∧
        t.plu.owed = none ∧ t.mxe.switches[x][k] = ⟨.toPrimary, some u, 0⟩)) ∧
  (∀ (named : Option ProgLane) (primaryBad : Bool) (bad : ProgLane → Bool) (w : FallbackSwitch),
    let v := FallbackSwitch.decide named primaryBad bad w
    (w.state = .onPrimary →
      (named = none → v = w) ∧
      (∀ f, named = some f → primaryBad = true → bad f = false → v = ⟨.toFallback, some f, 0⟩) ∧
      (∀ f, named = some f → primaryBad = false ∨ bad f = true → v = w)) ∧
    (w.state = .toFallback → v = FallbackSwitch.decide named primaryBad bad { w with state := .onFallback }) ∧
    (w.state = .onFallback →
      (named = none ∨ named ≠ w.inUse → v = { w with state := .toPrimary, clearRun := 0 }) ∧
      (∀ f, named = some f → w.inUse = some f →
        (primaryBad = true → v = { w with clearRun := 0 }) ∧
        (primaryBad = false → w.clearRun < 99 → v = { w with clearRun := w.clearRun + 1 }) ∧
        (primaryBad = false → 99 ≤ w.clearRun → v = { w with state := .toPrimary, clearRun := 0 }))) ∧
    (w.state = .toPrimary → v =
      FallbackSwitch.decide named primaryBad bad { w with state := .onPrimary, inUse := none })) ∧
  (∀ (r : LaneRecord) (suspect : Bool), r.bad suspect = true ↔
    r.silent = true ∨ r.stuck = true ∨ r.state = .muted ∨ r.state = .idle ∨ suspect = true)

/-- O55. Formalises R65 over the invariant Tau.Sound; the ranges of K and the counts are R47 and R49. -/
def Obligations.StepKeepsTheTrimInRange : Prop :=
  (∀ s t : State, s.part.tau.Sound → step s = .next t → t.part.tau.Sound) ∧
  (∀ (s : State) (c : Instr) (straps : BitVec 4) (role : Role),
    (c = .powerOnReset straps role ∨ c = .resetPin straps role ∨
      c = .restart ∧ s.part.cap.station ≠ .loading) →
    ∃ t, exec c s = .next (s.withPart t) ∧ t.tau.trim = 0 ∧ t.tau.integral = 0)

/-- O56. Formalises the limits of R6, R12, R15, R17 and R19 over the invariant Liu.Sound. Distinct echo numbers rest
on log 34. -/
def Obligations.StepKeepsTheLinkInBounds : Prop :=
  (∀ s t : State, s.part.liu.Sound → step s = .next t → t.part.liu.Sound)

/-- O57. Formalises R86, R88, R99, R103 and R104 over the invariant Part.StoreSound. -/
def Obligations.StepKeepsTheStoreForm : Prop :=
  (∀ s t : State, s.part.StoreSound → step s = .next t → t.part.StoreSound)

/-- O58. Formalises the limits of R177, R186, R188 and R194 over the invariants Pnl.Sound and Faults.Sound. -/
def Obligations.StepKeepsThePanelAndFaultLists : Prop :=
  (∀ s t : State, (s.part.pnl.Sound ∧ s.part.faults.Sound) → step s = .next t → (t.part.pnl.Sound ∧ t.part.faults.Sound))

/-- O59. Formalises R24, the ranges of R23 and those of R147, R153, R161 and R163 over the invariants Part.SelfSound,
PeerRecord.Sound and Mxe.Sound. That an ABSENT record stays cleared through a step is log 38 (DEDUCED). -/
def Obligations.StepKeepsTheRecordsAndTheMix : Prop :=
  (∀ s t : State, (s.part.SelfSound ∧ (∀ x : Station, (s.part.peer x).Sound) ∧ s.part.mxe.Sound) → step s = .next t → (t.part.SelfSound ∧ (∀ x : Station, (t.part.peer x).Sound) ∧ t.part.mxe.Sound))

/-- O60. The base case of the five invariants. State.reset is the case of the straps that log 11 chooses. -/
def Obligations.ResetMeetsEveryInvariant : Prop :=
  (∀ (serial : Serial) (straps : BitVec 4) (role : Role),
    let p := Part.powerOn serial straps role
    p.tau.Sound ∧ p.liu.Sound ∧ p.StoreSound ∧ p.pnl.Sound ∧ p.faults.Sound ∧ p.SelfSound ∧
      (∀ x : Station, (p.peer x).Sound) ∧ p.mxe.Sound) ∧
  (let p := State.reset.part
   p.tau.Sound ∧ p.liu.Sound ∧ p.StoreSound ∧ p.pnl.Sound ∧ p.faults.Sound ∧ p.SelfSound ∧
      (∀ x : Station, (p.peer x).Sound) ∧ p.mxe.Sound)
end

