-- ==== Sys2Proof/Laws/State.lean ====
section
/-!
SUPPORT. What each update of the state leaves unchanged, one lemma for each field, true by unfolding.
-/

namespace Sys2Proof.Machine

@[simp] theorem State.withPart_part (s : State) (p : Part) : (s.withPart p).part = p := rfl
@[simp] theorem State.withPart_pending (s : State) (p : Part) : (s.withPart p).pending = s.pending := rfl
@[simp] theorem State.withPart_self (s : State) : s.withPart s.part = s := rfl
@[simp] theorem State.withPart_withPart (s : State) (p q : Part) : (s.withPart p).withPart q = s.withPart q := rfl

@[simp] theorem Part.withList_sul (p : Part) (marks : List FaultKey) (v : Option Verdict) (c : ListChange) :
    (p.withList marks v c).sul = p.sul := rfl
@[simp] theorem Part.withList_settings (p : Part) (marks : List FaultKey) (v : Option Verdict) (c : ListChange) :
    (p.withList marks v c).settings = p.settings := rfl
@[simp] theorem Part.withList_liu (p : Part) (marks : List FaultKey) (v : Option Verdict) (c : ListChange) :
    (p.withList marks v c).liu = p.liu := rfl
@[simp] theorem Part.withList_ptb (p : Part) (marks : List FaultKey) (v : Option Verdict) (c : ListChange) :
    (p.withList marks v c).ptb = p.ptb := rfl
@[simp] theorem Part.withList_tau (p : Part) (marks : List FaultKey) (v : Option Verdict) (c : ListChange) :
    (p.withList marks v c).tau = p.tau := rfl
@[simp] theorem Part.withList_cap (p : Part) (marks : List FaultKey) (v : Option Verdict) (c : ListChange) :
    (p.withList marks v c).cap = p.cap := rfl
@[simp] theorem Part.withList_ast (p : Part) (marks : List FaultKey) (v : Option Verdict) (c : ListChange) :
    (p.withList marks v c).ast = p.ast := rfl
@[simp] theorem Part.withList_plu (p : Part) (marks : List FaultKey) (v : Option Verdict) (c : ListChange) :
    (p.withList marks v c).plu = p.plu := rfl
@[simp] theorem Part.withList_mxe (p : Part) (marks : List FaultKey) (v : Option Verdict) (c : ListChange) :
    (p.withList marks v c).mxe = p.mxe := rfl
@[simp] theorem Part.withList_imn (p : Part) (marks : List FaultKey) (v : Option Verdict) (c : ListChange) :
    (p.withList marks v c).imn = p.imn := rfl
@[simp] theorem Part.withList_moment (p : Part) (marks : List FaultKey) (v : Option Verdict) (c : ListChange) :
    (p.withList marks v c).moment = p.moment := rfl

@[simp] theorem Part.emit_sul (r : Report) (p : Part) : (p.emit r).sul = p.sul := rfl
@[simp] theorem Part.emit_settings (r : Report) (p : Part) : (p.emit r).settings = p.settings := rfl
@[simp] theorem Part.emit_liu (r : Report) (p : Part) : (p.emit r).liu = p.liu := rfl
@[simp] theorem Part.emit_ptb (r : Report) (p : Part) : (p.emit r).ptb = p.ptb := rfl
@[simp] theorem Part.emit_tau (r : Report) (p : Part) : (p.emit r).tau = p.tau := rfl
@[simp] theorem Part.emit_cap (r : Report) (p : Part) : (p.emit r).cap = p.cap := rfl
@[simp] theorem Part.emit_ast (r : Report) (p : Part) : (p.emit r).ast = p.ast := rfl
@[simp] theorem Part.emit_plu (r : Report) (p : Part) : (p.emit r).plu = p.plu := rfl
@[simp] theorem Part.emit_mxe (r : Report) (p : Part) : (p.emit r).mxe = p.mxe := rfl
@[simp] theorem Part.emit_imn (r : Report) (p : Part) : (p.emit r).imn = p.imn := rfl
@[simp] theorem Part.emit_faults (r : Report) (p : Part) : (p.emit r).faults = p.faults := rfl
@[simp] theorem Part.emit_moment (r : Report) (p : Part) : (p.emit r).moment = p.moment := rfl

@[simp] theorem Part.emitPeer_sul (s : Station) (p : Part) : (p.emitPeer s).sul = p.sul := rfl
@[simp] theorem Part.emitPeer_settings (s : Station) (p : Part) : (p.emitPeer s).settings = p.settings := rfl
@[simp] theorem Part.emitPeer_liu (s : Station) (p : Part) : (p.emitPeer s).liu = p.liu := rfl
@[simp] theorem Part.emitPeer_ptb (s : Station) (p : Part) : (p.emitPeer s).ptb = p.ptb := rfl
@[simp] theorem Part.emitPeer_tau (s : Station) (p : Part) : (p.emitPeer s).tau = p.tau := rfl
@[simp] theorem Part.emitPeer_cap (s : Station) (p : Part) : (p.emitPeer s).cap = p.cap := rfl
@[simp] theorem Part.emitPeer_ast (s : Station) (p : Part) : (p.emitPeer s).ast = p.ast := rfl
@[simp] theorem Part.emitPeer_plu (s : Station) (p : Part) : (p.emitPeer s).plu = p.plu := rfl
@[simp] theorem Part.emitPeer_mxe (s : Station) (p : Part) : (p.emitPeer s).mxe = p.mxe := rfl
@[simp] theorem Part.emitPeer_imn (s : Station) (p : Part) : (p.emitPeer s).imn = p.imn := rfl
@[simp] theorem Part.emitPeer_faults (s : Station) (p : Part) : (p.emitPeer s).faults = p.faults := rfl
@[simp] theorem Part.emitPeer_moment (s : Station) (p : Part) : (p.emitPeer s).moment = p.moment := rfl

@[simp] theorem Part.refuse_sul (reason : RefusalReason) (type : Byte) (p : Part) : (p.refuse reason type).sul = p.sul := rfl
@[simp] theorem Part.refuse_settings (reason : RefusalReason) (type : Byte) (p : Part) : (p.refuse reason type).settings = p.settings := rfl
@[simp] theorem Part.refuse_liu (reason : RefusalReason) (type : Byte) (p : Part) : (p.refuse reason type).liu = p.liu := rfl
@[simp] theorem Part.refuse_ptb (reason : RefusalReason) (type : Byte) (p : Part) : (p.refuse reason type).ptb = p.ptb := rfl
@[simp] theorem Part.refuse_tau (reason : RefusalReason) (type : Byte) (p : Part) : (p.refuse reason type).tau = p.tau := rfl
@[simp] theorem Part.refuse_cap (reason : RefusalReason) (type : Byte) (p : Part) : (p.refuse reason type).cap = p.cap := rfl
@[simp] theorem Part.refuse_ast (reason : RefusalReason) (type : Byte) (p : Part) : (p.refuse reason type).ast = p.ast := rfl
@[simp] theorem Part.refuse_plu (reason : RefusalReason) (type : Byte) (p : Part) : (p.refuse reason type).plu = p.plu := rfl
@[simp] theorem Part.refuse_mxe (reason : RefusalReason) (type : Byte) (p : Part) : (p.refuse reason type).mxe = p.mxe := rfl
@[simp] theorem Part.refuse_imn (reason : RefusalReason) (type : Byte) (p : Part) : (p.refuse reason type).imn = p.imn := rfl
@[simp] theorem Part.refuse_faults (reason : RefusalReason) (type : Byte) (p : Part) : (p.refuse reason type).faults = p.faults := rfl
@[simp] theorem Part.refuse_moment (reason : RefusalReason) (type : Byte) (p : Part) : (p.refuse reason type).moment = p.moment := rfl

@[simp] theorem Part.raiseFault_sul (key : FaultKey) (p : Part) : (p.raiseFault key).sul = p.sul := Part.withList_sul ..
@[simp] theorem Part.raiseFault_settings (key : FaultKey) (p : Part) : (p.raiseFault key).settings = p.settings := Part.withList_settings ..
@[simp] theorem Part.raiseFault_liu (key : FaultKey) (p : Part) : (p.raiseFault key).liu = p.liu := Part.withList_liu ..
@[simp] theorem Part.raiseFault_ptb (key : FaultKey) (p : Part) : (p.raiseFault key).ptb = p.ptb := Part.withList_ptb ..
@[simp] theorem Part.raiseFault_tau (key : FaultKey) (p : Part) : (p.raiseFault key).tau = p.tau := Part.withList_tau ..
@[simp] theorem Part.raiseFault_cap (key : FaultKey) (p : Part) : (p.raiseFault key).cap = p.cap := Part.withList_cap ..
@[simp] theorem Part.raiseFault_ast (key : FaultKey) (p : Part) : (p.raiseFault key).ast = p.ast := Part.withList_ast ..
@[simp] theorem Part.raiseFault_plu (key : FaultKey) (p : Part) : (p.raiseFault key).plu = p.plu := Part.withList_plu ..
@[simp] theorem Part.raiseFault_mxe (key : FaultKey) (p : Part) : (p.raiseFault key).mxe = p.mxe := Part.withList_mxe ..
@[simp] theorem Part.raiseFault_imn (key : FaultKey) (p : Part) : (p.raiseFault key).imn = p.imn := Part.withList_imn ..
@[simp] theorem Part.raiseFault_moment (key : FaultKey) (p : Part) : (p.raiseFault key).moment = p.moment := Part.withList_moment ..

@[simp] theorem Part.endFault_sul (key : FaultKey) (p : Part) : (p.endFault key).sul = p.sul := Part.withList_sul ..
@[simp] theorem Part.endFault_settings (key : FaultKey) (p : Part) : (p.endFault key).settings = p.settings := Part.withList_settings ..
@[simp] theorem Part.endFault_liu (key : FaultKey) (p : Part) : (p.endFault key).liu = p.liu := Part.withList_liu ..
@[simp] theorem Part.endFault_ptb (key : FaultKey) (p : Part) : (p.endFault key).ptb = p.ptb := Part.withList_ptb ..
@[simp] theorem Part.endFault_tau (key : FaultKey) (p : Part) : (p.endFault key).tau = p.tau := Part.withList_tau ..
@[simp] theorem Part.endFault_cap (key : FaultKey) (p : Part) : (p.endFault key).cap = p.cap := Part.withList_cap ..
@[simp] theorem Part.endFault_ast (key : FaultKey) (p : Part) : (p.endFault key).ast = p.ast := Part.withList_ast ..
@[simp] theorem Part.endFault_plu (key : FaultKey) (p : Part) : (p.endFault key).plu = p.plu := Part.withList_plu ..
@[simp] theorem Part.endFault_mxe (key : FaultKey) (p : Part) : (p.endFault key).mxe = p.mxe := Part.withList_mxe ..
@[simp] theorem Part.endFault_imn (key : FaultKey) (p : Part) : (p.endFault key).imn = p.imn := Part.withList_imn ..
@[simp] theorem Part.endFault_moment (key : FaultKey) (p : Part) : (p.endFault key).moment = p.moment := Part.withList_moment ..

@[simp] theorem Part.raiseConfigDefaulted_sul (p : Part) : (p.raiseConfigDefaulted).sul = p.sul := (Part.endFault_sul ..).trans (Part.raiseFault_sul ..)
@[simp] theorem Part.raiseConfigDefaulted_settings (p : Part) : (p.raiseConfigDefaulted).settings = p.settings := (Part.endFault_settings ..).trans (Part.raiseFault_settings ..)
@[simp] theorem Part.raiseConfigDefaulted_liu (p : Part) : (p.raiseConfigDefaulted).liu = p.liu := (Part.endFault_liu ..).trans (Part.raiseFault_liu ..)
@[simp] theorem Part.raiseConfigDefaulted_ptb (p : Part) : (p.raiseConfigDefaulted).ptb = p.ptb := (Part.endFault_ptb ..).trans (Part.raiseFault_ptb ..)
@[simp] theorem Part.raiseConfigDefaulted_tau (p : Part) : (p.raiseConfigDefaulted).tau = p.tau := (Part.endFault_tau ..).trans (Part.raiseFault_tau ..)
@[simp] theorem Part.raiseConfigDefaulted_cap (p : Part) : (p.raiseConfigDefaulted).cap = p.cap := (Part.endFault_cap ..).trans (Part.raiseFault_cap ..)
@[simp] theorem Part.raiseConfigDefaulted_ast (p : Part) : (p.raiseConfigDefaulted).ast = p.ast := (Part.endFault_ast ..).trans (Part.raiseFault_ast ..)
@[simp] theorem Part.raiseConfigDefaulted_plu (p : Part) : (p.raiseConfigDefaulted).plu = p.plu := (Part.endFault_plu ..).trans (Part.raiseFault_plu ..)
@[simp] theorem Part.raiseConfigDefaulted_mxe (p : Part) : (p.raiseConfigDefaulted).mxe = p.mxe := (Part.endFault_mxe ..).trans (Part.raiseFault_mxe ..)
@[simp] theorem Part.raiseConfigDefaulted_imn (p : Part) : (p.raiseConfigDefaulted).imn = p.imn := (Part.endFault_imn ..).trans (Part.raiseFault_imn ..)
@[simp] theorem Part.raiseConfigDefaulted_moment (p : Part) : (p.raiseConfigDefaulted).moment = p.moment := (Part.endFault_moment ..).trans (Part.raiseFault_moment ..)

@[simp] theorem Part.raiseConflict_sul (v : Verdict) (p : Part) : (p.raiseConflict v).sul = p.sul := Part.withList_sul ..
@[simp] theorem Part.raiseConflict_settings (v : Verdict) (p : Part) : (p.raiseConflict v).settings = p.settings := Part.withList_settings ..
@[simp] theorem Part.raiseConflict_liu (v : Verdict) (p : Part) : (p.raiseConflict v).liu = p.liu := Part.withList_liu ..
@[simp] theorem Part.raiseConflict_ptb (v : Verdict) (p : Part) : (p.raiseConflict v).ptb = p.ptb := Part.withList_ptb ..
@[simp] theorem Part.raiseConflict_tau (v : Verdict) (p : Part) : (p.raiseConflict v).tau = p.tau := Part.withList_tau ..
@[simp] theorem Part.raiseConflict_cap (v : Verdict) (p : Part) : (p.raiseConflict v).cap = p.cap := Part.withList_cap ..
@[simp] theorem Part.raiseConflict_ast (v : Verdict) (p : Part) : (p.raiseConflict v).ast = p.ast := Part.withList_ast ..
@[simp] theorem Part.raiseConflict_plu (v : Verdict) (p : Part) : (p.raiseConflict v).plu = p.plu := Part.withList_plu ..
@[simp] theorem Part.raiseConflict_mxe (v : Verdict) (p : Part) : (p.raiseConflict v).mxe = p.mxe := Part.withList_mxe ..
@[simp] theorem Part.raiseConflict_imn (v : Verdict) (p : Part) : (p.raiseConflict v).imn = p.imn := Part.withList_imn ..
@[simp] theorem Part.raiseConflict_moment (v : Verdict) (p : Part) : (p.raiseConflict v).moment = p.moment := Part.withList_moment ..

@[simp] theorem Part.endConflictWon_sul (p : Part) : (p.endConflictWon).sul = p.sul := Part.withList_sul ..
@[simp] theorem Part.endConflictWon_settings (p : Part) : (p.endConflictWon).settings = p.settings := Part.withList_settings ..
@[simp] theorem Part.endConflictWon_liu (p : Part) : (p.endConflictWon).liu = p.liu := Part.withList_liu ..
@[simp] theorem Part.endConflictWon_ptb (p : Part) : (p.endConflictWon).ptb = p.ptb := Part.withList_ptb ..
@[simp] theorem Part.endConflictWon_tau (p : Part) : (p.endConflictWon).tau = p.tau := Part.withList_tau ..
@[simp] theorem Part.endConflictWon_cap (p : Part) : (p.endConflictWon).cap = p.cap := Part.withList_cap ..
@[simp] theorem Part.endConflictWon_ast (p : Part) : (p.endConflictWon).ast = p.ast := Part.withList_ast ..
@[simp] theorem Part.endConflictWon_plu (p : Part) : (p.endConflictWon).plu = p.plu := Part.withList_plu ..
@[simp] theorem Part.endConflictWon_mxe (p : Part) : (p.endConflictWon).mxe = p.mxe := Part.withList_mxe ..
@[simp] theorem Part.endConflictWon_imn (p : Part) : (p.endConflictWon).imn = p.imn := Part.withList_imn ..
@[simp] theorem Part.endConflictWon_moment (p : Part) : (p.endConflictWon).moment = p.moment := Part.withList_moment ..

@[simp] theorem Part.endConflict_sul (p : Part) : (p.endConflict).sul = p.sul := Part.withList_sul ..
@[simp] theorem Part.endConflict_settings (p : Part) : (p.endConflict).settings = p.settings := Part.withList_settings ..
@[simp] theorem Part.endConflict_liu (p : Part) : (p.endConflict).liu = p.liu := Part.withList_liu ..
@[simp] theorem Part.endConflict_ptb (p : Part) : (p.endConflict).ptb = p.ptb := Part.withList_ptb ..
@[simp] theorem Part.endConflict_tau (p : Part) : (p.endConflict).tau = p.tau := Part.withList_tau ..
@[simp] theorem Part.endConflict_cap (p : Part) : (p.endConflict).cap = p.cap := Part.withList_cap ..
@[simp] theorem Part.endConflict_ast (p : Part) : (p.endConflict).ast = p.ast := Part.withList_ast ..
@[simp] theorem Part.endConflict_plu (p : Part) : (p.endConflict).plu = p.plu := Part.withList_plu ..
@[simp] theorem Part.endConflict_mxe (p : Part) : (p.endConflict).mxe = p.mxe := Part.withList_mxe ..
@[simp] theorem Part.endConflict_imn (p : Part) : (p.endConflict).imn = p.imn := Part.withList_imn ..
@[simp] theorem Part.endConflict_moment (p : Part) : (p.endConflict).moment = p.moment := Part.withList_moment ..

@[simp] theorem Part.mapDigest_sul (s : Station) (f : DigestRecord → DigestRecord) (p : Part) : (p.mapDigest s f).sul = p.sul := rfl
@[simp] theorem Part.mapDigest_settings (s : Station) (f : DigestRecord → DigestRecord) (p : Part) : (p.mapDigest s f).settings = p.settings := rfl
@[simp] theorem Part.mapDigest_liu (s : Station) (f : DigestRecord → DigestRecord) (p : Part) : (p.mapDigest s f).liu = p.liu := rfl
@[simp] theorem Part.mapDigest_ptb (s : Station) (f : DigestRecord → DigestRecord) (p : Part) : (p.mapDigest s f).ptb = p.ptb := rfl
@[simp] theorem Part.mapDigest_tau (s : Station) (f : DigestRecord → DigestRecord) (p : Part) : (p.mapDigest s f).tau = p.tau := rfl
@[simp] theorem Part.mapDigest_cap (s : Station) (f : DigestRecord → DigestRecord) (p : Part) : (p.mapDigest s f).cap = p.cap := rfl
@[simp] theorem Part.mapDigest_ast (s : Station) (f : DigestRecord → DigestRecord) (p : Part) : (p.mapDigest s f).ast = p.ast := rfl
@[simp] theorem Part.mapDigest_plu (s : Station) (f : DigestRecord → DigestRecord) (p : Part) : (p.mapDigest s f).plu = p.plu := rfl
@[simp] theorem Part.mapDigest_mxe (s : Station) (f : DigestRecord → DigestRecord) (p : Part) : (p.mapDigest s f).mxe = p.mxe := rfl
@[simp] theorem Part.mapDigest_faults (s : Station) (f : DigestRecord → DigestRecord) (p : Part) : (p.mapDigest s f).faults = p.faults := rfl
@[simp] theorem Part.mapDigest_pnl (s : Station) (f : DigestRecord → DigestRecord) (p : Part) : (p.mapDigest s f).pnl = p.pnl := rfl
@[simp] theorem Part.mapDigest_moment (s : Station) (f : DigestRecord → DigestRecord) (p : Part) : (p.mapDigest s f).moment = p.moment := rfl

@[simp] theorem Part.mapDigests_sul (f : DigestRecord → DigestRecord) (p : Part) : (p.mapDigests f).sul = p.sul := by
  simp only [Part.mapDigests]
@[simp] theorem Part.mapDigests_settings (f : DigestRecord → DigestRecord) (p : Part) : (p.mapDigests f).settings = p.settings := by
  simp only [Part.mapDigests]
@[simp] theorem Part.mapDigests_liu (f : DigestRecord → DigestRecord) (p : Part) : (p.mapDigests f).liu = p.liu := by
  simp only [Part.mapDigests]
@[simp] theorem Part.mapDigests_ptb (f : DigestRecord → DigestRecord) (p : Part) : (p.mapDigests f).ptb = p.ptb := by
  simp only [Part.mapDigests]
@[simp] theorem Part.mapDigests_tau (f : DigestRecord → DigestRecord) (p : Part) : (p.mapDigests f).tau = p.tau := by
  simp only [Part.mapDigests]
@[simp] theorem Part.mapDigests_cap (f : DigestRecord → DigestRecord) (p : Part) : (p.mapDigests f).cap = p.cap := by
  simp only [Part.mapDigests]
@[simp] theorem Part.mapDigests_ast (f : DigestRecord → DigestRecord) (p : Part) : (p.mapDigests f).ast = p.ast := by
  simp only [Part.mapDigests]
@[simp] theorem Part.mapDigests_plu (f : DigestRecord → DigestRecord) (p : Part) : (p.mapDigests f).plu = p.plu := by
  simp only [Part.mapDigests]
@[simp] theorem Part.mapDigests_mxe (f : DigestRecord → DigestRecord) (p : Part) : (p.mapDigests f).mxe = p.mxe := by
  simp only [Part.mapDigests]
@[simp] theorem Part.mapDigests_faults (f : DigestRecord → DigestRecord) (p : Part) : (p.mapDigests f).faults = p.faults := by
  simp only [Part.mapDigests]
@[simp] theorem Part.mapDigests_pnl (f : DigestRecord → DigestRecord) (p : Part) : (p.mapDigests f).pnl = p.pnl := by
  simp only [Part.mapDigests]
@[simp] theorem Part.mapDigests_moment (f : DigestRecord → DigestRecord) (p : Part) : (p.mapDigests f).moment = p.moment := by
  simp only [Part.mapDigests]

@[simp] theorem Part.tellFill_sul (s : Station) (b : BlockNo) (k : LaneNo) (x : StoredLane) (p : Part) : (p.tellFill s b k x).sul = p.sul := rfl
@[simp] theorem Part.tellFill_settings (s : Station) (b : BlockNo) (k : LaneNo) (x : StoredLane) (p : Part) : (p.tellFill s b k x).settings = p.settings := rfl
@[simp] theorem Part.tellFill_liu (s : Station) (b : BlockNo) (k : LaneNo) (x : StoredLane) (p : Part) : (p.tellFill s b k x).liu = p.liu := rfl
@[simp] theorem Part.tellFill_ptb (s : Station) (b : BlockNo) (k : LaneNo) (x : StoredLane) (p : Part) : (p.tellFill s b k x).ptb = p.ptb := rfl
@[simp] theorem Part.tellFill_tau (s : Station) (b : BlockNo) (k : LaneNo) (x : StoredLane) (p : Part) : (p.tellFill s b k x).tau = p.tau := rfl
@[simp] theorem Part.tellFill_cap (s : Station) (b : BlockNo) (k : LaneNo) (x : StoredLane) (p : Part) : (p.tellFill s b k x).cap = p.cap := rfl
@[simp] theorem Part.tellFill_ast (s : Station) (b : BlockNo) (k : LaneNo) (x : StoredLane) (p : Part) : (p.tellFill s b k x).ast = p.ast := rfl
@[simp] theorem Part.tellFill_plu (s : Station) (b : BlockNo) (k : LaneNo) (x : StoredLane) (p : Part) : (p.tellFill s b k x).plu = p.plu := rfl
@[simp] theorem Part.tellFill_mxe (s : Station) (b : BlockNo) (k : LaneNo) (x : StoredLane) (p : Part) : (p.tellFill s b k x).mxe = p.mxe := rfl
@[simp] theorem Part.tellFill_faults (s : Station) (b : BlockNo) (k : LaneNo) (x : StoredLane) (p : Part) : (p.tellFill s b k x).faults = p.faults := rfl
@[simp] theorem Part.tellFill_pnl (s : Station) (b : BlockNo) (k : LaneNo) (x : StoredLane) (p : Part) : (p.tellFill s b k x).pnl = p.pnl := rfl
@[simp] theorem Part.tellFill_moment (s : Station) (b : BlockNo) (k : LaneNo) (x : StoredLane) (p : Part) : (p.tellFill s b k x).moment = p.moment := rfl

@[simp] theorem Part.tellRefusal_sul (s : Station) (b : BlockNo) (p : Part) : (p.tellRefusal s b).sul = p.sul := rfl
@[simp] theorem Part.tellRefusal_settings (s : Station) (b : BlockNo) (p : Part) : (p.tellRefusal s b).settings = p.settings := rfl
@[simp] theorem Part.tellRefusal_liu (s : Station) (b : BlockNo) (p : Part) : (p.tellRefusal s b).liu = p.liu := rfl
@[simp] theorem Part.tellRefusal_ptb (s : Station) (b : BlockNo) (p : Part) : (p.tellRefusal s b).ptb = p.ptb := rfl
@[simp] theorem Part.tellRefusal_tau (s : Station) (b : BlockNo) (p : Part) : (p.tellRefusal s b).tau = p.tau := rfl
@[simp] theorem Part.tellRefusal_cap (s : Station) (b : BlockNo) (p : Part) : (p.tellRefusal s b).cap = p.cap := rfl
@[simp] theorem Part.tellRefusal_ast (s : Station) (b : BlockNo) (p : Part) : (p.tellRefusal s b).ast = p.ast := rfl
@[simp] theorem Part.tellRefusal_plu (s : Station) (b : BlockNo) (p : Part) : (p.tellRefusal s b).plu = p.plu := rfl
@[simp] theorem Part.tellRefusal_mxe (s : Station) (b : BlockNo) (p : Part) : (p.tellRefusal s b).mxe = p.mxe := rfl
@[simp] theorem Part.tellRefusal_faults (s : Station) (b : BlockNo) (p : Part) : (p.tellRefusal s b).faults = p.faults := rfl
@[simp] theorem Part.tellRefusal_pnl (s : Station) (b : BlockNo) (p : Part) : (p.tellRefusal s b).pnl = p.pnl := rfl
@[simp] theorem Part.tellRefusal_moment (s : Station) (b : BlockNo) (p : Part) : (p.tellRefusal s b).moment = p.moment := rfl

@[simp] theorem Part.digestReanchor_sul (pb : BlockNo) (p : Part) : (p.digestReanchor pb).sul = p.sul := by
  simp only [Part.digestReanchor, Part.mapDigests]
@[simp] theorem Part.digestReanchor_settings (pb : BlockNo) (p : Part) : (p.digestReanchor pb).settings = p.settings := by
  simp only [Part.digestReanchor, Part.mapDigests]
@[simp] theorem Part.digestReanchor_liu (pb : BlockNo) (p : Part) : (p.digestReanchor pb).liu = p.liu := by
  simp only [Part.digestReanchor, Part.mapDigests]
@[simp] theorem Part.digestReanchor_ptb (pb : BlockNo) (p : Part) : (p.digestReanchor pb).ptb = p.ptb := by
  simp only [Part.digestReanchor, Part.mapDigests]
@[simp] theorem Part.digestReanchor_tau (pb : BlockNo) (p : Part) : (p.digestReanchor pb).tau = p.tau := by
  simp only [Part.digestReanchor, Part.mapDigests]
@[simp] theorem Part.digestReanchor_cap (pb : BlockNo) (p : Part) : (p.digestReanchor pb).cap = p.cap := by
  simp only [Part.digestReanchor, Part.mapDigests]
@[simp] theorem Part.digestReanchor_ast (pb : BlockNo) (p : Part) : (p.digestReanchor pb).ast = p.ast := by
  simp only [Part.digestReanchor, Part.mapDigests]
@[simp] theorem Part.digestReanchor_plu (pb : BlockNo) (p : Part) : (p.digestReanchor pb).plu = p.plu := by
  simp only [Part.digestReanchor, Part.mapDigests]
@[simp] theorem Part.digestReanchor_mxe (pb : BlockNo) (p : Part) : (p.digestReanchor pb).mxe = p.mxe := by
  simp only [Part.digestReanchor, Part.mapDigests]
@[simp] theorem Part.digestReanchor_faults (pb : BlockNo) (p : Part) : (p.digestReanchor pb).faults = p.faults := by
  simp only [Part.digestReanchor, Part.mapDigests]
@[simp] theorem Part.digestReanchor_pnl (pb : BlockNo) (p : Part) : (p.digestReanchor pb).pnl = p.pnl := by
  simp only [Part.digestReanchor, Part.mapDigests]
@[simp] theorem Part.digestReanchor_moment (pb : BlockNo) (p : Part) : (p.digestReanchor pb).moment = p.moment := by
  simp only [Part.digestReanchor, Part.mapDigests]

@[simp] theorem Part.digestStart_sul (pb : BlockNo) (p : Part) : (p.digestStart pb).sul = p.sul := by
  simp only [Part.digestStart, Part.mapDigests]
@[simp] theorem Part.digestStart_settings (pb : BlockNo) (p : Part) : (p.digestStart pb).settings = p.settings := by
  simp only [Part.digestStart, Part.mapDigests]
@[simp] theorem Part.digestStart_liu (pb : BlockNo) (p : Part) : (p.digestStart pb).liu = p.liu := by
  simp only [Part.digestStart, Part.mapDigests]
@[simp] theorem Part.digestStart_ptb (pb : BlockNo) (p : Part) : (p.digestStart pb).ptb = p.ptb := by
  simp only [Part.digestStart, Part.mapDigests]
@[simp] theorem Part.digestStart_tau (pb : BlockNo) (p : Part) : (p.digestStart pb).tau = p.tau := by
  simp only [Part.digestStart, Part.mapDigests]
@[simp] theorem Part.digestStart_cap (pb : BlockNo) (p : Part) : (p.digestStart pb).cap = p.cap := by
  simp only [Part.digestStart, Part.mapDigests]
@[simp] theorem Part.digestStart_ast (pb : BlockNo) (p : Part) : (p.digestStart pb).ast = p.ast := by
  simp only [Part.digestStart, Part.mapDigests]
@[simp] theorem Part.digestStart_plu (pb : BlockNo) (p : Part) : (p.digestStart pb).plu = p.plu := by
  simp only [Part.digestStart, Part.mapDigests]
@[simp] theorem Part.digestStart_mxe (pb : BlockNo) (p : Part) : (p.digestStart pb).mxe = p.mxe := by
  simp only [Part.digestStart, Part.mapDigests]
@[simp] theorem Part.digestStart_faults (pb : BlockNo) (p : Part) : (p.digestStart pb).faults = p.faults := by
  simp only [Part.digestStart, Part.mapDigests]
@[simp] theorem Part.digestStart_pnl (pb : BlockNo) (p : Part) : (p.digestStart pb).pnl = p.pnl := by
  simp only [Part.digestStart, Part.mapDigests]
@[simp] theorem Part.digestStart_moment (pb : BlockNo) (p : Part) : (p.digestStart pb).moment = p.moment := by
  simp only [Part.digestStart, Part.mapDigests]

@[simp] theorem Part.clearDigest_sul (s : Station) (p : Part) : (p.clearDigest s).sul = p.sul := rfl
@[simp] theorem Part.clearDigest_settings (s : Station) (p : Part) : (p.clearDigest s).settings = p.settings := rfl
@[simp] theorem Part.clearDigest_liu (s : Station) (p : Part) : (p.clearDigest s).liu = p.liu := rfl
@[simp] theorem Part.clearDigest_ptb (s : Station) (p : Part) : (p.clearDigest s).ptb = p.ptb := rfl
@[simp] theorem Part.clearDigest_tau (s : Station) (p : Part) : (p.clearDigest s).tau = p.tau := rfl
@[simp] theorem Part.clearDigest_cap (s : Station) (p : Part) : (p.clearDigest s).cap = p.cap := rfl
@[simp] theorem Part.clearDigest_ast (s : Station) (p : Part) : (p.clearDigest s).ast = p.ast := rfl
@[simp] theorem Part.clearDigest_plu (s : Station) (p : Part) : (p.clearDigest s).plu = p.plu := rfl
@[simp] theorem Part.clearDigest_mxe (s : Station) (p : Part) : (p.clearDigest s).mxe = p.mxe := rfl
@[simp] theorem Part.clearDigest_faults (s : Station) (p : Part) : (p.clearDigest s).faults = p.faults := rfl
@[simp] theorem Part.clearDigest_pnl (s : Station) (p : Part) : (p.clearDigest s).pnl = p.pnl := rfl
@[simp] theorem Part.clearDigest_moment (s : Station) (p : Part) : (p.clearDigest s).moment = p.moment := rfl

@[simp] theorem Part.spoilDigest_sul (s : Station) (p : Part) : (p.spoilDigest s).sul = p.sul := rfl
@[simp] theorem Part.spoilDigest_settings (s : Station) (p : Part) : (p.spoilDigest s).settings = p.settings := rfl
@[simp] theorem Part.spoilDigest_liu (s : Station) (p : Part) : (p.spoilDigest s).liu = p.liu := rfl
@[simp] theorem Part.spoilDigest_ptb (s : Station) (p : Part) : (p.spoilDigest s).ptb = p.ptb := rfl
@[simp] theorem Part.spoilDigest_tau (s : Station) (p : Part) : (p.spoilDigest s).tau = p.tau := rfl
@[simp] theorem Part.spoilDigest_cap (s : Station) (p : Part) : (p.spoilDigest s).cap = p.cap := rfl
@[simp] theorem Part.spoilDigest_ast (s : Station) (p : Part) : (p.spoilDigest s).ast = p.ast := rfl
@[simp] theorem Part.spoilDigest_plu (s : Station) (p : Part) : (p.spoilDigest s).plu = p.plu := rfl
@[simp] theorem Part.spoilDigest_mxe (s : Station) (p : Part) : (p.spoilDigest s).mxe = p.mxe := rfl
@[simp] theorem Part.spoilDigest_faults (s : Station) (p : Part) : (p.spoilDigest s).faults = p.faults := rfl
@[simp] theorem Part.spoilDigest_pnl (s : Station) (p : Part) : (p.spoilDigest s).pnl = p.pnl := rfl
@[simp] theorem Part.spoilDigest_moment (s : Station) (p : Part) : (p.spoilDigest s).moment = p.moment := rfl

@[simp] theorem Part.takeResync_sul (s : Station) (p : Part) : (p.takeResync s).sul = p.sul := by
  unfold Part.takeResync
  split <;> rfl
@[simp] theorem Part.takeResync_settings (s : Station) (p : Part) : (p.takeResync s).settings = p.settings := by
  unfold Part.takeResync
  split <;> rfl
@[simp] theorem Part.takeResync_liu (s : Station) (p : Part) : (p.takeResync s).liu = p.liu := by
  unfold Part.takeResync
  split <;> rfl
@[simp] theorem Part.takeResync_tau (s : Station) (p : Part) : (p.takeResync s).tau = p.tau := by
  unfold Part.takeResync
  split <;> rfl
@[simp] theorem Part.takeResync_cap (s : Station) (p : Part) : (p.takeResync s).cap = p.cap := by
  unfold Part.takeResync
  split <;> rfl
@[simp] theorem Part.takeResync_ast (s : Station) (p : Part) : (p.takeResync s).ast = p.ast := by
  unfold Part.takeResync
  split <;> rfl
@[simp] theorem Part.takeResync_plu (s : Station) (p : Part) : (p.takeResync s).plu = p.plu := by
  unfold Part.takeResync
  split <;> rfl
@[simp] theorem Part.takeResync_mxe (s : Station) (p : Part) : (p.takeResync s).mxe = p.mxe := by
  unfold Part.takeResync
  split <;> rfl
@[simp] theorem Part.takeResync_imn (s : Station) (p : Part) : (p.takeResync s).imn = p.imn := by
  unfold Part.takeResync
  split <;> rfl
@[simp] theorem Part.takeResync_faults (s : Station) (p : Part) : (p.takeResync s).faults = p.faults := by
  unfold Part.takeResync
  split <;> rfl
@[simp] theorem Part.takeResync_pnl (s : Station) (p : Part) : (p.takeResync s).pnl = p.pnl := by
  unfold Part.takeResync
  split <;> rfl

@[simp] theorem Part.stepCapture_sul (p : Part) : (p.stepCapture).sul = p.sul := rfl
@[simp] theorem Part.stepCapture_settings (p : Part) : (p.stepCapture).settings = p.settings := rfl
@[simp] theorem Part.stepCapture_liu (p : Part) : (p.stepCapture).liu = p.liu := rfl
@[simp] theorem Part.stepCapture_ptb (p : Part) : (p.stepCapture).ptb = p.ptb := rfl
@[simp] theorem Part.stepCapture_tau (p : Part) : (p.stepCapture).tau = p.tau := rfl
@[simp] theorem Part.stepCapture_ast (p : Part) : (p.stepCapture).ast = p.ast := rfl
@[simp] theorem Part.stepCapture_plu (p : Part) : (p.stepCapture).plu = p.plu := rfl
@[simp] theorem Part.stepCapture_mxe (p : Part) : (p.stepCapture).mxe = p.mxe := rfl
@[simp] theorem Part.stepCapture_imn (p : Part) : (p.stepCapture).imn = p.imn := rfl
@[simp] theorem Part.stepCapture_faults (p : Part) : (p.stepCapture).faults = p.faults := rfl
@[simp] theorem Part.stepCapture_pnl (p : Part) : (p.stepCapture).pnl = p.pnl := rfl
@[simp] theorem Part.stepCapture_moment (p : Part) : (p.stepCapture).moment = p.moment := rfl

@[simp] theorem Part.mapPeer_sul (s : Station) (f : PeerRecord → PeerRecord) (p : Part) : (p.mapPeer s f).sul = p.sul := rfl
@[simp] theorem Part.mapPeer_settings (s : Station) (f : PeerRecord → PeerRecord) (p : Part) : (p.mapPeer s f).settings = p.settings := rfl
@[simp] theorem Part.mapPeer_liu (s : Station) (f : PeerRecord → PeerRecord) (p : Part) : (p.mapPeer s f).liu = p.liu := rfl
@[simp] theorem Part.mapPeer_tau (s : Station) (f : PeerRecord → PeerRecord) (p : Part) : (p.mapPeer s f).tau = p.tau := rfl
@[simp] theorem Part.mapPeer_cap (s : Station) (f : PeerRecord → PeerRecord) (p : Part) : (p.mapPeer s f).cap = p.cap := rfl
@[simp] theorem Part.mapPeer_ast (s : Station) (f : PeerRecord → PeerRecord) (p : Part) : (p.mapPeer s f).ast = p.ast := rfl
@[simp] theorem Part.mapPeer_plu (s : Station) (f : PeerRecord → PeerRecord) (p : Part) : (p.mapPeer s f).plu = p.plu := rfl
@[simp] theorem Part.mapPeer_mxe (s : Station) (f : PeerRecord → PeerRecord) (p : Part) : (p.mapPeer s f).mxe = p.mxe := rfl
@[simp] theorem Part.mapPeer_imn (s : Station) (f : PeerRecord → PeerRecord) (p : Part) : (p.mapPeer s f).imn = p.imn := rfl
@[simp] theorem Part.mapPeer_faults (s : Station) (f : PeerRecord → PeerRecord) (p : Part) : (p.mapPeer s f).faults = p.faults := rfl
@[simp] theorem Part.mapPeer_pnl (s : Station) (f : PeerRecord → PeerRecord) (p : Part) : (p.mapPeer s f).pnl = p.pnl := rfl
@[simp] theorem Part.mapPeer_moment (s : Station) (f : PeerRecord → PeerRecord) (p : Part) : (p.mapPeer s f).moment = p.moment := rfl

@[simp] theorem Part.refuseFull_sul (s : Station) (b : BlockNo) (p : Part) : (p.refuseFull s b).sul = p.sul := by
  simp [Part.refuseFull]
@[simp] theorem Part.refuseFull_settings (s : Station) (b : BlockNo) (p : Part) : (p.refuseFull s b).settings = p.settings := by
  simp [Part.refuseFull]
@[simp] theorem Part.refuseFull_liu (s : Station) (b : BlockNo) (p : Part) : (p.refuseFull s b).liu = p.liu := by
  simp [Part.refuseFull]
@[simp] theorem Part.refuseFull_ptb (s : Station) (b : BlockNo) (p : Part) : (p.refuseFull s b).ptb = p.ptb := by
  simp [Part.refuseFull]
@[simp] theorem Part.refuseFull_tau (s : Station) (b : BlockNo) (p : Part) : (p.refuseFull s b).tau = p.tau := by
  simp [Part.refuseFull]
@[simp] theorem Part.refuseFull_cap (s : Station) (b : BlockNo) (p : Part) : (p.refuseFull s b).cap = p.cap := by
  simp [Part.refuseFull]
@[simp] theorem Part.refuseFull_plu (s : Station) (b : BlockNo) (p : Part) : (p.refuseFull s b).plu = p.plu := by
  simp [Part.refuseFull]
@[simp] theorem Part.refuseFull_mxe (s : Station) (b : BlockNo) (p : Part) : (p.refuseFull s b).mxe = p.mxe := by
  simp [Part.refuseFull]
@[simp] theorem Part.refuseFull_moment (s : Station) (b : BlockNo) (p : Part) : (p.refuseFull s b).moment = p.moment := by
  simp [Part.refuseFull]

@[simp] theorem Part.decideSwitches_sul (p : Part) : (p.decideSwitches).sul = p.sul := by
  simp only [Part.decideSwitches]
@[simp] theorem Part.decideSwitches_settings (p : Part) : (p.decideSwitches).settings = p.settings := by
  simp only [Part.decideSwitches]
@[simp] theorem Part.decideSwitches_liu (p : Part) : (p.decideSwitches).liu = p.liu := by
  simp only [Part.decideSwitches]
@[simp] theorem Part.decideSwitches_ptb (p : Part) : (p.decideSwitches).ptb = p.ptb := by
  simp only [Part.decideSwitches]
@[simp] theorem Part.decideSwitches_tau (p : Part) : (p.decideSwitches).tau = p.tau := by
  simp only [Part.decideSwitches]
@[simp] theorem Part.decideSwitches_cap (p : Part) : (p.decideSwitches).cap = p.cap := by
  simp only [Part.decideSwitches]
@[simp] theorem Part.decideSwitches_ast (p : Part) : (p.decideSwitches).ast = p.ast := by
  simp only [Part.decideSwitches]
@[simp] theorem Part.decideSwitches_plu (p : Part) : (p.decideSwitches).plu = p.plu := by
  simp only [Part.decideSwitches]
@[simp] theorem Part.decideSwitches_imn (p : Part) : (p.decideSwitches).imn = p.imn := by
  simp only [Part.decideSwitches]
@[simp] theorem Part.decideSwitches_faults (p : Part) : (p.decideSwitches).faults = p.faults := by
  simp only [Part.decideSwitches]
@[simp] theorem Part.decideSwitches_pnl (p : Part) : (p.decideSwitches).pnl = p.pnl := by
  simp only [Part.decideSwitches]
@[simp] theorem Part.decideSwitches_moment (p : Part) : (p.decideSwitches).moment = p.moment := by
  simp only [Part.decideSwitches]

@[simp] theorem Part.mixBoundary_sul (p : Part) : (p.mixBoundary).sul = p.sul := by
  simp only [Part.mixBoundary]
@[simp] theorem Part.mixBoundary_settings (p : Part) : (p.mixBoundary).settings = p.settings := by
  simp only [Part.mixBoundary]
@[simp] theorem Part.mixBoundary_liu (p : Part) : (p.mixBoundary).liu = p.liu := by
  simp only [Part.mixBoundary]
@[simp] theorem Part.mixBoundary_ptb (p : Part) : (p.mixBoundary).ptb = p.ptb := by
  simp only [Part.mixBoundary]
@[simp] theorem Part.mixBoundary_tau (p : Part) : (p.mixBoundary).tau = p.tau := by
  simp only [Part.mixBoundary]
@[simp] theorem Part.mixBoundary_cap (p : Part) : (p.mixBoundary).cap = p.cap := by
  simp only [Part.mixBoundary]
@[simp] theorem Part.mixBoundary_ast (p : Part) : (p.mixBoundary).ast = p.ast := by
  simp only [Part.mixBoundary]
@[simp] theorem Part.mixBoundary_plu (p : Part) : (p.mixBoundary).plu = p.plu := by
  simp only [Part.mixBoundary]
@[simp] theorem Part.mixBoundary_imn (p : Part) : (p.mixBoundary).imn = p.imn := by
  simp only [Part.mixBoundary]
@[simp] theorem Part.mixBoundary_faults (p : Part) : (p.mixBoundary).faults = p.faults := by
  simp only [Part.mixBoundary]
@[simp] theorem Part.mixBoundary_pnl (p : Part) : (p.mixBoundary).pnl = p.pnl := by
  simp only [Part.mixBoundary]
@[simp] theorem Part.mixBoundary_moment (p : Part) : (p.mixBoundary).moment = p.moment := by
  simp only [Part.mixBoundary]

@[simp] theorem Part.enterLanes_sul (pb : BlockNo) (p : Part) : (p.enterLanes pb).sul = p.sul := by
  simp only [Part.enterLanes]
@[simp] theorem Part.enterLanes_settings (pb : BlockNo) (p : Part) : (p.enterLanes pb).settings = p.settings := by
  simp only [Part.enterLanes]
@[simp] theorem Part.enterLanes_liu (pb : BlockNo) (p : Part) : (p.enterLanes pb).liu = p.liu := by
  simp only [Part.enterLanes]
@[simp] theorem Part.enterLanes_ptb (pb : BlockNo) (p : Part) : (p.enterLanes pb).ptb = p.ptb := by
  simp only [Part.enterLanes]
@[simp] theorem Part.enterLanes_tau (pb : BlockNo) (p : Part) : (p.enterLanes pb).tau = p.tau := by
  simp only [Part.enterLanes]
@[simp] theorem Part.enterLanes_cap (pb : BlockNo) (p : Part) : (p.enterLanes pb).cap = p.cap := by
  simp only [Part.enterLanes]
@[simp] theorem Part.enterLanes_ast (pb : BlockNo) (p : Part) : (p.enterLanes pb).ast = p.ast := by
  simp only [Part.enterLanes]
@[simp] theorem Part.enterLanes_mxe (pb : BlockNo) (p : Part) : (p.enterLanes pb).mxe = p.mxe := by
  simp only [Part.enterLanes]
@[simp] theorem Part.enterLanes_imn (pb : BlockNo) (p : Part) : (p.enterLanes pb).imn = p.imn := by
  simp only [Part.enterLanes]
@[simp] theorem Part.enterLanes_faults (pb : BlockNo) (p : Part) : (p.enterLanes pb).faults = p.faults := by
  simp only [Part.enterLanes]
@[simp] theorem Part.enterLanes_pnl (pb : BlockNo) (p : Part) : (p.enterLanes pb).pnl = p.pnl := by
  simp only [Part.enterLanes]
@[simp] theorem Part.enterLanes_moment (pb : BlockNo) (p : Part) : (p.enterLanes pb).moment = p.moment := by
  simp only [Part.enterLanes]

@[simp] theorem Part.setPosition_sul (pos : SampleCount) (p : Part) : (p.setPosition pos).sul = p.sul := rfl
@[simp] theorem Part.setPosition_settings (pos : SampleCount) (p : Part) : (p.setPosition pos).settings = p.settings := rfl
@[simp] theorem Part.setPosition_liu (pos : SampleCount) (p : Part) : (p.setPosition pos).liu = p.liu := rfl
@[simp] theorem Part.setPosition_ptb (pos : SampleCount) (p : Part) : (p.setPosition pos).ptb = p.ptb := rfl
@[simp] theorem Part.setPosition_tau (pos : SampleCount) (p : Part) : (p.setPosition pos).tau = p.tau := rfl
@[simp] theorem Part.setPosition_cap (pos : SampleCount) (p : Part) : (p.setPosition pos).cap = p.cap := rfl
@[simp] theorem Part.setPosition_ast (pos : SampleCount) (p : Part) : (p.setPosition pos).ast = p.ast := rfl
@[simp] theorem Part.setPosition_mxe (pos : SampleCount) (p : Part) : (p.setPosition pos).mxe = p.mxe := rfl
@[simp] theorem Part.setPosition_imn (pos : SampleCount) (p : Part) : (p.setPosition pos).imn = p.imn := rfl
@[simp] theorem Part.setPosition_faults (pos : SampleCount) (p : Part) : (p.setPosition pos).faults = p.faults := rfl
@[simp] theorem Part.setPosition_pnl (pos : SampleCount) (p : Part) : (p.setPosition pos).pnl = p.pnl := rfl
@[simp] theorem Part.setPosition_moment (pos : SampleCount) (p : Part) : (p.setPosition pos).moment = p.moment := rfl

@[simp] theorem Part.oweMove_sul (p : Part) : (p.oweMove).sul = p.sul := rfl
@[simp] theorem Part.oweMove_settings (p : Part) : (p.oweMove).settings = p.settings := rfl
@[simp] theorem Part.oweMove_liu (p : Part) : (p.oweMove).liu = p.liu := rfl
@[simp] theorem Part.oweMove_ptb (p : Part) : (p.oweMove).ptb = p.ptb := rfl
@[simp] theorem Part.oweMove_tau (p : Part) : (p.oweMove).tau = p.tau := rfl
@[simp] theorem Part.oweMove_cap (p : Part) : (p.oweMove).cap = p.cap := rfl
@[simp] theorem Part.oweMove_ast (p : Part) : (p.oweMove).ast = p.ast := rfl
@[simp] theorem Part.oweMove_mxe (p : Part) : (p.oweMove).mxe = p.mxe := rfl
@[simp] theorem Part.oweMove_imn (p : Part) : (p.oweMove).imn = p.imn := rfl
@[simp] theorem Part.oweMove_faults (p : Part) : (p.oweMove).faults = p.faults := rfl
@[simp] theorem Part.oweMove_pnl (p : Part) : (p.oweMove).pnl = p.pnl := rfl
@[simp] theorem Part.oweMove_moment (p : Part) : (p.oweMove).moment = p.moment := rfl

@[simp] theorem Part.clearStation_sul (s : Station) (p : Part) : (p.clearStation s).sul = p.sul := rfl
@[simp] theorem Part.clearStation_settings (s : Station) (p : Part) : (p.clearStation s).settings = p.settings := rfl
@[simp] theorem Part.clearStation_liu (s : Station) (p : Part) : (p.clearStation s).liu = p.liu := rfl
@[simp] theorem Part.clearStation_tau (s : Station) (p : Part) : (p.clearStation s).tau = p.tau := rfl
@[simp] theorem Part.clearStation_cap (s : Station) (p : Part) : (p.clearStation s).cap = p.cap := rfl
@[simp] theorem Part.clearStation_faults (s : Station) (p : Part) : (p.clearStation s).faults = p.faults := rfl
@[simp] theorem Part.clearStation_pnl (s : Station) (p : Part) : (p.clearStation s).pnl = p.pnl := rfl
@[simp] theorem Part.clearStation_moment (s : Station) (p : Part) : (p.clearStation s).moment = p.moment := rfl

@[simp] theorem Part.stepPeers_sul (delta : Int) (p : Part) : (p.stepPeers delta).sul = p.sul := by
  simp only [Part.stepPeers]
@[simp] theorem Part.stepPeers_settings (delta : Int) (p : Part) : (p.stepPeers delta).settings = p.settings := by
  simp only [Part.stepPeers]
@[simp] theorem Part.stepPeers_liu (delta : Int) (p : Part) : (p.stepPeers delta).liu = p.liu := by
  simp only [Part.stepPeers]
@[simp] theorem Part.stepPeers_tau (delta : Int) (p : Part) : (p.stepPeers delta).tau = p.tau := by
  simp only [Part.stepPeers]
@[simp] theorem Part.stepPeers_cap (delta : Int) (p : Part) : (p.stepPeers delta).cap = p.cap := by
  simp only [Part.stepPeers]
@[simp] theorem Part.stepPeers_ast (delta : Int) (p : Part) : (p.stepPeers delta).ast = p.ast := by
  simp only [Part.stepPeers]
@[simp] theorem Part.stepPeers_plu (delta : Int) (p : Part) : (p.stepPeers delta).plu = p.plu := by
  simp only [Part.stepPeers]
@[simp] theorem Part.stepPeers_mxe (delta : Int) (p : Part) : (p.stepPeers delta).mxe = p.mxe := by
  simp only [Part.stepPeers]
@[simp] theorem Part.stepPeers_imn (delta : Int) (p : Part) : (p.stepPeers delta).imn = p.imn := by
  simp only [Part.stepPeers]
@[simp] theorem Part.stepPeers_faults (delta : Int) (p : Part) : (p.stepPeers delta).faults = p.faults := by
  simp only [Part.stepPeers]
@[simp] theorem Part.stepPeers_pnl (delta : Int) (p : Part) : (p.stepPeers delta).pnl = p.pnl := by
  simp only [Part.stepPeers]
@[simp] theorem Part.stepPeers_moment (delta : Int) (p : Part) : (p.stepPeers delta).moment = p.moment := by
  simp only [Part.stepPeers]

@[simp] theorem Part.lapsePeer_sul (s : Station) (p : Part) : (p.lapsePeer s).sul = p.sul := by
  simp [Part.lapsePeer]
@[simp] theorem Part.lapsePeer_settings (s : Station) (p : Part) : (p.lapsePeer s).settings = p.settings := by
  simp [Part.lapsePeer]
@[simp] theorem Part.lapsePeer_liu (s : Station) (p : Part) : (p.lapsePeer s).liu = p.liu := by
  simp [Part.lapsePeer]
@[simp] theorem Part.lapsePeer_tau (s : Station) (p : Part) : (p.lapsePeer s).tau = p.tau := by
  simp [Part.lapsePeer]
@[simp] theorem Part.lapsePeer_cap (s : Station) (p : Part) : (p.lapsePeer s).cap = p.cap := by
  simp [Part.lapsePeer]
@[simp] theorem Part.lapsePeer_ast (s : Station) (p : Part) : (p.lapsePeer s).ast = p.ast := by
  simp [Part.lapsePeer]
@[simp] theorem Part.lapsePeer_plu (s : Station) (p : Part) : (p.lapsePeer s).plu = p.plu := by
  simp [Part.lapsePeer]
@[simp] theorem Part.lapsePeer_mxe (s : Station) (p : Part) : (p.lapsePeer s).mxe = p.mxe := by
  simp [Part.lapsePeer]
@[simp] theorem Part.lapsePeer_imn (s : Station) (p : Part) : (p.lapsePeer s).imn = p.imn := by
  simp [Part.lapsePeer]
@[simp] theorem Part.lapsePeer_moment (s : Station) (p : Part) : (p.lapsePeer s).moment = p.moment := by
  simp [Part.lapsePeer]

@[simp] theorem Part.enterConflict_sul (p : Part) : (p.enterConflict).sul = p.sul := rfl
@[simp] theorem Part.enterConflict_settings (p : Part) : (p.enterConflict).settings = p.settings := rfl
@[simp] theorem Part.enterConflict_ptb (p : Part) : (p.enterConflict).ptb = p.ptb := rfl
@[simp] theorem Part.enterConflict_tau (p : Part) : (p.enterConflict).tau = p.tau := rfl
@[simp] theorem Part.enterConflict_ast (p : Part) : (p.enterConflict).ast = p.ast := rfl
@[simp] theorem Part.enterConflict_plu (p : Part) : (p.enterConflict).plu = p.plu := rfl
@[simp] theorem Part.enterConflict_mxe (p : Part) : (p.enterConflict).mxe = p.mxe := rfl
@[simp] theorem Part.enterConflict_imn (p : Part) : (p.enterConflict).imn = p.imn := rfl
@[simp] theorem Part.enterConflict_faults (p : Part) : (p.enterConflict).faults = p.faults := rfl
@[simp] theorem Part.enterConflict_pnl (p : Part) : (p.enterConflict).pnl = p.pnl := rfl
@[simp] theorem Part.enterConflict_moment (p : Part) : (p.enterConflict).moment = p.moment := rfl

@[simp] theorem Part.contributeBlock_sul (b : CaptureBlock) (p : Part) : (p.contributeBlock b).sul = p.sul := rfl
@[simp] theorem Part.contributeBlock_settings (b : CaptureBlock) (p : Part) : (p.contributeBlock b).settings = p.settings := rfl
@[simp] theorem Part.contributeBlock_liu (b : CaptureBlock) (p : Part) : (p.contributeBlock b).liu = p.liu := rfl
@[simp] theorem Part.contributeBlock_ptb (b : CaptureBlock) (p : Part) : (p.contributeBlock b).ptb = p.ptb := rfl
@[simp] theorem Part.contributeBlock_tau (b : CaptureBlock) (p : Part) : (p.contributeBlock b).tau = p.tau := rfl
@[simp] theorem Part.contributeBlock_ast (b : CaptureBlock) (p : Part) : (p.contributeBlock b).ast = p.ast := rfl
@[simp] theorem Part.contributeBlock_plu (b : CaptureBlock) (p : Part) : (p.contributeBlock b).plu = p.plu := rfl
@[simp] theorem Part.contributeBlock_mxe (b : CaptureBlock) (p : Part) : (p.contributeBlock b).mxe = p.mxe := rfl
@[simp] theorem Part.contributeBlock_imn (b : CaptureBlock) (p : Part) : (p.contributeBlock b).imn = p.imn := rfl
@[simp] theorem Part.contributeBlock_faults (b : CaptureBlock) (p : Part) : (p.contributeBlock b).faults = p.faults := rfl
@[simp] theorem Part.contributeBlock_pnl (b : CaptureBlock) (p : Part) : (p.contributeBlock b).pnl = p.pnl := rfl
@[simp] theorem Part.contributeBlock_moment (b : CaptureBlock) (p : Part) : (p.contributeBlock b).moment = p.moment := rfl

@[simp] theorem Part.moveOn_sul (p : Part) : (p.moveOn).sul = p.sul := rfl
@[simp] theorem Part.moveOn_settings (p : Part) : (p.moveOn).settings = p.settings := rfl
@[simp] theorem Part.moveOn_liu (p : Part) : (p.moveOn).liu = p.liu := rfl
@[simp] theorem Part.moveOn_ptb (p : Part) : (p.moveOn).ptb = p.ptb := rfl
@[simp] theorem Part.moveOn_tau (p : Part) : (p.moveOn).tau = p.tau := rfl
@[simp] theorem Part.moveOn_ast (p : Part) : (p.moveOn).ast = p.ast := rfl
@[simp] theorem Part.moveOn_plu (p : Part) : (p.moveOn).plu = p.plu := rfl
@[simp] theorem Part.moveOn_mxe (p : Part) : (p.moveOn).mxe = p.mxe := rfl
@[simp] theorem Part.moveOn_imn (p : Part) : (p.moveOn).imn = p.imn := rfl
@[simp] theorem Part.moveOn_faults (p : Part) : (p.moveOn).faults = p.faults := rfl
@[simp] theorem Part.moveOn_pnl (p : Part) : (p.moveOn).pnl = p.pnl := rfl
@[simp] theorem Part.moveOn_moment (p : Part) : (p.moveOn).moment = p.moment := rfl

@[simp] theorem Part.openBlock_sul (p : Part) : (p.openBlock).sul = p.sul := rfl
@[simp] theorem Part.openBlock_settings (p : Part) : (p.openBlock).settings = p.settings := rfl
@[simp] theorem Part.openBlock_liu (p : Part) : (p.openBlock).liu = p.liu := rfl
@[simp] theorem Part.openBlock_ptb (p : Part) : (p.openBlock).ptb = p.ptb := rfl
@[simp] theorem Part.openBlock_tau (p : Part) : (p.openBlock).tau = p.tau := rfl
@[simp] theorem Part.openBlock_ast (p : Part) : (p.openBlock).ast = p.ast := rfl
@[simp] theorem Part.openBlock_plu (p : Part) : (p.openBlock).plu = p.plu := rfl
@[simp] theorem Part.openBlock_mxe (p : Part) : (p.openBlock).mxe = p.mxe := rfl
@[simp] theorem Part.openBlock_imn (p : Part) : (p.openBlock).imn = p.imn := rfl
@[simp] theorem Part.openBlock_faults (p : Part) : (p.openBlock).faults = p.faults := rfl
@[simp] theorem Part.openBlock_pnl (p : Part) : (p.openBlock).pnl = p.pnl := rfl
@[simp] theorem Part.openBlock_moment (p : Part) : (p.openBlock).moment = p.moment := rfl

@[simp] theorem Part.mapTau_sul (f : Tau → Tau) (p : Part) : (p.mapTau f).sul = p.sul := rfl
@[simp] theorem Part.mapTau_settings (f : Tau → Tau) (p : Part) : (p.mapTau f).settings = p.settings := rfl
@[simp] theorem Part.mapTau_liu (f : Tau → Tau) (p : Part) : (p.mapTau f).liu = p.liu := rfl
@[simp] theorem Part.mapTau_ptb (f : Tau → Tau) (p : Part) : (p.mapTau f).ptb = p.ptb := rfl
@[simp] theorem Part.mapTau_cap (f : Tau → Tau) (p : Part) : (p.mapTau f).cap = p.cap := rfl
@[simp] theorem Part.mapTau_ast (f : Tau → Tau) (p : Part) : (p.mapTau f).ast = p.ast := rfl
@[simp] theorem Part.mapTau_plu (f : Tau → Tau) (p : Part) : (p.mapTau f).plu = p.plu := rfl
@[simp] theorem Part.mapTau_mxe (f : Tau → Tau) (p : Part) : (p.mapTau f).mxe = p.mxe := rfl
@[simp] theorem Part.mapTau_imn (f : Tau → Tau) (p : Part) : (p.mapTau f).imn = p.imn := rfl
@[simp] theorem Part.mapTau_faults (f : Tau → Tau) (p : Part) : (p.mapTau f).faults = p.faults := rfl
@[simp] theorem Part.mapTau_pnl (f : Tau → Tau) (p : Part) : (p.mapTau f).pnl = p.pnl := rfl
@[simp] theorem Part.mapTau_moment (f : Tau → Tau) (p : Part) : (p.mapTau f).moment = p.moment := rfl

@[simp] theorem Part.trimTurn_sul (p : Part) : (p.trimTurn).sul = p.sul := rfl
@[simp] theorem Part.trimTurn_settings (p : Part) : (p.trimTurn).settings = p.settings := rfl
@[simp] theorem Part.trimTurn_liu (p : Part) : (p.trimTurn).liu = p.liu := rfl
@[simp] theorem Part.trimTurn_ptb (p : Part) : (p.trimTurn).ptb = p.ptb := rfl
@[simp] theorem Part.trimTurn_cap (p : Part) : (p.trimTurn).cap = p.cap := rfl
@[simp] theorem Part.trimTurn_ast (p : Part) : (p.trimTurn).ast = p.ast := rfl
@[simp] theorem Part.trimTurn_plu (p : Part) : (p.trimTurn).plu = p.plu := rfl
@[simp] theorem Part.trimTurn_mxe (p : Part) : (p.trimTurn).mxe = p.mxe := rfl
@[simp] theorem Part.trimTurn_imn (p : Part) : (p.trimTurn).imn = p.imn := rfl
@[simp] theorem Part.trimTurn_faults (p : Part) : (p.trimTurn).faults = p.faults := rfl
@[simp] theorem Part.trimTurn_pnl (p : Part) : (p.trimTurn).pnl = p.pnl := rfl

@[simp] theorem Part.endTick_sul (p : Part) : (p.endTick).sul = p.sul := rfl
@[simp] theorem Part.endTick_settings (p : Part) : (p.endTick).settings = p.settings := rfl
@[simp] theorem Part.endTick_liu (p : Part) : (p.endTick).liu = p.liu := rfl
@[simp] theorem Part.endTick_ptb (p : Part) : (p.endTick).ptb = p.ptb := rfl
@[simp] theorem Part.endTick_tau (p : Part) : (p.endTick).tau = p.tau := rfl
@[simp] theorem Part.endTick_cap (p : Part) : (p.endTick).cap = p.cap := rfl
@[simp] theorem Part.endTick_ast (p : Part) : (p.endTick).ast = p.ast := rfl
@[simp] theorem Part.endTick_plu (p : Part) : (p.endTick).plu = p.plu := rfl
@[simp] theorem Part.endTick_mxe (p : Part) : (p.endTick).mxe = p.mxe := rfl
@[simp] theorem Part.endTick_imn (p : Part) : (p.endTick).imn = p.imn := rfl
@[simp] theorem Part.endTick_faults (p : Part) : (p.endTick).faults = p.faults := rfl
@[simp] theorem Part.endTick_pnl (p : Part) : (p.endTick).pnl = p.pnl := rfl

@[simp] theorem Part.mapMxe_sul (f : Mxe → Mxe) (p : Part) : (p.mapMxe f).sul = p.sul := rfl
@[simp] theorem Part.mapMxe_settings (f : Mxe → Mxe) (p : Part) : (p.mapMxe f).settings = p.settings := rfl
@[simp] theorem Part.mapMxe_liu (f : Mxe → Mxe) (p : Part) : (p.mapMxe f).liu = p.liu := rfl
@[simp] theorem Part.mapMxe_ptb (f : Mxe → Mxe) (p : Part) : (p.mapMxe f).ptb = p.ptb := rfl
@[simp] theorem Part.mapMxe_tau (f : Mxe → Mxe) (p : Part) : (p.mapMxe f).tau = p.tau := rfl
@[simp] theorem Part.mapMxe_cap (f : Mxe → Mxe) (p : Part) : (p.mapMxe f).cap = p.cap := rfl
@[simp] theorem Part.mapMxe_ast (f : Mxe → Mxe) (p : Part) : (p.mapMxe f).ast = p.ast := rfl
@[simp] theorem Part.mapMxe_plu (f : Mxe → Mxe) (p : Part) : (p.mapMxe f).plu = p.plu := rfl
@[simp] theorem Part.mapMxe_imn (f : Mxe → Mxe) (p : Part) : (p.mapMxe f).imn = p.imn := rfl
@[simp] theorem Part.mapMxe_faults (f : Mxe → Mxe) (p : Part) : (p.mapMxe f).faults = p.faults := rfl
@[simp] theorem Part.mapMxe_pnl (f : Mxe → Mxe) (p : Part) : (p.mapMxe f).pnl = p.pnl := rfl
@[simp] theorem Part.mapMxe_moment (f : Mxe → Mxe) (p : Part) : (p.mapMxe f).moment = p.moment := rfl

@[simp] theorem Part.mapCap_sul (f : Cap → Cap) (p : Part) : (p.mapCap f).sul = p.sul := rfl
@[simp] theorem Part.mapCap_settings (f : Cap → Cap) (p : Part) : (p.mapCap f).settings = p.settings := rfl
@[simp] theorem Part.mapCap_liu (f : Cap → Cap) (p : Part) : (p.mapCap f).liu = p.liu := rfl
@[simp] theorem Part.mapCap_ptb (f : Cap → Cap) (p : Part) : (p.mapCap f).ptb = p.ptb := rfl
@[simp] theorem Part.mapCap_tau (f : Cap → Cap) (p : Part) : (p.mapCap f).tau = p.tau := rfl
@[simp] theorem Part.mapCap_ast (f : Cap → Cap) (p : Part) : (p.mapCap f).ast = p.ast := rfl
@[simp] theorem Part.mapCap_plu (f : Cap → Cap) (p : Part) : (p.mapCap f).plu = p.plu := rfl
@[simp] theorem Part.mapCap_mxe (f : Cap → Cap) (p : Part) : (p.mapCap f).mxe = p.mxe := rfl
@[simp] theorem Part.mapCap_imn (f : Cap → Cap) (p : Part) : (p.mapCap f).imn = p.imn := rfl
@[simp] theorem Part.mapCap_faults (f : Cap → Cap) (p : Part) : (p.mapCap f).faults = p.faults := rfl
@[simp] theorem Part.mapCap_pnl (f : Cap → Cap) (p : Part) : (p.mapCap f).pnl = p.pnl := rfl
@[simp] theorem Part.mapCap_moment (f : Cap → Cap) (p : Part) : (p.mapCap f).moment = p.moment := rfl

@[simp] theorem Part.emptySelection_sul (p : Part) : (p.emptySelection).sul = p.sul := rfl
@[simp] theorem Part.emptySelection_settings (p : Part) : (p.emptySelection).settings = p.settings := rfl
@[simp] theorem Part.emptySelection_liu (p : Part) : (p.emptySelection).liu = p.liu := rfl
@[simp] theorem Part.emptySelection_ptb (p : Part) : (p.emptySelection).ptb = p.ptb := rfl
@[simp] theorem Part.emptySelection_tau (p : Part) : (p.emptySelection).tau = p.tau := rfl
@[simp] theorem Part.emptySelection_cap (p : Part) : (p.emptySelection).cap = p.cap := rfl
@[simp] theorem Part.emptySelection_ast (p : Part) : (p.emptySelection).ast = p.ast := rfl
@[simp] theorem Part.emptySelection_plu (p : Part) : (p.emptySelection).plu = p.plu := rfl
@[simp] theorem Part.emptySelection_mxe (p : Part) : (p.emptySelection).mxe = p.mxe := rfl
@[simp] theorem Part.emptySelection_imn (p : Part) : (p.emptySelection).imn = p.imn := rfl
@[simp] theorem Part.emptySelection_faults (p : Part) : (p.emptySelection).faults = p.faults := rfl
@[simp] theorem Part.emptySelection_moment (p : Part) : (p.emptySelection).moment = p.moment := rfl

@[simp] theorem Part.frame_sul (state : FramerState) (p : Part) : (p.frame state).sul = p.sul := rfl
@[simp] theorem Part.frame_settings (state : FramerState) (p : Part) : (p.frame state).settings = p.settings := rfl
@[simp] theorem Part.frame_liu (state : FramerState) (p : Part) : (p.frame state).liu = p.liu := rfl
@[simp] theorem Part.frame_ptb (state : FramerState) (p : Part) : (p.frame state).ptb = p.ptb := rfl
@[simp] theorem Part.frame_tau (state : FramerState) (p : Part) : (p.frame state).tau = p.tau := rfl
@[simp] theorem Part.frame_cap (state : FramerState) (p : Part) : (p.frame state).cap = p.cap := rfl
@[simp] theorem Part.frame_ast (state : FramerState) (p : Part) : (p.frame state).ast = p.ast := rfl
@[simp] theorem Part.frame_plu (state : FramerState) (p : Part) : (p.frame state).plu = p.plu := rfl
@[simp] theorem Part.frame_mxe (state : FramerState) (p : Part) : (p.frame state).mxe = p.mxe := rfl
@[simp] theorem Part.frame_imn (state : FramerState) (p : Part) : (p.frame state).imn = p.imn := rfl
@[simp] theorem Part.frame_faults (state : FramerState) (p : Part) : (p.frame state).faults = p.faults := rfl
@[simp] theorem Part.frame_moment (state : FramerState) (p : Part) : (p.frame state).moment = p.moment := rfl

@[simp] theorem Part.refuseByte_sul (type : Byte) (p : Part) : (p.refuseByte type).sul = p.sul := rfl
@[simp] theorem Part.refuseByte_settings (type : Byte) (p : Part) : (p.refuseByte type).settings = p.settings := rfl
@[simp] theorem Part.refuseByte_liu (type : Byte) (p : Part) : (p.refuseByte type).liu = p.liu := rfl
@[simp] theorem Part.refuseByte_ptb (type : Byte) (p : Part) : (p.refuseByte type).ptb = p.ptb := rfl
@[simp] theorem Part.refuseByte_tau (type : Byte) (p : Part) : (p.refuseByte type).tau = p.tau := rfl
@[simp] theorem Part.refuseByte_cap (type : Byte) (p : Part) : (p.refuseByte type).cap = p.cap := rfl
@[simp] theorem Part.refuseByte_ast (type : Byte) (p : Part) : (p.refuseByte type).ast = p.ast := rfl
@[simp] theorem Part.refuseByte_plu (type : Byte) (p : Part) : (p.refuseByte type).plu = p.plu := rfl
@[simp] theorem Part.refuseByte_mxe (type : Byte) (p : Part) : (p.refuseByte type).mxe = p.mxe := rfl
@[simp] theorem Part.refuseByte_imn (type : Byte) (p : Part) : (p.refuseByte type).imn = p.imn := rfl
@[simp] theorem Part.refuseByte_faults (type : Byte) (p : Part) : (p.refuseByte type).faults = p.faults := rfl
@[simp] theorem Part.refuseByte_moment (type : Byte) (p : Part) : (p.refuseByte type).moment = p.moment := rfl

@[simp] theorem Part.advance_sul (x : InputSample) (p : Part) : (p.advance x).sul = p.sul := rfl
@[simp] theorem Part.advance_settings (x : InputSample) (p : Part) : (p.advance x).settings = p.settings := rfl
@[simp] theorem Part.advance_liu (x : InputSample) (p : Part) : (p.advance x).liu = p.liu := rfl
@[simp] theorem Part.advance_ptb (x : InputSample) (p : Part) : (p.advance x).ptb = p.ptb := rfl
@[simp] theorem Part.advance_ast (x : InputSample) (p : Part) : (p.advance x).ast = p.ast := rfl
@[simp] theorem Part.advance_plu (x : InputSample) (p : Part) : (p.advance x).plu = p.plu := rfl
@[simp] theorem Part.advance_mxe (x : InputSample) (p : Part) : (p.advance x).mxe = p.mxe := rfl
@[simp] theorem Part.advance_imn (x : InputSample) (p : Part) : (p.advance x).imn = p.imn := rfl
@[simp] theorem Part.advance_faults (x : InputSample) (p : Part) : (p.advance x).faults = p.faults := rfl
@[simp] theorem Part.advance_pnl (x : InputSample) (p : Part) : (p.advance x).pnl = p.pnl := rfl

/-! ## What the named updates set -/

@[simp] theorem Part.mapTau_tau (f : Tau → Tau) (p : Part) : (p.mapTau f).tau = f p.tau := rfl
@[simp] theorem Part.mapMxe_mxe (f : Mxe → Mxe) (p : Part) : (p.mapMxe f).mxe = f p.mxe := rfl
@[simp] theorem Part.mapCap_cap (f : Cap → Cap) (p : Part) : (p.mapCap f).cap = f p.cap := rfl
@[simp] theorem Part.emit_pnl (r : Report) (p : Part) : (p.emit r).pnl = p.pnl.emit r := rfl
@[simp] theorem Part.refuse_pnl (reason : RefusalReason) (type : Byte) (p : Part) :
    (p.refuse reason type).pnl = p.pnl.emit (refusedReport reason type) := rfl
@[simp] theorem Part.emitPeer_pnl (s : Station) (p : Part) : (p.emitPeer s).pnl = p.pnl.emit (peerReport p s) := rfl
@[simp] theorem Part.setPosition_position (pos : SampleCount) (p : Part) : (p.setPosition pos).plu.position = some pos := rfl
@[simp] theorem Part.endTick_moment (p : Part) : p.endTick.moment = { p.moment with tick := false, done := [] } := rfl
@[simp] theorem Part.withList_faults (p : Part) (marks : List FaultKey) (v : Option Verdict) (c : ListChange) :
    (p.withList marks v c).faults = { list := c.1, marks := marks, conflict := v } := rfl
@[simp] theorem Part.withList_pnl (p : Part) (marks : List FaultKey) (v : Option Verdict) (c : ListChange) :
    (p.withList marks v c).pnl = p.pnl.emitAll (c.2.map faultReport) := rfl
@[simp] theorem Part.raiseFault_conflict (key : FaultKey) (p : Part) :
    (p.raiseFault key).faults.conflict = p.faults.conflict := rfl
@[simp] theorem Part.endFault_conflict (key : FaultKey) (p : Part) :
    (p.endFault key).faults.conflict = p.faults.conflict := rfl
@[simp] theorem Part.raiseConflict_marks (v : Verdict) (p : Part) :
    (p.raiseConflict v).faults.marks = p.faults.marks := rfl
@[simp] theorem Part.raiseConflict_conflict (v : Verdict) (p : Part) :
    (p.raiseConflict v).faults.conflict = some v := rfl

@[simp] theorem Moment.took_tick (m : Moment) (j : TickJob) : (m.took j).tick = m.tick := rfl
@[simp] theorem Moment.took_tauDue (m : Moment) (j : TickJob) : (m.took j).tauDue = m.tauDue := rfl
@[simp] theorem Moment.took_trimDue (m : Moment) (j : TickJob) : (m.took j).trimDue = m.trimDue := rfl
@[simp] theorem Moment.took_pluDue (m : Moment) (j : TickJob) : (m.took j).pluDue = m.pluDue := rfl
@[simp] theorem Moment.took_controlDue (m : Moment) (j : TickJob) : (m.took j).controlDue = m.controlDue := rfl
@[simp] theorem Moment.took_stepped (m : Moment) (j : TickJob) : (m.took j).stepped = m.stepped := rfl
@[simp] theorem Moment.took_done (m : Moment) (j : TickJob) : (m.took j).done = j :: m.done := rfl

end Sys2Proof.Machine
end

