-- ==== Sys2Proof/Laws/Ops.lean ====
section
/-!
SUPPORT. What the shared operations can do: the report queue, the fault list, the jobs of a block tick.
-/

namespace Sys2Proof.Machine

/-! ## The report queue -/

/-- An emission changes the reports and the reports-lost mark, nothing else of the Panel Line. -/
theorem Pnl.emit_frame (q : Pnl) (r : Report) : q.emit r = q.withReports (q.emit r) := by
  unfold Pnl.emit Pnl.withReports
  split
  · rfl
  · split <;> rfl

theorem Pnl.emitAll_frame (q : Pnl) (rs : List Report) : q.emitAll rs = q.withReports (q.emitAll rs) := by
  induction rs generalizing q with
  | nil => rfl
  | cons r rs ih =>
    have h := ih (q.emit r)
    have e : Pnl.emitAll q (r :: rs) = (q.emit r).emitAll rs := rfl
    rw [e, h, Pnl.emit_frame q r]
    rfl

theorem dropOldestMeter_length (rs : List Report) (h : rs.any (·.kind == .meter) = true) :
    (dropOldestMeter rs).length + 1 = rs.length := by
  induction rs with
  | nil => simp at h
  | cons r rs ih =>
    unfold dropOldestMeter
    split
    · rfl
    · next hr =>
      simp only [List.any_cons, hr, beq_iff_eq, Bool.or_eq_true, false_or] at h
      simp only [List.length_cons, ih h]

/-- An emission keeps the report queue within its limit. -/
theorem Pnl.emit_length (q : Pnl) (r : Report) (h : q.reports.length ≤ 32) : (q.emit r).reports.length ≤ 32 := by
  unfold Pnl.emit
  simp only [Config.reportQueueLimit]
  split
  · simp only [List.length_append, List.length_singleton]; omega
  · split
    · next hm =>
      have := dropOldestMeter_length q.reports hm.2
      simp only [List.length_append, List.length_singleton]; omega
    · exact h

theorem Pnl.emitAll_length (q : Pnl) (rs : List Report) (h : q.reports.length ≤ 32) :
    (q.emitAll rs).reports.length ≤ 32 := by
  induction rs generalizing q with
  | nil => exact h
  | cons r rs ih => exact ih (q.emit r) (q.emit_length r h)

/-- An emission with room joins the tail. -/
theorem Pnl.emit_room (q : Pnl) (r : Report) (h : q.reports.length < 32) :
    q.emit r = { q with reports := q.reports ++ [r] } := by
  unfold Pnl.emit
  rw [if_pos h]

/-! ## The fault list -/

theorem findRecord_some {key : FaultKey} {list : List FaultRecord} {r : FaultRecord}
    (h : findRecord key list = some r) : r ∈ list ∧ r.key = key :=
  ⟨List.mem_of_find?_eq_some h, by simpa using List.find?_some h⟩

theorem findRecord_none {key : FaultKey} {list : List FaultRecord} :
    findRecord key list = none ↔ ∀ r ∈ list, r.key ≠ key := by
  unfold findRecord
  rw [List.find?_eq_none]
  simp

/-- With one record for each key, the record found is the record of the key. -/
theorem findRecord_of_mem {list : List FaultRecord} (hd : (list.map (·.key)).Nodup) {r : FaultRecord}
    (hr : r ∈ list) : findRecord r.key list = some r := by
  cases h : findRecord r.key list with
  | none => exact absurd rfl (findRecord_none.mp h r hr)
  | some x => rw [List.inj_on_of_nodup_map hd (findRecord_some h).1 hr (findRecord_some h).2]

/-- A change of records that keeps their key keeps every key. -/
theorem updateRecord_keys (key : FaultKey) (f : FaultRecord → FaultRecord) (list : List FaultRecord)
    (h : ∀ r, r.key = key → (f r).key = key) : (updateRecord key f list).map (·.key) = list.map (·.key) := by
  unfold updateRecord
  rw [List.map_map]
  apply List.map_congr_left
  intro r _
  simp only [Function.comp]
  split
  · next e => rw [h r e, e]
  · rfl

/-- An end keeps every record's kind and subject. -/
theorem endRecord_keys (key : FaultKey) (d : Option Verdict) (list : List FaultRecord) :
    (endRecord key d list).1.map (·.key) = list.map (·.key) := by
  unfold endRecord
  split
  · next r hr =>
    split
    · exact updateRecord_keys _ _ _ fun _ _ => (findRecord_some hr).2
    · rfl
  · rfl

/-- A raise changes nothing but the fault list, the marks and the reports. -/
theorem Part.raiseFault_frame (key : FaultKey) (p : Part) :
    p.raiseFault key = { p with faults := (p.raiseFault key).faults, pnl := p.pnl.withReports (p.raiseFault key).pnl } := by
  simp only [Part.raiseFault, Part.withList]
  rw [← Pnl.emitAll_frame]

/-- An end changes nothing but the fault list, the marks and the reports. -/
theorem Part.endFault_frame (key : FaultKey) (p : Part) :
    p.endFault key = { p with faults := (p.endFault key).faults, pnl := p.pnl.withReports (p.endFault key).pnl } := by
  simp only [Part.endFault, Part.withList]
  rw [← Pnl.emitAll_frame]

/-- Faults ended in order change nothing but the fault list, the marks and the reports. -/
theorem Part.endFaults_frame (keys : List FaultKey) (p : Part) :
    p.endFaults keys =
      { p with faults := (p.endFaults keys).faults, pnl := p.pnl.withReports (p.endFaults keys).pnl } := by
  induction keys generalizing p with
  | nil => rfl
  | cons k ks ih =>
    have e : Part.endFaults (k :: ks) p = (p.endFault k).endFaults ks := rfl
    rw [e, ih (p.endFault k), Part.endFault_frame k p]
    rfl

/-- After a raise the fault is active at its block. -/
theorem Part.raiseFault_active (key : FaultKey) (p : Part) : (p.raiseFault key).faults.isActive key = true := by
  by_cases h : key ∈ p.faults.marks <;> simp [Part.raiseFault, Faults.isActive, h]

/-- After an end the fault is not active at its block. -/
theorem Part.endFault_inactive (key : FaultKey) (p : Part) : (p.endFault key).faults.isActive key = false := by
  simp [Part.endFault, Faults.isActive]

/-- A raise leaves every other fault's mark. -/
theorem Part.raiseFault_other {key other : FaultKey} (h : other ≠ key) (p : Part) :
    (p.raiseFault key).faults.isActive other = p.faults.isActive other := by
  by_cases hk : key ∈ p.faults.marks <;> simp [Part.raiseFault, Faults.isActive, hk, h]

/-- An end leaves every other fault's mark. -/
theorem Part.endFault_other {key other : FaultKey} (h : other ≠ key) (p : Part) :
    (p.endFault key).faults.isActive other = p.faults.isActive other := by
  simp [Part.endFault, Faults.isActive, h]

/-- The marks after faults are ended in order. -/
theorem Part.endFaults_marks (keys : List FaultKey) (p : Part) :
    (p.endFaults keys).faults.marks = p.faults.marks.filter fun m => !keys.contains m := by
  induction keys generalizing p with
  | nil => simp [Part.endFaults]
  | cons k ks ih =>
    have e : Part.endFaults (k :: ks) p = (p.endFault k).endFaults ks := rfl
    rw [e, ih (p.endFault k)]
    simp only [Part.endFault, Part.withList_faults, List.filter_filter]
    apply List.filter_congr
    intro m _
    simp only [List.contains_cons, Bool.not_or]
    rw [Bool.and_comm]
    rfl

/-! ## The jobs of a block tick -/

/-- A command of an event that is not due changes nothing. -/
theorem Part.expire_not_due (j : TickJob) (outcome : Bool) (p : Part) (h : ¬p.moment.due j) :
    p.expire j outcome = p := by
  have : p.moment.jobDue j = false := by
    simp only [Moment.due, not_and_or, Bool.not_eq_true] at h
    rcases h with h | h
    · simp [Moment.jobDue, h]
    · simp only [not_not] at h
      simp [Moment.jobDue, h]
  simp [Part.expire, this]

/-- A command of an event that is due takes the job, once. -/
theorem Part.expire_due (j : TickJob) (outcome : Bool) (p : Part) (h : p.moment.due j) (ho : outcome = true) :
    p.expire j outcome = Part.jobWork j { p with moment := p.moment.took j } := by
  have : p.moment.jobDue j = true := by simp [Moment.jobDue, h.1, h.2]
  simp [Part.expire, this, ho, Part.runJob, Part.takeJob, Moment.took]

end Sys2Proof.Machine
end

