-- ==== Sys2Proof/Laws/Playout.lean ====
section
/-!
SUPPORT. What an entry, a crossing and a move of P leave unchanged, and what they set.
-/

namespace Sys2Proof.Machine

/-- Two parts with the same blocks are the same. -/
theorem Part.eq_of_fields {p q : Part} (h1 : p.sul = q.sul) (h2 : p.settings = q.settings) (h3 : p.liu = q.liu)
    (h4 : p.ptb = q.ptb) (h5 : p.tau = q.tau) (h6 : p.cap = q.cap) (h7 : p.ast = q.ast) (h8 : p.plu = q.plu)
    (h9 : p.mxe = q.mxe) (h10 : p.imn = q.imn) (h11 : p.faults = q.faults) (h12 : p.pnl = q.pnl)
    (h13 : p.moment = q.moment) : p = q := by
  cases p
  cases q
  simp only at *
  subst h1 h2 h3 h4 h5 h6 h7 h8 h9 h10 h11 h12 h13
  rfl

/-- LANE_LOSS of one lane changes only the fault list and the reports. -/
theorem Part.laneLoss_frame (x : Station × ProgLane) (p : Part) :
    p.laneLoss x = { p with faults := (p.laneLoss x).faults, pnl := p.pnl.withReports (p.laneLoss x).pnl } := by
  unfold Part.laneLoss
  split
  · split
    · exact Part.raiseFault_frame _ _
    · exact Part.endFault_frame _ _
  · rfl

theorem Part.foldl_laneLoss_frame (xs : List (Station × ProgLane)) (p : Part) :
    xs.foldl Part.laneLoss p =
      { p with
        faults := (xs.foldl Part.laneLoss p).faults, pnl := p.pnl.withReports (xs.foldl Part.laneLoss p).pnl } := by
  induction xs generalizing p with
  | nil => rfl
  | cons x xs ih =>
    rw [List.foldl_cons, ih (p.laneLoss x), Part.laneLoss_frame x p]
    rfl

/-- LANE_LOSS of every lane changes only the fault list and the reports. -/
theorem Part.laneLosses_frame (p : Part) :
    p.laneLosses = { p with faults := p.laneLosses.faults, pnl := p.pnl.withReports p.laneLosses.pnl } :=
  Part.foldl_laneLoss_frame allStreams p

/-- An entry changes the lanes, the mix, the fault list and the reports. -/
theorem Part.enterBlock_frame (pb : BlockNo) (p : Part) :
    p.enterBlock pb =
      { p with
        plu := { p.plu with lanes := (p.enterLanes pb).plu.lanes }
        mxe := (p.enterBlock pb).mxe
        faults := (p.enterBlock pb).faults
        pnl := p.pnl.withReports (p.enterBlock pb).pnl } := by
  have hl : (p.enterBlock pb).plu = (p.enterLanes pb).plu := by
    rw [Part.enterBlock, Part.mixBoundary_plu, Part.decideSwitches_plu, Part.laneLosses_frame]
  have hp : (p.enterBlock pb).pnl = p.pnl.withReports (p.enterBlock pb).pnl := by
    rw [Part.enterBlock, Part.mixBoundary_pnl, Part.decideSwitches_pnl]
    conv_lhs => rw [Part.laneLosses_frame]
    rw [Part.enterLanes_pnl]
  apply Part.eq_of_fields
  all_goals dsimp only
  case h8 => rw [hl]; rfl
  case h12 => exact hp
  all_goals first
    | done
    | (simp only [Part.enterBlock, Part.mixBoundary_sul, Part.mixBoundary_settings, Part.mixBoundary_liu,
        Part.mixBoundary_ptb, Part.mixBoundary_tau, Part.mixBoundary_cap, Part.mixBoundary_ast,
        Part.mixBoundary_imn, Part.mixBoundary_moment, Part.decideSwitches_sul, Part.decideSwitches_settings,
        Part.decideSwitches_liu, Part.decideSwitches_ptb, Part.decideSwitches_tau, Part.decideSwitches_cap,
        Part.decideSwitches_ast, Part.decideSwitches_imn, Part.decideSwitches_moment]
       rw [Part.laneLosses_frame]
       simp only [Part.enterLanes])

/-- DIGEST_SUSPECT following a changed record changes the digest records, the fault list and the reports. -/
theorem Part.suspectFault_after (s : Station) (f : DigestRecord → DigestRecord) (p : Part) :
    (p.mapDigest s f).suspectFault s =
      { p with
        imn := ((p.mapDigest s f).suspectFault s).imn
        faults := ((p.mapDigest s f).suspectFault s).faults
        pnl := p.pnl.withReports ((p.mapDigest s f).suspectFault s).pnl } := by
  unfold Part.suspectFault
  have h1 : ((p.mapDigest s f).raiseFault (digestSuspectKey s)).pnl =
      p.pnl.withReports ((p.mapDigest s f).raiseFault (digestSuspectKey s)).pnl :=
    Pnl.emitAll_frame p.pnl _
  have h2 : ((p.mapDigest s f).endFault (digestSuspectKey s)).pnl =
      p.pnl.withReports ((p.mapDigest s f).endFault (digestSuspectKey s)).pnl :=
    Pnl.emitAll_frame p.pnl _
  by_cases h : (p.mapDigest s f).imn[s].suspect = true
  · rw [if_pos h]
    apply Part.eq_of_fields <;> simp only [Part.raiseFault_sul, Part.raiseFault_settings, Part.raiseFault_liu,
      Part.raiseFault_ptb, Part.raiseFault_tau, Part.raiseFault_cap, Part.raiseFault_ast, Part.raiseFault_plu,
      Part.raiseFault_mxe, Part.raiseFault_moment, Part.mapDigest_sul, Part.mapDigest_settings, Part.mapDigest_liu,
      Part.mapDigest_ptb, Part.mapDigest_tau, Part.mapDigest_cap, Part.mapDigest_ast, Part.mapDigest_plu,
      Part.mapDigest_mxe, Part.mapDigest_moment]
    exact h1
  · rw [if_neg h]
    apply Part.eq_of_fields <;> simp only [Part.endFault_sul, Part.endFault_settings, Part.endFault_liu,
      Part.endFault_ptb, Part.endFault_tau, Part.endFault_cap, Part.endFault_ast, Part.endFault_plu,
      Part.endFault_mxe, Part.endFault_moment, Part.mapDigest_sul, Part.mapDigest_settings, Part.mapDigest_liu,
      Part.mapDigest_ptb, Part.mapDigest_tau, Part.mapDigest_cap, Part.mapDigest_ast, Part.mapDigest_plu,
      Part.mapDigest_mxe, Part.mapDigest_moment]
    exact h2

/-- One peer's evaluation changes the digest records, the fault list and the reports. -/
theorem Part.evaluateStation_frame (k : Nat) (p : Part) (s : Station) :
    p.evaluateStation k s =
      { p with
        imn := (p.evaluateStation k s).imn
        faults := (p.evaluateStation k s).faults
        pnl := p.pnl.withReports (p.evaluateStation k s).pnl } := by
  unfold Part.evaluateStation
  by_cases hs : p.isPeer s = true
  · rw [if_pos hs]
    cases p.imn[s].entries.find? (·.window == k) with
    | none => rfl
    | some e => exact Part.suspectFault_after s _ _
  · rw [if_neg hs]
    rfl

theorem Part.foldl_evaluateStation_frame (k : Nat) (xs : List Station) (p : Part) :
    xs.foldl (Part.evaluateStation k) p =
      { p with
        imn := (xs.foldl (Part.evaluateStation k) p).imn
        faults := (xs.foldl (Part.evaluateStation k) p).faults
        pnl := p.pnl.withReports (xs.foldl (Part.evaluateStation k) p).pnl } := by
  induction xs generalizing p with
  | nil => rfl
  | cons x xs ih =>
    rw [List.foldl_cons, ih (p.evaluateStation k x), Part.evaluateStation_frame k p x]
    rfl

/-- A crossing at the Integrity Monitor changes the digest records, the fault list and the reports. -/
theorem Part.digestCrossing_frame (pb pb' : BlockNo) (p : Part) :
    p.digestCrossing pb pb' =
      { p with
        imn := (p.digestCrossing pb pb').imn
        faults := (p.digestCrossing pb pb').faults
        pnl := p.pnl.withReports (p.digestCrossing pb pb').pnl } := by
  have hq := Part.foldl_evaluateStation_frame (windowOf pb) allStations p
  unfold Part.digestCrossing
  by_cases h : pb.toNat % 64 = 63
  · rw [if_pos h]
    generalize List.foldl (Part.evaluateStation (windowOf pb)) p allStations = q at hq ⊢
    apply Part.eq_of_fields <;> simp only [Part.mapDigests_sul, Part.mapDigests_settings, Part.mapDigests_liu,
      Part.mapDigests_ptb, Part.mapDigests_tau, Part.mapDigests_cap, Part.mapDigests_ast, Part.mapDigests_plu,
      Part.mapDigests_mxe, Part.mapDigests_faults, Part.mapDigests_pnl, Part.mapDigests_moment]
    all_goals first
      | exact congrArg Part.pnl hq
      | rw [hq]
  · rw [if_neg h]
    apply Part.eq_of_fields <;> simp only [Part.mapDigests_sul, Part.mapDigests_settings, Part.mapDigests_liu,
      Part.mapDigests_ptb, Part.mapDigests_tau, Part.mapDigests_cap, Part.mapDigests_ast, Part.mapDigests_plu,
      Part.mapDigests_mxe, Part.mapDigests_faults, Part.mapDigests_pnl, Part.mapDigests_moment]
    rfl

/-- A sample driven changes the outputs, the dither registers, the clip count and the meters. -/
theorem Part.drive_frame (p : Part) :
    p.drive =
      { p with mxe := { p.mxe with
          outputs := p.drive.mxe.outputs
          dither := p.drive.mxe.dither
          clipCount := p.drive.mxe.clipCount
          peaks := p.drive.mxe.peaks
          clips := p.drive.mxe.clips } } := by
  unfold Part.drive
  split <;> rfl

end Sys2Proof.Machine
end

