-- ==== Sys2Proof/Laws/Store.lean ====
section
/-!
SUPPORT. The Alignment Store: every operation keeps the canonical form `Ast.wf`, and what a look-up answers after it.
-/

namespace Sys2Proof.Machine

/-! ## Keys -/

/-- A key names its peer and block. -/
theorem bufferKey_inj (s s' : Station) (b b' : BlockNo) : bufferKey s b = bufferKey s' b' ↔ s = s' ∧ b = b' := by
  constructor
  · intro h
    unfold bufferKey at h
    have h1 := b.isLt
    have h2 := b'.isLt
    refine ⟨Fin.ext ?_, BitVec.eq_of_toNat_eq ?_⟩ <;> omega
  · rintro ⟨rfl, rfl⟩
    rfl

@[simp] theorem Buffer.key_empty (s : Station) (b : BlockNo) : (Buffer.empty s b).key = bufferKey s b := rfl

@[simp] theorem Buffer.fill_peer (k : LaneNo) (x : StoredLane) (y : Buffer) : (y.fill k x).peer = y.peer := rfl

@[simp] theorem Buffer.fill_block (k : LaneNo) (x : StoredLane) (y : Buffer) : (y.fill k x).block = y.block := rfl

@[simp] theorem Buffer.fill_key (k : LaneNo) (x : StoredLane) (y : Buffer) : (y.fill k x).key = y.key := rfl

/-! ## The canonical form -/

theorem fileBuffer_length (x : Buffer) (ys : List Buffer) : (fileBuffer x ys).length = ys.length + 1 := by
  induction ys with
  | nil => rfl
  | cons y ys ih =>
    unfold fileBuffer
    split
    · rfl
    · simp only [List.length_cons, ih]

theorem mem_fileBuffer (x z : Buffer) (ys : List Buffer) : z ∈ fileBuffer x ys ↔ z = x ∨ z ∈ ys := by
  induction ys with
  | nil => simp [fileBuffer]
  | cons y ys ih =>
    unfold fileBuffer
    split
    · simp
    · simp only [List.mem_cons, ih]
      tauto

/-- Filing a buffer of a new key keeps the keys strictly rising. -/
theorem fileBuffer_rising (x : Buffer) (ys : List Buffer)
    (h : List.Pairwise (fun a b : Buffer => a.key < b.key) ys) (hx : ∀ y ∈ ys, y.key ≠ x.key) :
    List.Pairwise (fun a b : Buffer => a.key < b.key) (fileBuffer x ys) := by
  induction ys with
  | nil => simp [fileBuffer]
  | cons y ys ih =>
    rw [List.pairwise_cons] at h
    unfold fileBuffer
    split
    · next hlt =>
      refine List.pairwise_cons.mpr ⟨fun z hz => ?_, List.pairwise_cons.mpr h⟩
      rcases List.mem_cons.mp hz with rfl | hz
      · exact hlt
      · exact Nat.lt_trans hlt (h.1 z hz)
    · next hge =>
      refine List.pairwise_cons.mpr ⟨fun z hz => ?_, ih h.2 fun z hz => hx z (List.mem_cons_of_mem _ hz)⟩
      rcases (mem_fileBuffer x z ys).mp hz with rfl | hz
      · have := hx y List.mem_cons_self
        omega
      · exact h.1 z hz

/-- No buffer is held where the look-up finds none (R89). -/
theorem Ast.find_eq_none (a : Ast) (s : Station) (b : BlockNo) :
    a.find s b = none ↔ ∀ y ∈ a.buffers, y.key ≠ bufferKey s b := by
  simp [Ast.find]

/-- Taking a free buffer for a block not held keeps the form (R86, R88, R94). -/
theorem Ast.take_wf (a : Ast) (s : Station) (b : BlockNo) (h : a.wf) (hfree : a.free ≠ 0) (hnew : a.find s b = none) :
    (a.take s b).wf := by
  refine ⟨fileBuffer_rising _ _ h.1 fun y hy => (a.find_eq_none s b).mp hnew y hy, ?_⟩
  have := h.2
  simp only [Ast.take, fileBuffer_length]
  omega

/-- Filling a lane keeps the form (R93). -/
theorem Ast.fill_wf (a : Ast) (s : Station) (b : BlockNo) (k : LaneNo) (x : StoredLane) (h : a.wf) :
    (a.fill s b k x).wf := by
  have hkey : ∀ y : Buffer, (if y.key = bufferKey s b then y.fill k x else y).key = y.key := by
    intro y
    split <;> rfl
  constructor
  · simp only [Ast.fill]
    rw [List.pairwise_map]
    simp only [hkey]
    exact h.1
  · simpa only [Ast.fill, List.length_map] using h.2

/-- Returning buffers to the free list keeps the form (R99). -/
theorem Ast.release_wf (a : Ast) (gone : Buffer → Bool) (h : a.wf) : (a.release gone).wf := by
  refine ⟨h.1.sublist List.filter_sublist, ?_⟩
  have hlen : (a.buffers.filter gone).length + (a.buffers.filter fun x => !gone x).length = a.buffers.length := by
    induction a.buffers with
    | nil => rfl
    | cons y ys ih => cases hy : gone y <;> simp [hy] <;> omega
  have := h.2
  simp only [Ast.release]
  omega

theorem Ast.releaseBlock_wf (a : Ast) (b : BlockNo) (h : a.wf) : (a.releaseBlock b).wf := a.release_wf _ h

theorem Ast.releasePeer_wf (a : Ast) (s : Station) (h : a.wf) : (a.releasePeer s).wf := a.release_wf _ h

theorem Ast.releaseOutside_wf (a : Ast) (pb : BlockNo) (h : a.wf) : (a.releaseOutside pb).wf := a.release_wf _ h

/-- The counts are no part of the form. -/
theorem Ast.wf_congr (a b : Ast) (hb : b.buffers = a.buffers) (hf : b.free = a.free) : b.wf ↔ a.wf := by
  simp only [Ast.wf, hb, hf]

/-- An empty store with every buffer free has the form (R86). -/
theorem Ast.empty_wf (a : Ast) (hb : a.buffers = []) (hf : a.free = Config.poolSize) : a.wf := by
  rw [Ast.wf, hb, hf]
  exact ⟨List.Pairwise.nil, Nat.add_zero _⟩

/-- The form holds at a power-on reset (R86). -/
theorem Ast.powerOn_wf (serial : Serial) (straps : BitVec 4) (role : Role) : (Part.powerOn serial straps role).ast.wf :=
  Ast.empty_wf _ rfl rfl

theorem Ast.reset_wf : State.reset.part.ast.wf := Ast.powerOn_wf _ _ _

/-! ## Look-ups -/

/-- A fill leaves which buffers are held as it was. -/
theorem Ast.find_fill (a : Ast) (s s' : Station) (b b' : BlockNo) (k : LaneNo) (x : StoredLane) :
    (a.fill s b k x).find s' b' =
      (a.find s' b').map fun y => if y.key = bufferKey s b then y.fill k x else y := by
  simp only [Ast.find, Ast.fill]
  induction a.buffers with
  | nil => rfl
  | cons y ys ih =>
    have hkey : (if y.key = bufferKey s b then y.fill k x else y).key = y.key := by
      split
      · exact Buffer.fill_key k x y
      · exact Eq.refl _
    cases hy : y.key == bufferKey s' b'
    · rw [List.map_cons, List.find?_cons_of_neg (by rw [hkey, hy]; exact Bool.false_ne_true),
        List.find?_cons_of_neg (by rw [hy]; exact Bool.false_ne_true), ih]
    · rw [List.map_cons, List.find?_cons_of_pos (by rw [hkey, hy]), List.find?_cons_of_pos (by exact hy), Option.map_some]

/-- A release that spares a key leaves its look-up as it was. -/
theorem Ast.find_release (a : Ast) (gone : Buffer → Bool) (s : Station) (b : BlockNo)
    (h : ∀ y ∈ a.buffers, y.key = bufferKey s b → gone y = false) : (a.release gone).find s b = a.find s b := by
  simp only [Ast.find, Ast.release]
  revert h
  induction a.buffers with
  | nil => exact fun _ => rfl
  | cons y ys ih =>
    intro h
    have ih := ih fun z hz => h z (List.mem_cons_of_mem _ hz)
    cases hy : gone y
    · rw [List.filter_cons_of_pos (by rw [hy]; exact Bool.not_false)]
      cases hk : y.key == bufferKey s b
      · rw [List.find?_cons_of_neg (by rw [hk]; exact Bool.false_ne_true),
          List.find?_cons_of_neg (by rw [hk]; exact Bool.false_ne_true), ih]
      · rw [List.find?_cons_of_pos (by exact hk), List.find?_cons_of_pos (by exact hk)]
    · rw [List.filter_cons_of_neg (by simp [hy]), ih, List.find?_cons_of_neg]
      intro e
      rw [h y List.mem_cons_self (by simpa using e)] at hy
      exact Bool.noConfusion hy

/-- Releasing a block leaves every other block as it was (R99). -/
theorem Ast.find_releaseBlock (a : Ast) (b b' : BlockNo) (s : Station) (h : b' ≠ b) :
    (a.releaseBlock b).find s b' = a.find s b' := by
  refine a.find_release _ s b' fun y _ hy => ?_
  have := ((bufferKey_inj y.peer s y.block b').mp hy).2
  simp [this, h]

theorem Ast.lane_releaseBlock (a : Ast) (b b' : BlockNo) (s : Station) (k : LaneNo) (h : b' ≠ b) :
    (a.releaseBlock b).lane s b' k = a.lane s b' k := by
  simp only [Ast.lane, a.find_releaseBlock b b' s h]

/-- A released block is not held (R99). -/
theorem Ast.find_releaseBlock_self (a : Ast) (b : BlockNo) (s : Station) : (a.releaseBlock b).find s b = none := by
  rw [Ast.find_eq_none]
  intro y hy hkey
  have hb := ((bufferKey_inj y.peer s y.block b).mp hkey).2
  simp [Ast.releaseBlock, Ast.release, hb] at hy

end Sys2Proof.Machine
end

