-- ==== Sys2Proof/Laws/Moment.lean ====
section
/-!
SUPPORT. The moment and the sample period: a settled moment, an instant whose work is taken, a move of P by one, and
what a crossing changes.
-/

namespace Sys2Proof.Machine

/-! ## The sample period -/

/-- Where nothing is owed, settling changes nothing (log 1). -/
theorem Part.settle_idle (p : Part) (h : p.moment.idle) (ho : p.plu.owed = none) : p.settle = p := by
  obtain ⟨h1, h2, h3, h4, h5⟩ := h
  have e1 : p.takeMove .evaluationFirst = p := by
    unfold Part.takeMove
    rw [ho]
    split <;> simp_all
  unfold Part.settle
  rw [e1]
  simp [Part.agreementWork, h3, Part.controlTurn, h5, Part.startTurn, h4, Part.tickWork, h1]

/-- A step owed moves P by one, then drives the outputs (R113, R162). -/
theorem Part.takeMove_step (p : Part) (order : CrossOrder) (pos : SampleCount) (hp : p.plu.position = some pos)
    (ho : p.plu.owed = some .step) :
    p.takeMove order = (({ p with plu := { p.plu with owed := none } }).moveBy order pos 1).drive := by
  unfold Part.takeMove
  rw [hp, ho]
  rfl

/-- A sample period taken at once at a settled moment with playout started, outside a slip decision (R113, R117). -/
theorem Part.samplePeriod_now (p : Part) (x : InputSample) (order : CrossOrder) (pos : SampleCount)
    (h : p.moment.idle) (ho : p.plu.owed = none) (hp : p.plu.position = some pos)
    (hs : p.plu.slipPhase + 1 < p.settings.slipRate) :
    p.samplePeriod x .now order =
      (({ p.advance x with plu := { p.plu with slipPhase := p.plu.slipPhase + 1 } }).moveBy order pos 1).drive := by
  have hst : (p.advance x).started = true := by simp [Part.started, Part.advance, hp]
  have h2 : ¬ (p.settings.slipRate ≤ p.plu.slipPhase + 1) := by omega
  have howe : (p.advance x).oweMove =
      { p.advance x with plu := { p.plu with slipPhase := p.plu.slipPhase + 1, owed := some .step } } := by
    simp [Part.oweMove, Part.advance, h2]
  unfold Part.samplePeriod
  rw [Part.settle_idle p h ho]
  simp only [Part.playTurn, hst, if_true]
  rw [howe]
  simp only [and_true, if_true]
  refine (Part.takeMove_step _ order pos ?_ rfl).trans ?_
  · exact hp
  · simp only [ho]

/-! ## The work of an agreement instant before what reads CT (R57) -/

/-- Where the instant's work is not due, it changes nothing (R50). -/
@[simp] theorem Part.tauWork_taken (p : Part) (h : p.moment.tauDue = false) : p.tauWork = p := by
  simp [Part.tauWork, h]

/-- Where the instant's work is not due, the closing of a block, a handover and an arrival read the CT held. -/
theorem Part.captureWork_taken (p : Part) (h : p.moment.tauDue = false) : p.captureWork = p.captureTick := by
  rw [Part.captureWork, Part.tauWork_taken p h]

theorem Part.handOverNow_taken (p : Part) (h : p.moment.tauDue = false) (hand : p.canHandOver = true) :
    p.handOverNow = p.handOver := by
  rw [Part.handOverNow, if_pos hand, Part.tauWork_taken p h]

theorem Part.arrive_taken (p : Part) (h : p.moment.tauDue = false) :
    p.arrive = { p with liu := p.liu.beginFrame ⟨p.tau.sc, p.now⟩ } := by
  rw [Part.arrive, Part.tauWork_taken p h]

/-- A step leaves the digest record alone but for the mark that spoils it (R76). -/
theorem SenderDigest.spoilAt_frame (r : SenderDigest) (b : Option BlockNo) (b' : BlockNo) :
    r.spoilAt b b' = { r with spoiled := (r.spoilAt b b').spoiled } := by
  unfold SenderDigest.spoilAt
  split <;> rfl

/-- A step leaves a parcel in assembly alone but for its digest (R57). -/
theorem Assembly.spoilAt_frame (a : Assembly) (b : Option BlockNo) (b' : BlockNo) :
    a.spoilAt b b' = { a with digest := (a.spoilAt b b').digest } := by
  unfold Assembly.spoilAt
  split <;> rfl

/-! ## The transmit queue (R6, R7) -/

/-- A parcel created with room in the queue only joins it. -/
theorem Part.enqueue_room (x : Parcel) (p : Part) (h : p.liu.queue.length < 8) :
    p.enqueue x = { p with liu := { p.liu with queue := placeParcel x p.liu.queue } } := if_pos h

/-- A parcel created at a full queue drops one, which settles the quiet count of the tick and raises TX_OVERRUN. -/
theorem Part.enqueue_full (x : Parcel) (p : Part) (h : 8 ≤ p.liu.queue.length) :
    p.enqueue x = (({ p with
      liu := { p.liu with
        queue := placeFull x p.liu.queue, txDropped := satAdd max32 p.liu.txDropped 1, txQuiet := 0 }
      moment := p.moment.took .txQuiet } : Part).raiseFault (FaultKey.plain .txOverrun)) :=
  if_neg (Nat.not_lt.mpr h)

/-- A parcel created changes the queue, its counts, the moment's jobs and what a raise changes, and no more. -/
theorem Part.enqueue_frame (x : Parcel) (p : Part) :
    p.enqueue x = { p with
      liu := { p.liu with
        queue := (p.enqueue x).liu.queue, txDropped := (p.enqueue x).liu.txDropped
        txQuiet := (p.enqueue x).liu.txQuiet }
      moment := { p.moment with done := (p.enqueue x).moment.done }
      faults := (p.enqueue x).faults, pnl := (p.enqueue x).pnl } := by
  rcases Nat.lt_or_ge p.liu.queue.length 8 with h | h
  · rw [Part.enqueue_room x p h]
  · rw [Part.enqueue_full x p h]
    rfl

/-! ## Positions (R109, R113) -/

/-- A move by one inside a block stays in it. -/
theorem blockOf_inside (pos : SampleCount) (h : pos.toNat % 48 ≠ 47) (h2 : pos.toNat + 1 < 2 ^ 48) :
    blockOf (pos + 1) = blockOf pos ∧ posInBlock (pos + 1) = pos.toNat % 48 + 1 := by
  have e : (pos + 1).toNat = pos.toNat + 1 := by
    rw [BitVec.toNat_add]
    simp
    omega
  unfold blockOf posInBlock
  rw [e]
  constructor
  · congr 1
    omega
  · omega

/-- A move by one from a block's last sample enters the next block. -/
theorem blockOf_crossing (pos : SampleCount) (h : pos.toNat % 48 = 47) (h2 : pos.toNat + 1 < 2 ^ 48) :
    blockOf (pos + 1) = blockOf pos + 1 ∧ blockOf (pos + 1) ≠ blockOf pos := by
  have e : (pos + 1).toNat = pos.toNat + 1 := by
    rw [BitVec.toNat_add]
    simp
    omega
  have next : blockOf (pos + 1) = blockOf pos + 1 := by
    unfold blockOf
    rw [e]
    have : (pos.toNat + 1) / 48 = pos.toNat / 48 + 1 := by omega
    rw [this]
    simp [BitVec.ofNat_add]
  refine ⟨next, ?_⟩
  rw [next]
  intro same
  have := congrArg BitVec.toNat same
  simp [BitVec.toNat_add] at this
  have := (blockOf pos).isLt
  omega

/-! ## Crossings -/

/-- What a crossing leaves of the blocks it does not touch, and how it moves P and frees the block left (R99, R114). -/
theorem Part.crossTo_frame (p : Part) (order : CrossOrder) (old pos : SampleCount) :
    let r := p.crossTo order old pos
    let q : Part := { p.setPosition pos with ast := p.ast.releaseBlock (blockOf old) }
    r.plu = { p.plu with position := some pos, lanes := (q.enterLanes (blockOf pos)).plu.lanes } ∧
      r.ast = p.ast.releaseBlock (blockOf old) ∧ r.tau = p.tau ∧ r.settings = p.settings ∧ r.sul = p.sul ∧
      r.moment = p.moment := by
  intro r q
  cases order with
  | evaluationFirst =>
    simp only [r, Part.crossTo]
    rw [Part.enterBlock_frame, Part.digestCrossing_frame]
    exact ⟨rfl, rfl, rfl, rfl, rfl, rfl⟩
  | readersFirst =>
    simp only [r, Part.crossTo]
    rw [Part.digestCrossing_frame, Part.enterBlock_frame]
    exact ⟨rfl, rfl, rfl, rfl, rfl, rfl⟩

/-- Entering a block changes the mix through its lanes, its switches and the mix boundary alone (R114, R137, R142). -/
theorem Part.enterBlock_mxe (p : Part) (pb : BlockNo) :
    (p.enterBlock pb).mxe = ((p.enterLanes pb).decideSwitches.mixBoundary).mxe := by
  have apart : ∀ (q : Part) (f : Faults) (l : Pnl),
      ({ q with faults := f, pnl := l } : Part).decideSwitches.mixBoundary.mxe = q.decideSwitches.mixBoundary.mxe := by
    intro q f l
    simp only [Part.mixBoundary, Part.decideSwitches]
    rfl
  unfold Part.enterBlock
  rw [Part.laneLosses_frame]
  exact apart _ _ _

/-! ## Outputs -/

/-- What an output sums depends on the settings, the mix and the lane records alone (R146, R158, R159). -/
theorem Part.unsaturated_congr (p q : Part) (h1 : p.sul = q.sul) (h2 : p.settings = q.settings) (h3 : p.mxe = q.mxe)
    (h4 : p.plu.lanes = q.plu.lanes) (o : OutputNo) (i : Nat) : p.unsaturated o i = q.unsaturated o i := by
  unfold Part.unsaturated Part.programme Part.talkSum Part.scaledGroup Part.groupSum Part.contribution
    Part.switchSample Part.isPeer Plu.lane
  simp only [h1, h2, h3, h4]

theorem Part.outputValue_congr (p q : Part) (h1 : p.sul = q.sul) (h2 : p.settings = q.settings) (h3 : p.mxe = q.mxe)
    (h4 : p.plu.lanes = q.plu.lanes) (o : OutputNo) (i : Nat) : p.outputValue o i = q.outputValue o i := by
  unfold Part.outputValue
  rw [Part.unsaturated_congr p q h1 h2 h3 h4, h2, h3]

end Sys2Proof.Machine
end

