-- ==== Sys2Proof/Laws/Operands.lean ====
section
/-!
SUPPORT. What the operand forms read, what a write to the selected streams does, and the lengths of byte fields.
-/

namespace Sys2Proof.Machine

/-! ## Operand bytes (R187 to R189) -/

theorem groupOf_eq (b : Byte) (g : GroupIx) (h : b.toNat = g.val + 1) : groupOf b = some g := by
  have := g.isLt
  unfold groupOf
  rw [dif_pos (by omega)]
  congr 1
  apply Fin.ext
  simp [h]

theorem groupOf_none (b : Byte) (h : b.toNat = 0 ∨ 8 < b.toNat) : groupOf b = none := by
  unfold groupOf
  rw [dif_neg (by omega)]

theorem stationOf_eq (b : Byte) (x : Station) (h : b.toNat = x.val + 1) : stationOf b = some x := by
  have := x.isLt
  unfold stationOf
  rw [dif_pos (by omega)]
  congr 1
  apply Fin.ext
  simp [h]

theorem stationOf_none (b : Byte) (h : b.toNat = 0 ∨ 16 < b.toNat) : stationOf b = none := by
  unfold stationOf
  rw [dif_neg (by omega)]

theorem progLaneOf_eq (b : Byte) (x : ProgLane) (h : b.toNat = x.val) : progLaneOf b = some x := by
  have := x.isLt
  unfold progLaneOf
  rw [dif_pos (by omega)]
  congr 1
  apply Fin.ext
  simp [h]

theorem slopeOf_eq (t : BitVec 16) (h : t.toNat ∈ [0, 1, 2, 10, 50, 100, 200, 500]) : slopeOf t = some t.toNat := by
  unfold slopeOf slopeTimes
  rw [if_pos]
  simpa using h

/-! ## Writes to the selected streams (R189) -/

theorem laneSet_get {α : Type} (t : LaneTable α) (s : Station) (k : ProgLane) (x : α) (y : Station) (j : ProgLane) :
    (laneSet t s k x)[y][j] = if (y, j) = (s, k) then x else t[y][j] := by
  simp only [laneSet, vmodify, Fin.getElem_fin, Vector.getElem_set]
  by_cases h : s.val = y.val
  · by_cases h2 : k.val = j.val
    · simp [h, h2, Fin.ext_iff]
    · simp [h, h2, Fin.ext_iff]
      intro h3
      omega
  · have : ¬ (y = s) := by
      intro e
      apply h
      rw [e]
    simp [h, this]

theorem writeSelected_get {α : Type} (set : List (Station × ProgLane)) (x : α) (t : LaneTable α) (y : Station)
    (j : ProgLane) : (writeSelected set x t)[y][j] = if (y, j) ∈ set then x else t[y][j] := by
  induction set generalizing t with
  | nil => simp [writeSelected]
  | cons a as ih =>
    have := ih (laneSet t a.1 a.2 x)
    unfold writeSelected at *
    rw [List.foldl_cons, this, laneSet_get]
    by_cases h : (y, j) = a
    · simp [h]
    · by_cases h2 : (y, j) ∈ as <;> simp [h, h2]

/-! ## Byte fields (R203) -/

@[simp] theorem beBytes_length (n v : Nat) : (beBytes n v).length = n := by
  induction n with
  | zero => rfl
  | succ n ih => simp [beBytes, ih]

@[simp] theorem beInt_length (n : Nat) (v : Int) : (beInt n v).length = n := beBytes_length _ _

/-- A sum of bytes begun at a value is that value and the sum (R185). -/
theorem foldl_add_byte (a : Byte) (l : List Byte) : l.foldl (· + ·) a = a + l.foldl (· + ·) 0 := by
  induction l generalizing a with
  | nil => simp
  | cons x xs ih =>
    simp only [List.foldl_cons]
    rw [ih (a + x), ih (0 + x)]
    simp [BitVec.add_assoc]

theorem byteSum_append (a b : List Byte) : byteSum (a ++ b) = byteSum a + byteSum b := by
  simp only [byteSum, List.foldl_append]
  exact foldl_add_byte _ _

/-- A record of 62 bytes is read as it stands (R200). -/
theorem configBytes_eq (record : List Byte) (h : record.length = 62) : configBytes record = record := by
  apply List.ext_getElem
  · simp [configBytes, h]
  · intro i h1 h2
    simp [configBytes, byteAt, h2]

end Sys2Proof.Machine
end

