-- ==== Sys2Proof/Tests/Slice0.lean ====
section
/-!
SUPPORT. Tests: the well-formedness smoke, the manual's worked cases, and for each statement with hypotheses a state
that meets them.
-/

namespace Sys2Proof.Tests

open Sys2Proof.Machine

-- One proof at a time: the kernel evaluations below would each hold a thread of their own.
set_option Elab.async false

/-! ## States for the tests -/

/-- Station 1 with serial 1,000, right after a power-on reset. -/
def fresh : Part := Part.powerOn 1000 0 .venue

/-- Nothing of the present moment is still to be taken. -/
def still : Moment := ⟨false, [], false, false, false, false, false⟩

/-- Station 1 in LISTENING and TRACKING, at SC 4,800 and settled, with E valid. -/
def ready : Part :=
  { fresh with
    tau := { fresh.tau with sc := 4800, mode := .tracking }
    liu := { fresh.liu with echoDelay := some 11520, echoCount := 4 }
    cap := { fresh.cap with station := .listening }
    moment := still }

/-- The block tick and the agreement instant at SC 4,800 still to be taken. -/
def due : Part := { ready with moment := Moment.reset }

/-- A part with nothing waiting. -/
def on (p : Part) : State := ⟨[], p⟩

/-- The part that a command leaves. -/
def after (c : Instr) (p : Part) : Part :=
  match exec c (on p) with
  | .next t => t.part
  | _ => p

/-- A peer that is settled, with an offset and lag maxima. -/
def settledPeer (offset : Int) (lag : Nat) : PeerRecord :=
  { PeerRecord.cleared with
    state := .present, serial := some 7
    announced := some ⟨true, .tracking, 12000, 1, Vector.replicate 8 .comm, none⟩
    echoDelay := some 11616, offset := some offset, measurements := 40, lagCurrent := lag }

/-- A part with a station record set. -/
def withPeer (x : Station) (r : PeerRecord) (p : Part) : Part := p.mapPeer x fun _ => r

/-! ## Well-formedness -/

theorem test_loadEnd_short_record_refused : (Instr.loadEnd (List.replicate 61 0)).wellFormed = false := by decide

theorem test_loadEnd_long_record_refused : (Instr.loadEnd (List.replicate 63 0)).wellFormed = false := by decide

theorem test_loadEnd_whole_record_passes : (Instr.loadEnd (List.replicate 62 0)).wellFormed = true := by decide

theorem test_unknownMessage_good_frame_refused :
    (Instr.unknownMessage 0x07 [] 0xF9).wellFormed = false := by decide

theorem test_unknownMessage_long_payload_refused :
    (Instr.unknownMessage 0x55 (List.replicate 33 0) 0).wellFormed = false := by decide

theorem test_unknownMessage_bad_frame_passes : (Instr.unknownMessage 0x07 [] 0xF8).wellFormed = true := by decide

theorem test_panelFramingError_good_byte_refused : (Instr.panelFramingError true 0x20).wellFormed = false := by decide

theorem test_panelFramingError_bad_length_passes : (Instr.panelFramingError true 0x21).wellFormed = true := by decide

/-! ## No row has bits -/

theorem test_no_word_spells_a_command : decodeTableWord 16 0x1234 = none := by decide

theorem test_withFetchWord_changes_nothing : (on ready).withFetchWord 16 0x1234 = on ready := by rfl

/-! ## Worked cases of the manual -/

/-- 11.1: the check value of this CRC for 31H to 39H. -/
theorem test_crc_check_value :
    crc32 [0x31, 0x32, 0x33, 0x34, 0x35, 0x36, 0x37, 0x38, 0x39] = 0xCBF43926#32 := by decide +kernel

/-- 11.3: a FADER for group 2 at unity has check byte 7AH. -/
theorem test_check_byte_of_a_fader : panelFrame 0x01 [0x02, 0x80, 0x00] = [0x01, 0x03, 0x02, 0x80, 0x00, 0x7A] := by
  decide

/-- 1.5: the lengths that the three frames need. -/
theorem test_required_lengths :
    requiredFrameLength .audio 2 4 true = 1181 ∧ requiredFrameLength .audio 2 2 true = 603 ∧
      requiredFrameLength .talk 4 1 false = 599 := by decide

/-- 1.9: the echo delay moves 11,530, 11,527, 11,528, 11,527. -/
theorem test_echo_delay_settles :
    (((([11510, 11540, 11520].foldl (fun l e => Liu.takeEcho e l) (Liu.takeEcho 11530 Liu.reset))).echoDelay,
      ([11510, 11540, 11520].foldl (fun l e => Liu.takeEcho e l) (Liu.takeEcho 11530 Liu.reset)).echoCount)) =
      (some 11527, 4) := by decide

/-- 2.7: one offset measurement. -/
theorem test_offset_measurement :
    rawOffset 11520 11616 1011580 1000000 = 12 ∧
      ((settledPeer 176 0).measure 12).offset = some 178 ∧ ((settledPeer 176 0).measure 12).measurements = 41 := by
  decide

/-- 2.7: an outlier run ends at the fourth outlier. -/
theorem test_outlier_run :
    ([588, 589, 587].foldl (fun r x => PeerRecord.measure x r) (settledPeer 178 0)).offset = some 178 ∧
      ([588, 589, 587, 588].foldl (fun r x => PeerRecord.measure x r) (settledPeer 178 0)).offset = some 9408 ∧
      ([588, 589, 587, 588, 590].foldl (fun r x => PeerRecord.measure x r) (settledPeer 178 0)).offset =
        some 9412 := by decide

/-- 2.8: a lag sample. -/
theorem test_lag_sample : lagSample 1011580 21000 1 = 3532 := by decide

/-- 3.13: the consensus of 0, 178, -40 and 300, and the trim it leaves. -/
theorem test_trim_update :
    consensus [0, 178, -40, 300] = 89 ∧ (Tau.trimUpdate 89 { ready.tau with integral := -150 }).integral = -155 ∧
      (Tau.trimUpdate 89 { ready.tau with integral := -150 }).trim = -511 := by decide

/-- 3.13: a step of 13 blocks. -/
theorem test_step_size : stepSize (-10000) = -624 ∧ correctionAfter 0 (-10000) = 624 := by decide

/-- 4.3: a block sum of 48. -/
theorem test_block_sum : sampleSum (List.replicate 48 (-1) ++ List.replicate 48 2) = 48 := by decide +kernel

/-- 7.6: the concealed values from a copy at 800,000, and a recovering one. -/
theorem test_concealment :
    (LaneRecord.sampleAt ⟨.concealing 0, List.replicate 48 800000, false, false, false, 0⟩ 47,
      LaneRecord.sampleAt ⟨.concealing 1, List.replicate 48 800000, false, false, false, 0⟩ 0,
      LaneRecord.sampleAt ⟨.concealing 1, List.replicate 48 800000, false, false, false, 0⟩ 47,
      LaneRecord.sampleAt ⟨.concealing 3, List.replicate 48 800000, false, false, false, 0⟩ 47,
      LaneRecord.sampleAt ⟨.recovering, List.replicate 48 (-300000), false, false, false, 0⟩ 47) =
      (408333, 400000, 204166, 51041, -293750) := by decide

/-- 8.3: a fader opened, linear and eased, and pulled back. -/
theorem test_fader_ramps :
    (GroupRamp.valueAt ⟨0, 10, .linear, 0⟩ 32768 3, GroupRamp.valueAt ⟨0, 10, .eased, 0⟩ 32768 3,
      GroupRamp.valueAt ⟨0, 10, .eased, 0⟩ 32768 7, GroupRamp.valueAt ⟨9830, 10, .linear, 0⟩ 0 1) =
      (9830, 7077, 25690, 8847) := by decide

/-- 8.5: a duck and its release. -/
theorem test_duck_levels :
    (duckStep 32768 (some ⟨32768, 8192, 0⟩)).1 = 30311 ∧ (duckStep 20480 (some ⟨32768, 8192, 5⟩)).1 = 18023 ∧
      (duckStep 18023 (some ⟨18023, 32768, 0⟩)).1 = 19497 ∧ scale 1925000 30311 = 1780660 := by decide

/-- 8.6: the dither register from 1, and the output it leaves. -/
theorem test_dither_and_output :
    (ditherAdvance 1 = 0x80200003#32 ∧ ditherAdvance 0x80200003#32 = 0xC0300002#32 ∧
      ditherAdvance 0x60180001#32 = 0xB02C0003#32) ∧
      reduceWord ⟨.w16, true, false, false⟩ 1 1925000 = 1924608 ∧
      reduceWord ⟨.w16, false, false, false⟩ 1 8388607 = 8388352 ∧
      reduceWord ⟨.w16, false, false, false⟩ 1 (-1000) = -1024 := by decide

/-- The record of 11.5's worked case, up to its last field. -/
def worked : List Byte :=
  [0x03, 1, 2, 3, 0, 0, 0, 0, 0, 0x04, 0x04, 0x00, 0x4B, 0x00, 0x01, 0xE0, 0x00, 0xFA, 0x00, 0x20, 0xC5, 0x07, 0xD0,
    0x20, 0x00] ++ (List.replicate 8 [0x18, 0x00, 0x01, 0x01]).flatten ++ [0]

/-- 11.5: the fields read from a record. -/
theorem test_record_fields :
    let t := readSettings .venue worked
    [t.laneCount, t.span, t.hmin, t.hmax, t.guardTime, t.slipRate, t.silenceThreshold, t.silenceTime, t.duckGain] =
      [3, 4, 1024, 19200, 480, 250, 8389, 2000, 8192] := by decide +kernel

/-! ## A step, a command -/

/-- An empty queue idles (log 10). -/
theorem test_empty_queue_idles : step (on ready) = .next (on ready) := rfl

theorem test_witness_StepTakesTheFrontCommand :
    (⟨[.take, .talkOff], ready⟩ : State).pending = .take :: [.talkOff] := rfl

/-- Straps 15 name station 16. -/
theorem test_witness_ResetsLeaveTheResetValues :
    (after (.resetPin 15 .gallery) ready).sul.own.number = 16 ∧ (after (.powerOnReset 0 .venue) ready).tau.sc = 0 := by
  decide +kernel

/-! ## Start-up -/

/-- The worked record with its CRC. -/
def record : List Byte := worked ++ crcBytes worked

theorem test_witness_LoadedSettingsStayInRange : record.length = 62 := by decide +kernel

theorem test_witness_LoadEndTakesAUsableRecord :
    fresh.cap.station = .loading ∧ record.length = 62 ∧ usableRecord record = true := by decide +kernel

theorem test_witness_LoadEndDefaultsABadRecord :
    fresh.cap.station = .loading ∧ (List.replicate 62 (0xFF : Byte)).length = 62 ∧
      usableRecord (List.replicate 62 0xFF) = false ∧ fresh.faults.list = [] ∧ fresh.faults.marks = [] ∧
      fresh.pnl.reports.length ≤ 30 := by decide +kernel

/-- A load begins the station in LISTENING, with the record's settings. -/
theorem test_loadEnd_takes_the_record :
    (after (.loadEnd record) fresh).cap.station = .listening ∧ (after (.loadEnd record) fresh).settings.span = 4 ∧
      (after (.loadEnd record) fresh).sul.source = .loaded := by decide +kernel

/-! ## Messages -/

theorem test_witness_FaderStartsARamp :
    ready.cap.station ≠ .loading ∧ (0x01 : Byte).toNat = (0 : GroupIx).val + 1 ∧
      (0x08 : Byte).toNat = (7 : GroupIx).val + 1 := by decide

theorem test_witness_SlopeGovernsTheNextRamp :
    ready.cap.station ≠ .loading ∧ (0x08 : Byte).toNat = (7 : GroupIx).val + 1 ∧
      (500 : BitVec 16).toNat ∈ [0, 1, 2, 10, 50, 100, 200, 500] ∧
      (0 : BitVec 16).toNat ∈ [0, 1, 2, 10, 50, 100, 200, 500] ∧ ((0x01 : Byte) = 0x00 ∧ RampShape.eased = .linear ∨
        (0x01 : Byte) = 0x01 ∧ RampShape.eased = .eased) := by decide

/-- The 32 streams of stations 1 to 4. -/
def thirtyTwo : List (Station × ProgLane) :=
  (List.range 32).map fun i => (⟨i / 8 % 16, Nat.mod_lt _ (by decide)⟩, ⟨i % 8, Nat.mod_lt _ (by decide)⟩)

/-- A part with a selection set. -/
def selected (xs : List (Station × ProgLane)) : Part := { ready with pnl := { ready.pnl with selection := xs } }

theorem test_witness_SelectBuildsTheSelectionSet :
    ready.cap.station ≠ .loading ∧ ((0x00 : Byte).toNat = 0 ∧ 16 < (0x11 : Byte).toNat ∧ 7 < (0x08 : Byte).toNat) ∧
      ((0x10 : Byte).toNat = (15 : Station).val + 1 ∧ (0x07 : Byte).toNat = (7 : ProgLane).val) ∧
      (((3, 7) : Station × ProgLane) ∈ (selected thirtyTwo).pnl.selection) ∧
      (((15, 7) : Station × ProgLane) ∉ (selected (thirtyTwo.drop 1)).pnl.selection ∧
        (selected (thirtyTwo.drop 1)).pnl.selection.length < 32) ∧
      (((15, 7) : Station × ProgLane) ∉ (selected thirtyTwo).pnl.selection ∧
        32 ≤ (selected thirtyTwo).pnl.selection.length) ∧
      (selected thirtyTwo).pnl.selection.Nodup ∧ exec .take (on ready) = .next (on (after .take ready)) := by
  refine ⟨by decide, by decide, by decide, by decide, by decide, by decide, by decide +kernel, rfl⟩

theorem test_witness_AssignAndFallbackWriteTheSelection :
    ready.cap.station ≠ .loading ∧ (0x08 : Byte).toNat = (8 : Fin 9).val ∧ (0x00 : Byte).toNat = (0 : Fin 9).val ∧
      (0x07 : Byte).toNat = (7 : ProgLane).val ∧ (0xFF : Byte) = 0xFF := by decide

theorem test_witness_MatrixAndTakePrepareTheExchange :
    ready.cap.station ≠ .loading ∧ (0x07 : Byte).toNat = (7 : OutputNo).val ∧
      (0x08 : Byte).toNat = (7 : GroupIx).val + 1 := by decide

/-- Meters on, one block tick short of a report. -/
def metering : Part := { due with mxe := { due.mxe with metersOn := true, meterCount := 19 } }

theorem test_witness_MetersBeginAfreshAndReport :
    ready.cap.station ≠ .loading ∧ metering.cap.station ≠ .loading ∧ metering.moment.due .meter ∧
      metering.mxe.metersOn = true ∧ metering.mxe.meterCount = 19 := by decide

theorem test_witness_LoadingRefusesTheMixMessages :
    fresh.cap.station = .loading ∧ (∃ g l, Instr.fader 1 0 = .fader g l ∧ (0x01 : Byte) = 0x01) ∧
      ∃ x k, Instr.select 1 0 = .select x k := by
  exact ⟨by decide, ⟨1, 0, rfl, rfl⟩, 1, 0, rfl⟩

theorem test_witness_FieldsOutOfRangeAreRefused :
    ready.cap.station ≠ .loading ∧ ((0x00 : Byte).toNat = 0 ∧ 8 < (0x09 : Byte).toNat) ∧
      ((3 : BitVec 16).toNat ∉ [0, 1, 2, 10, 50, 100, 200, 500] ∧ 1 < (0x02 : Byte).toNat) ∧
      (8 < (0x09 : Byte).toNat ∧ (0x09 : Byte) ≠ 0xFF) ∧ (7 < (0x08 : Byte).toNat ∧ (0x08 : Byte) ≠ 0xFF) ∧
      16 < (0x11 : Byte).toNat := by decide

/-- A station in CONFLICT, and one in ACQUIRING. -/
def inConflict : Part := { ready with cap := { ready.cap with station := .conflict } }
def acquiring : Part := { ready with tau := { ready.tau with mode := .acquiring } }

theorem test_witness_TalkMovesTheSession :
    (0x10 : Byte).toNat ≤ 16 ∧ ready.cap.station ≠ .conflict ∧ ready.tau.mode.settled = true ∧
      inConflict.cap.station = .conflict ∧ acquiring.cap.station ≠ .conflict ∧
      acquiring.tau.mode.settled = false := by decide

/-- A talk session opened to one station moves to another by SWITCHING. -/
theorem test_talk_switches_the_destination :
    (after (.talk 0x05) { ready with cap := { ready.cap with session := .opened 0x03 } }).cap.session =
      .switching 0x03 0x05 := by decide

/-- A Panel Line holding one report. -/
def reporting : Part := ready.emit (refusedReport .range 0x03)

/-- A full report queue: 31 reports that are no METER, and one of a kind. -/
def fullLine (last : ReportKind) : Pnl :=
  { ready.pnl with reports := List.replicate 31 ⟨.status, []⟩ ++ [⟨last, []⟩] }

theorem test_witness_QueriesQueueTheirReports :
    (ready.pnl.reports.length < 32 ∧ (0x10 : Byte).toNat = (15 : Station).val + 1 ∧ ready.pnl.reports = [] ∧
      reporting.pnl.reports = refusedReport .range 0x03 :: []) ∧
    (32 ≤ (fullLine .status).reports.length ∧ (⟨.meter, []⟩ : Report).kind = .meter ∧
      ∀ y ∈ (fullLine .status).reports, y.kind ≠ .meter) ∧
    (32 ≤ (fullLine .meter).reports.length ∧ (⟨.fault, []⟩ : Report).kind ≠ .meter ∧
      (fullLine .meter).reports = List.replicate 31 ⟨.status, []⟩ ++ ⟨.meter, []⟩ :: [] ∧
      ∀ y ∈ List.replicate 31 (⟨.status, []⟩ : Report), y.kind ≠ .meter) := by decide +kernel

/-- The 32 streams as fault records, the first of them ended. -/
def thirtyTwoFaults : List FaultRecord :=
  thirtyTwo.map fun x => ⟨laneLossKey x.1 x.2, none, decide (x ≠ (0, 0)), 5, 1⟩

/-- A part with a fault list and marks. -/
def faulty (list : List FaultRecord) (marks : List FaultKey) : Part := { ready with faults := ⟨list, marks, none⟩ }

theorem test_witness_RestartClearsTheReceiveSide :
    (faulty thirtyTwoFaults [laneLossKey 3 7]).cap.station ≠ .loading ∧
      ((faulty thirtyTwoFaults [laneLossKey 3 7]).faults.list.map (·.key)).Nodup ∧ fresh.cap.station = .loading := by
  decide +kernel

/-- RESTART reports the record it clears as ABSENT, and then the fault it ends (R25, R183). -/
theorem test_restart_reports :
    (after .restart (withPeer 4 (settledPeer 0 0) (faulty thirtyTwoFaults [laneLossKey 3 7]))).pnl.reports.map
        (fun r => (r.kind, r.payloads.map fun b => (b.getD 1 0, b.getD 2 0, b.getD 4 0))) =
      [(.peer, [(5, 0, 0)]), (.fault, [(4, 7, 2)])] := by decide +kernel

theorem test_witness_AckFaultsRemovesEndedRecords :
    ready.cap.station ≠ .loading ∧ fresh.cap.station = .loading ∧
      (ready.faults.isActive (FaultKey.plain .echoLost) = false ∧ ready.faults.list.length < 32 ∧
        ∀ r ∈ ready.faults.list, r.key ≠ FaultKey.plain .echoLost) ∧
      ((⟨laneLossKey 0 0, none, true, 5, 2⟩ : FaultRecord) ∈
          ((faulty thirtyTwoFaults []).raiseFault (laneLossKey 0 0)).faults.list ∧
        laneLossKey 0 0 ∉ (faulty thirtyTwoFaults []).faults.marks ∧
        ((faulty thirtyTwoFaults []).faults.list.map (·.key)).Nodup ∧ (laneLossKey 0 0).kind ≠ .overflow) ∧
      ((⟨laneLossKey 3 7, none, false, 5, 1⟩ : FaultRecord) ∈
          ((faulty thirtyTwoFaults [laneLossKey 3 7]).endFault (laneLossKey 3 7)).faults.list ∧
        laneLossKey 3 7 ∈ (faulty thirtyTwoFaults [laneLossKey 3 7]).faults.marks ∧
        ((faulty thirtyTwoFaults [laneLossKey 3 7]).faults.list.map (·.key)).Nodup) := by decide +kernel

theorem test_witness_UnknownMessagesAreRefused :
    (List.replicate 32 (0x00 : Byte)).length ≤ 32 ∧
      byteSum ((0x07 : Byte) :: BitVec.ofNat 8 ([] : List Byte).length :: [] ++ [0x00]) ≠ 0 ∧
      (byteSum ((0x0F : Byte) :: BitVec.ofNat 8 ([] : List Byte).length :: [] ++ [0xF1]) = 0 ∧
        14 < (0x0F : Byte).toNat) ∧
      (byteSum ((0x0E : Byte) :: BitVec.ofNat 8 [(0x00 : Byte)].length :: [0x00] ++ [0xF1]) = 0 ∧
        (0x0E : Byte).toNat ≤ 14 ∧
        [(0x00 : Byte)].length ≠ [0, 3, 4, 2, 1, 1, 4, 0, 1, 0, 1, 1, 2, 0, 0].getD (0x0E : Byte).toNat 0) := by
  decide +kernel

/-- A part whose panel framer stands in a state. -/
def framing (f : FramerState) (discard : Bool) : Part :=
  { ready with pnl := { ready.pnl with framer := f, discard := discard, msgType := 0x01, msgLength := 0x03 } }

theorem test_witness_PanelBytesMoveTheFramer :
    ((framing .waitType true).pnl.framer = .waitType ∧ (framing .waitType true).pnl.discard = true) ∧
      ((framing .waitType false).pnl.framer = .waitType ∧ (framing .waitType false).pnl.discard = false) ∧
      ((framing .waitLength false).pnl.framer = .waitLength ∧ (0x20 : Byte).toNat ≤ 32 ∧
        32 < (0x21 : Byte).toNat) ∧
      (framing .payload false).pnl.framer = .payload ∧ (framing .waitCheck false).pnl.framer = .waitCheck := by
  decide

theorem test_witness_PanelBytesSpellTheirMessage :
    ready.pnl.framer = .waitType ∧ ready.pnl.discard = false ∧
      byteSum [0x01, 0x03, 0x02, 0x80, 0x00, 0x7A] = 0 ∧ (List.replicate 32 (0x00 : Byte)).length ≤ 32 ∧
      (frameRefusal 0x55 (BitVec.ofNat 8 32) (List.replicate 32 0x00) 0x00).isSome = true ∧
      (frameRefusal 0x0F (BitVec.ofNat 8 0) [] 0xF1).isSome = true ∧
      frameRefusal 0x07 (BitVec.ofNat 8 ([] : List Byte).length) [] 0xF9 = none ∧
      ((0x00 : Byte).toNat = 0 ∧ 3 < (0x04 : Byte).toNat) := by decide +kernel

/-! ## The link -/

/-- A talk parcel of one block. -/
def talkParcel : Parcel := ⟨.talk, 100, 1, 0x00, true, none, [], [[List.replicate 48 0x000102]]⟩

/-- An AUDIO parcel of one lane and one block. -/
def audioParcel : Parcel := ⟨.audio, 2000, 1, 0x00, false, none, [⟨true, false⟩], [[List.replicate 48 0x000102]]⟩

/-- A part with a transmit queue. -/
def queued (q : List Parcel) (p : Part) : Part := { p with liu := { p.liu with queue := q } }

/-- A part of another station, with a serial and a mode. -/
def other (own : Station) (serial : Serial) (p : Part) : Part := { p with sul := { p.sul with own := own, serial := serial } }

/-- The bytes of a parcel that a part hands over. -/
def sent (p : Part) (x : Parcel) : List Byte := (p.frameOf x).bytes

/-- A part whose framer is collecting a frame that began at an arrival stamp. -/
def collecting (st : ArrivalStamp) (p : Part) : Part := { p with liu := { p.liu with rx := some st } }

/-- The arrival stamp of the tests. -/
def stamp : ArrivalStamp := ⟨16380, 16380⟩

/-- The bytes of a NOTICE of station 5, of the own station, and of a station of the own number with another serial. -/
def peerNotice : List Byte := sent (other 4 7 ready) waitingNotice
def ownNotice : List Byte := sent ready waitingNotice
def lowerNotice : List Byte := sent (other 0 999 ready) waitingNotice
def higherNotice : List Byte := sent (other 0 1001 ready) waitingNotice

/-- The bytes of a NOTICE of station 5, and of the own number, whose serial is 0, so that it is not good. -/
def badNotice : List Byte := sent (other 4 0 ready) waitingNotice
def ownBadNotice : List Byte := sent (other 0 0 ready) waitingNotice

theorem test_witness_HandoverNumbersAndStampsTheHead :
    ((queued [talkParcel] ready).liu.queue = talkParcel :: [] ∧ (queued [talkParcel] ready).liu.tx = none ∧
        (queued [talkParcel] ready).cap.station = .listening ∧ ready.moment.tauDue = false ∧
        ∀ e ∈ (queued [talkParcel] ready).liu.echoTable, e.sequence ≠ (queued [talkParcel] ready).liu.sequence) ∧
      ((queued [talkParcel] due).liu.queue ≠ [] ∧ (queued [talkParcel] due).liu.tx = none ∧
        (queued [talkParcel] due).cap.station = .listening ∧ (queued [talkParcel] due).moment.tauDue = true) ∧
      ready.liu.queue = [] ∧ fresh.cap.station = .loading ∧ inConflict.cap.station = .conflict := by decide

/-- The header of a NOTICE: kind 3, station 1, no flags, sequence 0, the stamp, and zeros (11.2). -/
theorem test_notice_header :
    ownNotice.take 18 = [0x03, 0x01, 0x00, 0x00, 0x00, 0x00, 0x00, 0x00, 0x00, 0x12, 0xC0, 0x00, 0x00, 0x00, 0x00,
      0x00, 0x00, 0x00] ∧ ownNotice.length = 46 := by decide +kernel

theorem test_witness_FailingFramesAreDroppedAndCounted :
    (collecting stamp ready).liu.rx = some stamp ∧ ready.liu.rx = none ∧
      ready.moment.tauDue = false ∧ due.moment.tauDue = true ∧
      (collecting stamp ready).cap.station ≠ .loading ∧ (collecting stamp fresh).cap.station = .loading ∧
      (List.replicate 21 (0x00 : Byte)).length < 22 ∧ crcAgrees (List.replicate 22 0x00) = false := by
  decide +kernel

theorem test_witness_OwnFramesMeasureTheEcho :
    let p := (collecting stamp ready)
    let echo : Nat → Part := fun sc => { p with liu := { p.liu with echoTable := [⟨0, BitVec.ofNat 48 sc⟩] } }
    p.liu.rx = some stamp ∧ p.cap.station ≠ .loading ∧
      goodFrame (decide (4641 < ownNotice.length)) (ownNotice.take 4641) = some (readParcel .notice ownNotice) ∧
      (readParcel .notice ownNotice).source = p.sul.own ∧
      noticeSerial (readParcel .notice ownNotice).notice = p.sul.serial ∧
      (readParcel .notice ownNotice).sequence = 0 ∧
      (∀ y ∈ p.liu.echoTable, y.sequence ≠ 0) ∧
      (∀ y ∈ (echo 4860).liu.echoTable, y.sequence = 0 ∧ (stamp.sc - y.sc).toNat = 11520) ∧
      (∀ y ∈ (echo (2 ^ 48 - 49155)).liu.echoTable, (stamp.sc - y.sc).toNat = 65535) ∧
      (∀ y ∈ (echo (2 ^ 48 - 49156)).liu.echoTable, 65535 < (stamp.sc - y.sc).toNat) ∧
      ((echo 4860).liu.echoTable.map (·.sequence)).Nodup := by decide +kernel

theorem test_witness_NoticeArrivalsUpdateTheRecord :
    let p := collecting stamp ready
    let known : Option Serial → Part := fun serial =>
      collecting stamp (withPeer 4 { settledPeer 0 0 with state := .lapsed, serial := serial } ready)
    ((goodFrame (decide (4641 < badNotice.length)) (badNotice.take 4641) = some (readParcel .notice badNotice) ∧
      (readParcel .notice badNotice).kind = .notice ∧ (readParcel .notice badNotice).source = 4 ∧
      goodNotice (readParcel .notice badNotice).notice = none) ∧
      ((known none).liu.rx = some stamp ∧ (known none).cap.station ≠ .loading ∧ (4 : Station) ≠ (known none).sul.own ∧
        ((known none).peer 4).state ≠ .absent ∧ ((known none).peer 4).serial = none) ∧
      ((known (some 7)).peer 4).serial = some 7 ∧ ((known (some 8)).peer 4).serial = some 8 ∧ (8 : Serial) ≠ 7) ∧
    p.liu.rx = some stamp ∧ p.cap.station ≠ .loading ∧
      goodFrame (decide (4641 < peerNotice.length)) (peerNotice.take 4641) = some (readParcel .notice peerNotice) ∧
      (readParcel .notice peerNotice).kind = .notice ∧
      (goodNotice (readParcel .notice peerNotice).notice).map (·.serial) = some 7 ∧
      (readParcel .notice peerNotice).source = 4 ∧ p.peer 4 = PeerRecord.cleared ∧
      (p.peer 4).state = .absent ∧ (4 : Station) ≠ p.sul.own := by decide +kernel

/-- The NOTICE's arrival makes the peer PRESENT. -/
theorem test_notice_makes_the_peer_present :
    ((after (.linkRxframeRelease peerNotice) (collecting stamp ready)).peer 4).state = .present ∧
      ((after (.linkRxframeRelease peerNotice) (collecting stamp ready)).peer 4).offset = some 960 := by
  decide +kernel

/-- A NOTICE that is not good leaves a peer first heard JOINING, with one format count and one report (R27, R33). -/
theorem test_bad_notice_begins_a_record :
    let t := after (.linkRxframeRelease badNotice) (collecting stamp ready)
    ((t.peer 4).state, (t.peer 4).format, t.pnl.reports.length) = (.joining, 1, 1) := by decide +kernel

theorem test_witness_ConflictIsLostOrWonBySerial :
    let p := collecting stamp ready
    p.liu.rx = some stamp ∧ p.cap.station ≠ .loading ∧ p.cap.station ≠ .conflict ∧
      (collecting stamp inConflict).cap.station = .conflict ∧
      (goodFrame (decide (4641 < lowerNotice.length)) (lowerNotice.take 4641) =
          some (readParcel .notice lowerNotice) ∧ (readParcel .notice lowerNotice).kind = .notice ∧
        (readParcel .notice lowerNotice).source = p.sul.own ∧
        ((goodNotice (readParcel .notice lowerNotice).notice).map fun v =>
          decide (v.serial.toNat < p.sul.serial.toNat)) = some true) ∧
      (goodFrame (decide (4641 < higherNotice.length)) (higherNotice.take 4641) =
          some (readParcel .notice higherNotice) ∧ (readParcel .notice higherNotice).source = p.sul.own ∧
        ((goodNotice (readParcel .notice higherNotice).notice).map fun v =>
          decide (p.sul.serial.toNat < v.serial.toNat)) = some true) ∧
      (goodFrame (decide (4641 < ownBadNotice.length)) (ownBadNotice.take 4641) =
          some (readParcel .notice ownBadNotice) ∧ (readParcel .notice ownBadNotice).kind = .notice ∧
        goodNotice (readParcel .notice ownBadNotice).notice = none ∧
        (readParcel .notice ownBadNotice).source = p.sul.own ∧
        noticeSerial (readParcel .notice ownBadNotice).notice ≠ p.sul.serial) := by decide +kernel

theorem test_witness_NoticeHandedOverReadsBack :
    let p := { ready with liu := { ready.liu with echoDelay := some 65535 } }
    waitingNotice.kind = .notice ∧ waitingNotice.blocks = [] ∧ p.sul.serial ≠ 0 ∧ p.cap.station = .listening ∧
      p.liu.echoDelay = some 65535 ∧ 0 ≤ p.horizon ∧ p.horizon < 16777216 ∧ p.settings.laneCount ≤ 8 ∧
      (∀ k : ProgLane, p.settings.laneCount ≤ k.val → p.settings.roles[k] = .none) ∧
      p.cap.session.announced = none := by decide +kernel

theorem test_witness_AudioAndTalkFramesReadBack :
    (1 ≤ audioParcel.blocks.length ∧ audioParcel.blocks.length ≤ 4 ∧
      (∀ b ∈ audioParcel.blocks, b.length = audioParcel.laneCount ∧ ∀ lane ∈ b, lane.length = 48) ∧
      audioParcel.kind = .audio ∧ 1 ≤ audioParcel.laneCount ∧ audioParcel.laneCount ≤ 8 ∧
      audioParcel.laneFlags.length = audioParcel.laneCount ∧ audioParcel.endFlag = false) ∧
    (∀ b ∈ talkParcel.blocks, b.length = talkParcel.laneCount ∧ ∀ lane ∈ b, lane.length = 48) ∧
      talkParcel.kind = .talk ∧ talkParcel.laneCount = 1 ∧ talkParcel.laneFlags = [] ∧
      talkParcel.digest = none := by decide +kernel

theorem test_witness_NoticeDueQueuesANotice :
    let p := { due with liu := { due.liu with noticeCount := 99 } }
    p.moment.due .notice ∧ p.cap.station = .listening ∧
      (if p.tau.mode = .tracking ∨ p.tau.mode = .holdover then 100 else 20) ≤ p.liu.noticeCount + 1 ∧
      p.liu.queue.length < 8 ∧ 8 ≤ (queued (List.replicate 8 talkParcel) p).liu.queue.length ∧
      talkParcel.kind ≠ .notice ∧ audioParcel.kind ≠ .notice ∧
      (∀ y ∈ (queued (List.replicate 8 waitingNotice) p).liu.queue, y.kind = .notice) := by decide

/-! ## Quiet counts, faults and peers -/

/-- Every quiet count one block tick short of its end, with its fault active. -/
def quiet : Part :=
  { due with
    liu := { due.liu with txQuiet := 999, cleanBlocks := 999, echoLostCount := 499 }
    ast := { due.ast with quiet := 999 }
    ptb := { due.ptb with winCount := 4999, lagWindow := 999 }
    tau := { due.tau with resyncTimer := 1 }
    faults := ⟨[], [FaultKey.plain .txOverrun, FaultKey.plain .storeFull], some .won⟩ }

theorem test_witness_QuietCountsEndTheirFaults :
    quiet.cap.station ≠ .loading ∧ quiet.cap.station ≠ .conflict ∧
      (quiet.moment.due .txQuiet ∧ FaultKey.plain .txOverrun ∈ quiet.faults.marks ∧ 999 ≤ quiet.liu.txQuiet) ∧
      (quiet.moment.due .cleanBlocks ∧ quiet.liu.cleanBlocks = 999) ∧
      (quiet.moment.due .storeQuiet ∧ FaultKey.plain .storeFull ∈ quiet.faults.marks ∧ 999 ≤ quiet.ast.quiet) ∧
      (quiet.moment.due .win ∧ quiet.faults.conflict = some .won ∧ 4999 ≤ quiet.ptb.winCount) ∧
      (quiet.moment.due .echoLost ∧ quiet.liu.echoLostCount = 499) := by decide

theorem test_witness_FaultListFollowsRaisesAndEnds :
    let key := FaultKey.plain .echoLost
    let ended : FaultRecord := ⟨key, none, false, 5, 255⟩
    let full : FaultRecord := ⟨FaultKey.plain .overflow, none, false, 5, 1⟩
    (thirtyTwoFaults.map (·.key)).Nodup ∧ 32 ≤ thirtyTwoFaults.length ∧
      ((thirtyTwoFaults.drop 1 ++ [full]).map (·.key)).Nodup ∧ 32 ≤ (thirtyTwoFaults.drop 1 ++ [full]).length ∧
      key ∈ (faulty [] [key]).faults.marks ∧ (key ∉ (faulty [] []).faults.marks ∧
        (faulty [] []).faults.list.length < 32) ∧
      (ended ∈ (faulty [ended] []).faults.list ∧ ended.key = key ∧ ended.active = false) ∧
      (full ∈ (faulty (thirtyTwoFaults.drop 1 ++ [full]) []).faults.list ∧ full.key = FaultKey.plain .overflow ∧
        ∀ y ∈ (faulty (thirtyTwoFaults.drop 1 ++ [full]) []).faults.list, y.key ≠ key) ∧
      (∀ y ∈ (faulty thirtyTwoFaults []).faults.list, y.key ≠ key ∧ y.key ≠ FaultKey.plain .overflow) ∧
      ((⟨key, none, true, 5, 1⟩ : FaultRecord) ∈ (faulty [⟨key, none, true, 5, 1⟩] [key]).faults.list) ∧
      (let won : FaultRecord := ⟨⟨.numberConflict, .station 0⟩, some .won, true, 5, 255⟩
       let held : Part := { faulty [won] [] with faults := ⟨[won], [], some .won⟩ }
       (won ∈ held.faults.list ∧ won.key = ⟨.numberConflict, .station held.sul.own⟩ ∧ (held.faults.list.map (·.key)).Nodup ∧
          held.faults.conflict = some .won ∧ won.active = true ∧ won.detail = some .won) ∧
        ((∀ r ∈ (faulty [] []).faults.list, r.key ≠ won.key) ∧ (faulty [] []).faults.list.length < 32) ∧
        (∀ y ∈ (faulty thirtyTwoFaults []).faults.list, y.key ≠ won.key ∧ y.key ≠ full.key) ∧
        (∀ y ∈ (faulty (thirtyTwoFaults.drop 1 ++ [full]) []).faults.list, y.key ≠ won.key) ∧
        (faulty [won] []).faults.conflict ≠ some .won ∧
        ∀ r ∈ ({ held with faults := ⟨[{ won with detail := some .lost }], [], some .won⟩ } : Part).faults.list,
          r.key = won.key → r.active = false ∨ r.detail ≠ some .won) := by
  decide +kernel

/-- A peer JOINING or LAPSED, one block tick short of its expiry, and PRESENT, one short of lapsing. -/
def joining : Part := withPeer 4 { PeerRecord.cleared with state := .joining, joinCount := 999 } due
def lapsed : Part := withPeer 4 { settledPeer 0 0 with state := .lapsed, quietCount := 5199 } due
def lapsing : Part := withPeer 4 { settledPeer 0 0 with quietCount := 199 } due

theorem test_witness_ExpiriesRemoveTheRecord :
    (joining.cap.station ≠ .loading ∧ (joining.peer 4).state = .joining ∧ 999 ≤ (joining.peer 4).joinCount ∧
      joining.moment.due (.join 4)) ∧
    (lapsed.cap.station ≠ .loading ∧ (lapsed.peer 4).state = .lapsed ∧ 5199 ≤ (lapsed.peer 4).quietCount ∧
      lapsed.moment.due (.quiet 4)) := by decide

theorem test_witness_LapseKeepsTheRecord :
    lapsing.cap.station ≠ .loading ∧ lapsing.moment.due (.quiet 4) ∧ (lapsing.peer 4).state = .present ∧
      (lapsing.peer 4).quietCount = 199 := by decide

/-- A lapse raises PEER_LAPSED and keeps the values. -/
theorem test_lapse_raises_the_fault :
    (after (.peerLapse 4) lapsing).faults.isActive (peerLapsedKey 4) = true ∧
      ((after (.peerLapse 4) lapsing).peer 4).offset = some 0 := by decide +kernel

theorem test_witness_TimersExpireAtABlockTick :
    let p := withPeer 4 { settledPeer 0 0 with resyncSeen := 1 } quiet
    p.cap.station ≠ .loading ∧ (p.moment.due (.resyncSeen 4) ∧ (p.peer 4).resyncSeen = 1) ∧
      (p.moment.due .lagWindow ∧ 999 ≤ p.ptb.lagWindow) ∧
      (p.moment.due .resyncTimer ∧ p.moment.stepped = false ∧ p.tau.resyncTimer = 1) := by decide

/-! ## The sample clock and playout -/

/-- Playout at a position. -/
def playing (pos : SampleCount) : Part := { ready with plu := { ready.plu with position := some pos, target := 1440 } }

/-- Playout one sample period short of a slip decision. -/
def atSlip : Part := { playing 94 with plu := { (playing 94).plu with slipPhase := ready.settings.slipRate - 1 } }

theorem test_witness_SamplePeriodInsideABlock :
    ready.moment.idle ∧ ready.plu.owed = none ∧ ready.plu.position = none ∧
      ((playing 94).moment.idle ∧ (playing 94).plu.owed = none ∧ (playing 94).plu.position = some 94 ∧
        (94 : SampleCount).toNat % 48 ≠ 47 ∧ (94 : SampleCount).toNat + 1 < 2 ^ 48 ∧
        (playing 94).plu.slipPhase + 1 < (playing 94).settings.slipRate) ∧
      (MoveTime.held ≠ .now ∧ atSlip.moment.idle ∧ atSlip.plu.owed = none ∧ atSlip.plu.position = some 94 ∧
        atSlip.settings.slipRate ≤ atSlip.plu.slipPhase + 1) ∧
      (∀ w ∈ [SwitchState.onPrimary, .toFallback, .onFallback, .toPrimary],
        (laneSet ready.mxe.switches 4 0 ⟨w, some 1, 0⟩)[(4 : Station)][(0 : ProgLane)] = ⟨w, some 1, 0⟩) ∧
      ((⟨.concealing 3, silentBlock, false, false, false, 0⟩ : LaneRecord).state = .concealing 3 ∧
        (⟨.playing, silentBlock, false, false, false, 0⟩ : LaneRecord).state = .playing ∧
        (⟨.recovering, silentBlock, false, false, false, 0⟩ : LaneRecord).state = .recovering ∧
        LaneRecord.reset.state = .idle) := by decide +kernel

/-- What is left of a moment as its work is taken: the instant, the Capture Block's work, the Playout Unit's turn and
the tick, and each of these commands is taken then. -/
theorem test_witness_SamplePeriodInsideABlock_ties :
    let left (trim control plu : Bool) : Part := { due with
      moment := { Moment.reset with tauDue := trim, trimDue := trim, controlDue := control, pluDue := plu } }
    (due.plu.owed = none ∧ due.moment.trimDue = true) ∧
      (left false true true).moment.trimDue = false ∧ (left false true true).moment.controlDue = true ∧
      (left false false true).moment.controlDue = false ∧ (left false false true).moment.pluDue = true ∧
      (left false false true).plu.position = none ∧
      (left false false false).moment.pluDue = false ∧ (left false false false).moment.tick = true ∧
      (∀ x ∈ [(Instr.agreementInstant .timeFirst, due), (.goOnAir, left false true true),
          (.playoutStart, left false false true), (.blockTick, left false false false),
          (.slipDecision .evaluationFirst, { playing 94 with plu := { (playing 94).plu with owed := some .slip } })],
        (match exec x.1 (on x.2) with | .next _ => true | _ => false) = true) := by decide +kernel

/-- A concealed block halves from block to block and fades within one; a recovering one fades in (7.6). -/
theorem test_lane_fades :
    let lane : LaneState → LaneRecord := fun st => ⟨st, List.replicate 48 800000, false, false, false, 0⟩
    ((lane (.concealing 0)).sampleAt 47, (lane (.concealing 1)).sampleAt 0, (lane (.concealing 3)).sampleAt 47,
      ({ lane .recovering with copy := List.replicate 48 (BitVec.ofInt 24 (-300000)) }).sampleAt 47) =
      (408333, 400000, 51041, -293750) := by decide +kernel

/-- SC 4,799 to 4,800 is a block tick and an agreement instant; 4,800 to 4,801 is neither. -/
theorem test_sample_period_begins_a_moment :
    let x := Instr.samplePeriod (Vector.replicate 8 5) 6 .now .evaluationFirst
    (after x { ready with tau := { ready.tau with sc := 4799 } }).moment = Moment.reset ∧
      (after x ready).moment = still ∧ (after x ready).tau.sc = 4801 ∧ (after x ready).cap.input.talk = 6 := by
  decide +kernel

/-- Playout at the last sample of block 63, with a window entry whose digest agrees, disagrees, or is absent. -/
def crossing (expected : Option Sample) (fills : Nat) : Part :=
  { withPeer 4 (settledPeer 0 0) (playing 3071) with
    imn := (Vector.replicate 16 DigestRecord.reset).set 4 ⟨[⟨0, expected, 9, fills, false⟩], 2, false, none⟩ }

theorem test_witness_CrossingEntersTheNextBlock :
    let p := crossing (some 9) 64
    p.moment.idle ∧ p.plu.owed = none ∧ p.plu.position = some 3071 ∧ (3071 : SampleCount).toNat % 48 = 47 ∧
      (3071 : SampleCount).toNat + 1 < 2 ^ 48 ∧ p.plu.slipPhase + 1 < p.settings.slipRate ∧ (4 : Station) ≠ p.sul.own ∧
      ((playing 47).plu.position = some 47 ∧ (blockOf 47).toNat % 64 ≠ 63) ∧
      ((playing 281474976710655).moment.idle ∧ (playing 281474976710655).plu.owed = none ∧
        (playing 281474976710655).plu.position = some 281474976710655 ∧
        (281474976710655 : SampleCount).toNat + 1 = 2 ^ 48) := by decide +kernel

/-- An expected lane that finds its block absent for the fifth time is MUTED, and LANE_LOSS is raised (7.6). -/
theorem test_lane_loss_at_an_entry :
    let p := withPeer 4 (settledPeer 0 0) (playing 47)
    let q := { p with plu := { p.plu with
      lanes := p.plu.lanes.set 4 ((Vector.replicate 9 LaneRecord.reset).set 0
        ⟨.concealing 3, silentBlock, false, false, false, 0⟩) } }
    (after (.samplePeriod (Vector.replicate 8 0) 0 .now .evaluationFirst) q).faults.marks = [laneLossKey 4 0] := by
  decide +kernel

/-- The move from 2^48 − 1 ends at 0 with the slip phase at 0 (R113, R120). -/
theorem test_move_past_the_top :
    let p := after (.samplePeriod (Vector.replicate 8 0) 0 .now .evaluationFirst) (playing 281474976710655)
    p.plu.position = some 0 ∧ p.plu.slipPhase = 0 := by decide +kernel

theorem test_witness_LanesFollowTheEntryTables :
    ¬(talkLane = talkLane ∧ LaneRecord.reset.endSeen = true ∧
        (LaneRecord.reset.state = .playing ∨ LaneRecord.reset.state = .recovering)) ∧ LaneRecord.reset.state = .idle ∧
      (⟨.concealing 2, silentBlock, false, false, false, 0⟩ : LaneRecord).state = .concealing 2 ∧
      (3 : Fin 4).val = (2 : Fin 4).val + 1 ∧
      ((⟨.muted, silentBlock, false, false, false, 99⟩ : LaneRecord).state = .muted ∧
        (⟨.muted, silentBlock, false, false, true, 99⟩ : LaneRecord).mutedCount < 100 ∧
        100 ≤ (⟨.muted, silentBlock, false, false, true, 100⟩ : LaneRecord).mutedCount) ∧
      ((⟨.playing, silentBlock, false, false, true, 0⟩ : LaneRecord).endSeen = true ∧
        (⟨.playing, silentBlock, false, false, true, 0⟩ : LaneRecord).state = .playing) := by decide

/-- A crossing with a ramp at its last block, one short of it, and a duck ramp at its last block. -/
def ramping : Part :=
  { crossing (some 9) 64 with
    mxe := { fresh.mxe with
      groups := (fresh.mxe.groups.set 0 ⟨9, 0, 10, .linear, some ⟨100, 10, .linear, 9⟩⟩).set 1
        ⟨9, 0, 10, .eased, some ⟨100, 10, .eased, 8⟩⟩
      duckLevel := 31000, duckRamp := some ⟨30000, 32768, 9⟩ } }

theorem test_witness_RampsAdvanceAtABoundary :
    (ramping.moment.idle ∧ ramping.plu.owed = none ∧ ramping.plu.position = some 3071 ∧
      blockOf (3071 + 1) ≠ blockOf 3071 ∧ ramping.plu.slipPhase + 1 < ramping.settings.slipRate) ∧
      (ramping.mxe.groups[(7 : GroupIx)].ramp = none ∧
        ramping.mxe.groups[(0 : GroupIx)].ramp = some ⟨100, 10, .linear, 9⟩ ∧ 10 ≤ 9 + 1 ∧
        ramping.mxe.groups[(1 : GroupIx)].ramp = some ⟨100, 10, .eased, 8⟩ ∧ 8 + 1 < 10) ∧
      (∀ x : Station, x ≠ ramping.sul.own →
        ((after (.samplePeriod (Vector.replicate 8 0) 0 .now .readersFirst) ramping).plu.lane x talkLane).state ≠
            .playing ∧
          ((after (.samplePeriod (Vector.replicate 8 0) 0 .now .readersFirst) ramping).plu.lane x talkLane).state ≠
            .recovering) ∧
      ramping.mxe.duckRamp = some ⟨30000, 32768, 9⟩ ∧ (crossing none 0).mxe.duckRamp = none ∧
      (crossing none 0).mxe.duckLevel = 32768 := by decide +kernel

theorem test_witness_WindowsAreEvaluatedAsPlayoutLeavesThem :
    (blockOf 3071).toNat % 64 = 63 ∧ (4 : Station) ≠ (crossing (some 9) 64).sul.own ∧
      (crossing (some 9) 64).imn[(4 : Station)].entries.find? (fun w => w.window == (blockOf 3071).toNat / 64) =
        some ⟨0, some 9, 9, 64, false⟩ ∧
      ((crossing (some 9) 64).peer 4).announced.map (·.laneCount) = some 1 ∧
      (crossing (some 8) 64).imn[(4 : Station)].entries.find? (fun w => w.window == (blockOf 3071).toNat / 64) =
        some ⟨0, some 8, 9, 64, false⟩ ∧
      (crossing none 64).imn[(4 : Station)].entries.find? (fun w => w.window == (blockOf 3071).toNat / 64) =
        some ⟨0, none, 9, 64, false⟩ ∧
      (crossing (some 8) 64).imn[(4 : Station)].suspect = false ∧
      (crossing (some 8) 64).imn[(4 : Station)].mismatchRun = 2 := by decide +kernel

/-- A third mismatch makes the peer suspect. -/
theorem test_third_mismatch_is_suspect :
    (after (.samplePeriod (Vector.replicate 8 0) 0 .now .evaluationFirst)
      (crossing (some 8) 64)).imn[(4 : Station)].suspect = true := by decide +kernel

/-- Sixteen samples of 000102H, and the header and lane flags of station 5's AUDIO parcel: one lane, SILENT, one block 2,000. -/
def sixteen : List Byte := (List.replicate 16 [0x00, 0x01, 0x02]).flatten
def audioFront : List Byte :=
  [0x01, 0x05, 0x00, 0x00, 0x00, 0x00, 0x00, 0x00, 0x00, 0x12, 0xC0, 0x00, 0x00, 0x07, 0xD0, 0x01, 0x01, 0x00, 0x01]

/-- The bytes of station 5's AUDIO parcel, with the CRC that another program computes over them. -/
def peerAudio : List Byte :=
  audioFront ++ sixteen ++ sixteen ++ sixteen ++ [0xCF, 0xF4, 0xB8, 0x63]

theorem test_audio_crc : crcAgrees peerAudio = true := by
  have h1 : (audioFront ++ sixteen).foldl crcByte 0xFFFFFFFF#32 = 0x972559B7#32 := by decide +kernel
  have h2 : sixteen.foldl crcByte 0x972559B7#32 = 0x6E640ADE#32 := by decide +kernel
  have h3 : sixteen.foldl crcByte 0x6E640ADE#32 = 0x9C470B30#32 := by decide +kernel
  have front : peerAudio.take (peerAudio.length - 4) = audioFront ++ sixteen ++ sixteen ++ sixteen := by decide +kernel
  have back : leNat (peerAudio.drop (peerAudio.length - 4)) = 0x63B8F4CF := by decide +kernel
  rw [crcAgrees, front, back, crc32, List.foldl_append, List.foldl_append, h1, h2, h3]
  decide

theorem test_audio_frame_is_good :
    goodFrame (decide (4641 < peerAudio.length)) (peerAudio.take 4641) = some (readParcel .audio peerAudio) := by
  have whole : peerAudio.take 4641 = peerAudio := by decide +kernel
  have short : ¬ 4641 < peerAudio.length := by decide +kernel
  have kind : checkFrame false peerAudio = some .audio := by
    rw [checkFrame, test_audio_crc]
    decide +kernel
  rw [whole, goodFrame, decide_eq_false short, kind]
  rfl

/-- Playout with the parcel's block at the far edge of the window, or at the near one. -/
def admitting (pos : SampleCount) : Part := collecting stamp (withPeer 4 (settledPeer 0 0) (playing pos))

/-- The bytes of station 5's TALK parcel to station 2 with END: one block 2,000, with its CRC found in the same way. -/
def talkFront : List Byte :=
  [0x02, 0x05, 0x04, 0x00, 0x00, 0x00, 0x00, 0x00, 0x00, 0x12, 0xC0, 0x00, 0x00, 0x07, 0xD0, 0x01, 0x01, 0x02, 0x00]
def peerTalk : List Byte := talkFront ++ sixteen ++ sixteen ++ sixteen ++ [0xA2, 0x61, 0xF5, 0xC3]

theorem test_talk_crc : crcAgrees peerTalk = true := by
  have h1 : (talkFront ++ sixteen).foldl crcByte 0xFFFFFFFF#32 = 0xE9E728F5#32 := by decide +kernel
  have h2 : sixteen.foldl crcByte 0xE9E728F5#32 = 0xBFAEE955#32 := by decide +kernel
  have h3 : sixteen.foldl crcByte 0xBFAEE955#32 = 0x3C0A9E5D#32 := by decide +kernel
  have front : peerTalk.take (peerTalk.length - 4) = talkFront ++ sixteen ++ sixteen ++ sixteen := by decide +kernel
  have back : leNat (peerTalk.drop (peerTalk.length - 4)) = 0xC3F561A2 := by decide +kernel
  rw [crcAgrees, front, back, crc32, List.foldl_append, List.foldl_append, h1, h2, h3]
  decide

theorem test_talk_frame_is_good :
    goodFrame (decide (4641 < peerTalk.length)) (peerTalk.take 4641) = some (readParcel .talk peerTalk) := by
  have whole : peerTalk.take 4641 = peerTalk := by decide +kernel
  have short : ¬ 4641 < peerTalk.length := by decide +kernel
  have kind : checkFrame false peerTalk = some .talk := by
    rw [checkFrame, test_talk_crc]
    decide +kernel
  rw [whole, goodFrame, decide_eq_false short, kind]
  rfl

/-- The two frames reach parts in which their source is known: the premises of every case. -/
theorem test_witness_AudioAndTalkParcelsAreFiledOrRefused :
    let x := readParcel .audio peerAudio
    let y := readParcel .talk peerTalk
    goodFrame (decide (4641 < peerAudio.length)) (peerAudio.take 4641) = some x ∧
    goodFrame (decide (4641 < peerTalk.length)) (peerTalk.take 4641) = some y ∧
    (∀ p ∈ [admitting 46896, admitting 96000, other 1 1000 (admitting 96000)], p.liu.rx = some stamp ∧
      p.cap.station ≠ .loading ∧ x.kind ≠ .notice ∧ y.kind ≠ .notice ∧ x.source ≠ p.sul.own ∧ y.source ≠ p.sul.own ∧
      (p.peer x.source).state = .present ∧ y.source = x.source) ∧
    ((collecting stamp (playing 96000)).peer x.source).state = .absent ∧
    (y.kind ≠ .audio ∧ y.destination ≠ 0 ∧ y.destination ≠ (admitting 96000).sul.own.number ∧
      y.destination = (other 1 1000 (admitting 96000)).sul.own.number ∧ x.kind = .audio) ∧
    (x.digestPresent = false ∧ x.span = 1 ∧ y.span = 1 ∧ ready.plu.position = none) :=
  ⟨test_audio_frame_is_good, test_talk_frame_is_good, by decide +kernel⟩

/-- The bytes of station 5's AUDIO parcel with the digest 9 over blocks 2,000 and 2,001, its CRC found in the same way. -/
def pairFront : List Byte :=
  [0x01, 0x05, 0x02, 0x00, 0x00, 0x00, 0x00, 0x00, 0x00, 0x12, 0xC0, 0x00, 0x00, 0x07, 0xD0, 0x02, 0x01, 0x00, 0x01,
    0x00, 0x00, 0x09]
def peerPair : List Byte :=
  pairFront ++ sixteen ++ sixteen ++ sixteen ++ sixteen ++ sixteen ++ sixteen ++ [0x3E, 0x14, 0x5E, 0xD0]

theorem test_pair_crc : crcAgrees peerPair = true := by
  have h1 : (pairFront ++ sixteen).foldl crcByte 0xFFFFFFFF#32 = 0xD4496CDA#32 := by decide +kernel
  have h2 : sixteen.foldl crcByte 0xD4496CDA#32 = 0x353AE811#32 := by decide +kernel
  have h3 : sixteen.foldl crcByte 0x353AE811#32 = 0xBE58E251#32 := by decide +kernel
  have h4 : sixteen.foldl crcByte 0xBE58E251#32 = 0xE5876867#32 := by decide +kernel
  have h5 : sixteen.foldl crcByte 0xE5876867#32 = 0xDAA16507#32 := by decide +kernel
  have h6 : sixteen.foldl crcByte 0xDAA16507#32 = 0x2FA1EBC1#32 := by decide +kernel
  have front : peerPair.take (peerPair.length - 4) =
      pairFront ++ sixteen ++ sixteen ++ sixteen ++ sixteen ++ sixteen ++ sixteen := by decide +kernel
  have back : leNat (peerPair.drop (peerPair.length - 4)) = 0xD05E143E := by decide +kernel
  rw [crcAgrees, front, back, crc32, List.foldl_append, List.foldl_append, List.foldl_append, List.foldl_append,
    List.foldl_append, h1, h2, h3, h4, h5, h6]
  decide

/-- A parcel of two blocks of which the second lies one past the window: the premises of its admission (R90). -/
theorem test_witness_AudioAndTalkParcelsAreFiledOrRefused_straddling :
    let x := readParcel .audio peerPair
    let p := admitting 46896
    goodFrame (decide (4641 < peerPair.length)) (peerPair.take 4641) = some x ∧
    (p.liu.rx = some stamp ∧ p.cap.station ≠ .loading ∧ x.kind = .audio ∧ x.source ≠ p.sul.own ∧
      p.playBlock = some 977 ∧ p.tau.mode.settled = true ∧
      ((p.peer x.source).afterParcel p x stamp).settled = true ∧
      ((p.peer x.source).afterParcel p x stamp).announced.map (·.laneCount) = some x.laneCount ∧
      x.digestPresent = true ∧ x.span = 2 ∧ (x.firstBlock - 977).toInt = 1023 ∧
      (x.firstBlock + 1 - 977).toInt = 1024) := by
  have whole : peerPair.take 4641 = peerPair := by decide +kernel
  have short : ¬ 4641 < peerPair.length := by decide +kernel
  have kind : checkFrame false peerPair = some .audio := by
    rw [checkFrame, test_pair_crc]
    decide +kernel
  refine ⟨?_, by decide +kernel⟩
  rw [whole, goodFrame, decide_eq_false short, kind]
  rfl

/-- The premises of the rows of the admission of one block: lanes with no repeat, an offset of −1 and of 1,024, and
inside the window a full store, a block held, and a free buffer. -/
theorem test_witness_AudioAndTalkParcelsAreFiledOrRefused_rows :
    let y : StoredLane := ⟨false, false, false, false, silentBlock⟩
    let fs : List (LaneNo × StoredLane) := [(0, y), (1, y)]
    let held : Ast := { fresh.ast with buffers := [(Buffer.empty 4 2000).fill 0 y], free := 0 }
    (fs.map (·.1)).Nodup ∧ ((1999 : BlockNo) - 2000).toInt = -1 ∧ ((3024 : BlockNo) - 2000).toInt = 1024 ∧
      ((2000 : BlockNo) - 2000).toInt = 0 ∧ ((3023 : BlockNo) - 2000).toInt = 1023 ∧
      (held.find 4 3023 = none ∧ held.free = 0) ∧ held.find 4 2000 ≠ none ∧
      (fresh.ast.find 4 3023 = none ∧ fresh.ast.free ≠ 0) := by decide +kernel

/-- The record that the store's admission reads, with the source's record as it stands before. -/
def admitted (pos : SampleCount) (r : PeerRecord) (bytes : List Byte) (kind : ParcelKind) : PeerRecord :=
  r.afterParcel (admitting pos) (readParcel kind bytes) stamp

/-- Each case of the admission has a state: UNSETTLED, FORMAT, LATE at −1, EARLY at 1,024, STORE_FULL, and filed at both
edges of the window, with the block held and not. -/
theorem test_witness_AudioAndTalkParcelsAreFiledOrRefused_cases :
    let x := readParcel .audio peerAudio
    let held : Part := { admitting 96000 with ast := { fresh.ast with
      buffers := [(Buffer.empty 4 2000).fill 0 ⟨false, false, false, false, silentBlock⟩], free := 8191 } }
    ((admitting 96000).tau.mode.settled = true ∧ (admitting 96000).playBlock = some 2000 ∧
      (admitted 96000 { settledPeer 0 0 with measurements := 5 } peerAudio .audio).settled = false ∧
      (admitted 96000 (settledPeer 0 0) peerAudio .audio).settled = true ∧
      (admitted 96000 (settledPeer 0 0) peerTalk .talk).settled = true) ∧
    ((admitted 96000 (settledPeer 0 0) peerAudio .audio).announced.map (·.laneCount) = some x.laneCount ∧
      (admitted 96000 { settledPeer 0 0 with announced := none } peerAudio .audio).announced.map (·.laneCount) ≠
        some x.laneCount) ∧
    (((admitting 96048).playBlock = some 2001 ∧ (x.firstBlock - 2001).toInt = -1) ∧
      ((admitting 46848).playBlock = some 976 ∧ (x.firstBlock - 976).toInt = 1024) ∧
      ((admitting 46896).playBlock = some 977 ∧ (x.firstBlock - 977).toNat = 1023) ∧ (x.firstBlock - 2000).toNat = 0) ∧
    ((admitting 96000).ast.find x.source x.firstBlock = none ∧ x.span ≤ (admitting 96000).ast.free ∧
      ({ fresh.ast with free := 0 } : Ast).find x.source x.firstBlock = none) ∧
    ((held.ast.lane x.source x.firstBlock 0).isSome = true ∧ x.span ≤ held.ast.free ∧
      (held.ast.lane x.source x.firstBlock talkLane) = none) := by decide +kernel

/-- The block is filed with its SILENT mark and its samples. -/
theorem test_audio_is_filed :
    (((admitting 46896).takeParcel (readParcel .audio peerAudio) stamp).ast.lane 4 2000 0).map
        (fun y => (y.silent, y.samples)) = some (true, List.replicate 48 0x000102) := by decide +kernel

theorem test_witness_OutputsKeepTheirWordLength :
    ((-8388608 : Int) ≤ -8388608 ∧ (-8388608 : Int) ≤ 8388607) ∧ (-8388608 : Int) ≤ 8388607 := by decide

/-- A due block tick at which every count stands one short of its last step, with ramps running and a fault active
for each quiet count. -/
def counting : Part :=
  withPeer 4 { settledPeer 0 0 with quietCount := 198 } <|
    withPeer 5 { settledPeer 0 0 with state := .lapsed, quietCount := 5198 } <|
      withPeer 6 { PeerRecord.cleared with state := .joining, joinCount := 998 }
        { ready with
          moment := { still with tick := true }
          liu := { ready.liu with
            cleanBlocks := 999, noticeCount := 98, echoLostCount := 498, txQuiet := 998
            queue := List.replicate 5 talkParcel }
          ast := { ready.ast with quiet := 998 }
          ptb := { ready.ptb with winCount := 4998, lagWindow := 998 }
          mxe := { ramping.mxe with metersOn := true, meterCount := 18 }
          faults := ⟨[], [FaultKey.plain .txOverrun, FaultKey.plain .storeFull], some .won⟩ }

theorem test_witness_BlockTickCountsOnce :
    let p := counting
    (p.moment.tick = true ∧ p.moment.done = [] ∧ p.cap.station = .listening ∧ p.moment.tauDue = false ∧
      p.plu.position = none) ∧
    (p.liu.cleanBlocks ≤ 1000 ∧ p.liu.noticeCount + 1 < 100 ∧ (after .blockTick p).tau.mode = .tracking ∧ p.liu.echoLostCount ≠ 499 ∧
      FaultKey.plain .txOverrun ∈ p.faults.marks ∧ p.liu.txQuiet < 999 ∧ p.liu.queue.length ≤ 5 ∧
      FaultKey.plain .storeFull ∈ p.faults.marks ∧ p.ast.quiet < 999 ∧ p.faults.conflict = some .won ∧
      p.ptb.winCount < 4999 ∧ p.ptb.lagWindow < 999 ∧ p.mxe.metersOn = true ∧ p.mxe.meterCount < 19) ∧
    ((p.peer 4).state = .present ∧ (p.peer 4).quietCount < 199 ∧ (p.peer 5).state = .lapsed ∧
      (p.peer 5).quietCount < 5199 ∧ (p.peer 6).state = .joining ∧ (p.peer 6).joinCount < 999) ∧
    (p.mxe.groups[(7 : GroupIx)].ramp = none ∧ p.mxe.groups[(0 : GroupIx)].ramp = some ⟨100, 10, .linear, 9⟩ ∧
      p.mxe.groups[(1 : GroupIx)].ramp = some ⟨100, 10, .eased, 8⟩) ∧
    (due.moment.tick = true ∧ due.moment.done = [] ∧ due.moment.tauDue = true ∧ due.plu.position = none) ∧
    (let q := { playing 94 with moment := { still with tick := true } }
     q.moment.tick = true ∧ q.moment.done = [] ∧ q.plu.position ≠ none ∧ q.moment.tauDue = false) ∧
    (let q := { counting with moment := { counting.moment with
        tauDue := true, done := [.capture, .cleanBlocks, .notice, .echoLost, .txQuiet, .storeQuiet, .win, .lagWindow,
          .meter, .resyncTimer, .quiet 4, .resyncSeen 4, .join 6] } }
     q.moment.tick = true ∧ q.cap.station ≠ .loading ∧ .capture ∈ q.moment.done ∧ .notice ∈ q.moment.done ∧
      .cleanBlocks ∈ q.moment.done ∧ .join 6 ∈ q.moment.done ∧ .join 5 ∉ q.moment.done) ∧
    (fresh.moment.tick = true ∧ fresh.moment.done = [] ∧ fresh.cap.station = .loading ∧ fresh.cap.block = none) := by
  decide +kernel

/-- Ticks at which a record expires, no mode work due, with playout started and not. -/
theorem test_witness_BlockTickCountsOnce_expiring :
    ∀ p ∈ [joining, lapsed, { lapsed with plu := (playing 94).plu }],
      let q : Part := { p with moment := { still with tick := true } }
      q.moment.tick = true ∧ q.cap.station ≠ .loading ∧ q.moment.tauDue = false ∧
        ((q.peer 4).state = .joining ∧ 999 ≤ (q.peer 4).joinCount ∧ .join 4 ∉ q.moment.done ∨
          (q.peer 4).state = .lapsed ∧ 5199 ≤ (q.peer 4).quietCount ∧ .quiet 4 ∉ q.moment.done) ∧
        (after .blockTick q).peer 4 = PeerRecord.cleared := by decide +kernel

theorem test_witness_CommandsNotDueChangeNothing :
    ¬ready.moment.due .txQuiet ∧ ¬ready.moment.due (.quiet 4) ∧ ready.moment.tick = false ∧
      ready.moment.trimDue = false ∧ ready.moment.tauDue = false ∧ ready.moment.pluDue = false ∧
      ready.moment.controlDue = false ∧ ready.plu.owed ≠ some .slip := by decide

/-! ## Capture -/

/-- A whole block in capture with one value in every slot, and its detectors. -/
def capturing (value : Sample) (d : Detector) : Part :=
  { due with cap := { due.cap with
      block := some ⟨7, true, false, List.replicate 48 ⟨Vector.replicate 8 value, value⟩⟩
      detectors := Vector.replicate 8 d } }

/-- The block that `capturing` holds. -/
def captured (value : Sample) : CaptureBlock := ⟨7, true, false, List.replicate 48 ⟨Vector.replicate 8 value, value⟩⟩

theorem test_witness_DetectorsSetAndClear :
    let set := due.settings
    due.moment.due .capture ∧ due.cap.station ≠ .loading ∧ (0 : ProgLane).val < set.laneCount ∧
      (capturing 0 ⟨false, set.silenceTime - 1, 0, false, 0, 0⟩).cap.block = some (captured 0) ∧
      (blockPeak ((captured 0).lane 0) < set.silenceThreshold ∧ set.silenceTime ≤ set.silenceTime - 1 + 1) ∧
      min (2 * set.silenceThreshold) 8388607 ≤ blockPeak ((captured 0x7FFFFF).lane 0) ∧
      ((captured 5).lane 0).all (· == 5) = true := by decide +kernel

/-- A lane goes SILENT, clears, and is STUCK. -/
theorem test_detectors_at_a_closing_block :
    let set := due.settings
    (after (.silentSet 0) (capturing 0 ⟨false, set.silenceTime - 1, 0, false, 0, 0⟩)).faults.isActive
        (captureSilentKey 0 0) = true ∧
      (after (.silentClear 0) (capturing 0x7FFFFF ⟨true, 0, 9, false, 0, 0⟩)).cap.detectors[(0 : ProgLane)].silent =
        false ∧
      (after (.stuckSet 0) (capturing 5 ⟨false, 0, 0, false, 5, 199⟩)).cap.detectors[(0 : ProgLane)].stuck = true := by
  decide +kernel

/-- An ON_AIR station whose request is clear, with an AUDIO parcel of one block in assembly. -/
def leaving : Part :=
  { capturing 5 Detector.reset with cap := { (capturing 5 Detector.reset).cap with
      station := .onAir, contribute := false, audio := some ⟨6, 0, none, [[List.replicate 48 5]]⟩ } }

/-- An ON_AIR station at a block tick outside an agreement instant, with a request and a talk session. -/
def closing (request : Bool) (session : TalkSession) : Part :=
  { leaving with
    moment := { still with tick := true }
    liu := { leaving.liu with noticeCount := 0 }
    cap := { leaving.cap with contribute := request, session := session } }

/-- The closing by BLOCK_TICK, and values of a detector for each row of R72 and R73. -/
theorem test_witness_DetectorsSetAndClear_rows :
    let set := due.settings
    (closing true .idle).moment.tick = true ∧ (closing true .idle).moment.done = [] ∧
      (closing true .idle).cap.block = some (captured 5) ∧
      (blockPeak [5, 6] < set.silenceThreshold ∧ 0 + 1 < set.silenceTime ∧
        set.silenceThreshold ≤ blockPeak [0x7FFFFF] ∧ min (2 * set.silenceThreshold) 8388607 ≤ blockPeak [0x7FFFFF] ∧
        blockPeak [5, 6] < min (2 * set.silenceThreshold) 8388607) ∧
      (([5, 5] : List Sample) ≠ [] ∧ (([5, 5] : List Sample).all (· == 5) = true) ∧ (5 : Sample) ≠ 0 ∧
        (([0, 0] : List Sample).all (· == 0) = true) ∧ (5 : Sample) ∈ ([5, 6] : List Sample) ∧
        (6 : Sample) ∈ ([5, 6] : List Sample) ∧ (5 : Sample) ≠ 6) := by decide +kernel

/-- A block that breaks a run of 200 clears STUCK and ends CAPTURE_STUCK (R73, R81). -/
theorem test_stuck_clears :
    let p := { capturing 6 ⟨false, 0, 0, true, 5, 200⟩ with
      moment := { still with tick := true }
      faults := ⟨[], [captureStuckKey 0 0], none⟩ }
    (after .blockTick p).cap.detectors[(0 : ProgLane)] = ⟨false, 1, 0, false, 6, 1⟩ ∧
      (after .blockTick p).faults.isActive (captureStuckKey 0 0) = false := by decide +kernel

/-- At the wrap of SC with K at −48 the 16-sample block and the block after it carry one number (R69, log 50). -/
theorem test_block_number_at_the_wrap_of_SC :
    blockOf (commonTime (BitVec.ofNat 48 (2 ^ 48 - 16)) (-48)) = blockOf (commonTime 0 (-48)) ∧
      blockOf (commonTime 0 (-48)) = 1431655764 := by decide +kernel

/-- A closing at which no mode work is due: the premises of what the commands of a closing leave. -/
theorem test_witness_DetectorsSetAndClear_frame :
    (closing false (.ending 3)).moment.tauDue = false ∧ (closing false (.ending 3)).moment.due .capture ∧
      (after .leaveOnAir (closing false .idle)).cap.station = .listening ∧
      (after .talkSessionAdvance (closing false (.ending 3))).cap.session = .idle := by decide +kernel

theorem test_witness_ContributionMovesTheStationState :
    due.moment.controlDue = true ∧ leaving.moment.due .capture ∧ leaving.cap.station = .onAir ∧
      leaving.cap.contribute = false ∧ leaving.cap.block = some (captured 5) ∧
      leaving.cap.audio = some ⟨6, 0, none, [[List.replicate 48 5]]⟩ ∧ leaving.liu.queue.length ≤ 6 ∧
      (∀ r ∈ [true, false], (closing r .idle).moment.tauDue = false ∧ (closing r .idle).moment.due .capture ∧
        (closing r .idle).cap.station = .onAir ∧ (closing r .idle).cap.contribute = r ∧
        (closing r .idle).cap.block = some (captured 5) ∧ (closing r .idle).moment.tick = true ∧
        (closing r .idle).moment.done = [] ∧ (closing r .idle).tau.mode = .tracking ∧
        (closing r .idle).liu.noticeCount + 1 < 100) ∧
      ((64 : BlockNo).toNat % 64 = 0 ∧ (7 : BlockNo).toNat % 64 ≠ 0 ∧
        (⟨some 0, 5, some 6, false⟩ : SenderDigest).last = some ((7 : BlockNo) - 1) ∧
        (⟨some 0, 5, some 6, false⟩ : SenderDigest).window = some ((7 : BlockNo).toNat / 64) ∧
        (⟨some 0, 5, some 5, false⟩ : SenderDigest).last ≠ some ((7 : BlockNo) - 1)) := by
  decide +kernel

/-- A queue of eight: the closing evicts a parcel and the fault goes on with its count at 0, or TX_OVERRUN_END comes
first and the eviction raises the fault again; the tick of the eviction is not counted in either order (R7, R179). -/
theorem test_eviction_and_the_quiet_count :
    let p := queued (List.replicate 8 talkParcel) { closing false .idle with
      liu := { (closing false .idle).liu with txQuiet := 999, noticeCount := 0 }
      faults := ⟨[], [FaultKey.plain .txOverrun], none⟩ }
    ((after .blockTick p).liu.txQuiet = 0 ∧ (after .blockTick p).faults.marks = [FaultKey.plain .txOverrun]) ∧
      (after .blockTick (after .txOverrunEnd p)).liu.txQuiet = 0 ∧
      (after .txOverrunEnd p).faults.isActive (FaultKey.plain .txOverrun) = false := by decide +kernel

/-- A settled station with a request goes ON_AIR at an agreement instant. -/
theorem test_goes_on_air :
    (after .goOnAir { due with cap := { due.cap with contribute := true } }).cap.station = .onAir := by decide +kernel

/-- A talk session at a closing block. -/
def talking (session : TalkSession) : Part :=
  { capturing 5 Detector.reset with cap := { (capturing 5 Detector.reset).cap with session := session } }

theorem test_witness_TalkSessionAdvancesAtTheTick :
    (talking (.starting 3)).moment.due .capture ∧ (talking (.starting 3)).cap.block = some (captured 5) ∧
      (talking (.starting 3)).cap.station = .listening ∧ (talking (.starting 3)).cap.session = .starting 3 ∧
      (talking (.ending 3)).cap.session = .ending 3 ∧ (talking (.switching 3 4)).cap.session = .switching 3 4 ∧
      (talking (.ending 3)).cap.talkParcel = none ∧ (talking (.ending 3)).liu.queue.length ≤ 6 ∧
      (∀ x ∈ [TalkSession.idle, .opened 3, .ending 3, .switching 3 4, .starting 3],
        (closing true x).moment.tauDue = false ∧ (closing true x).cap.station = .onAir ∧
        (closing true x).cap.block = some (captured 5) ∧ (closing true x).cap.session = x ∧
        (closing true x).moment.due .capture ∧ (closing true x).moment.tick = true ∧
        (closing true x).moment.done = [] ∧ (closing true x).liu.noticeCount + 1 < 20) := by decide +kernel

/-- An OPEN session's block joins its TALK parcel, which closes at S blocks; a switch closes it with END (R84). -/
theorem test_talk_parcels_close :
    let p := fun x : TalkSession =>
      let q := closing true x
      { q with
        settings := { q.settings with span := 3 }
        cap := { q.cap with station := .listening, audio := none
                            talkParcel := some ⟨6, 3, none, [[List.replicate 48 5]]⟩ } }
    (after .blockTick (p (.opened 3))).cap.talkParcel.map (·.blocks.length) = some 2 ∧
      (after .blockTick (p (.switching 3 4))).liu.queue.map (fun x => (x.kind, x.endFlag, x.destination, x.blocks.length)) =
        [(.talk, true, 3, 2)] ∧
      (after .blockTick (p (.switching 3 4))).cap.session = .opened 4 := by decide +kernel

/-! ## Time agreement and playout's moves -/

theorem test_witness_ConsensusTrimsTheExtremes :
    ([178, -40, 300] : List Int).length < 4 ∧ 4 ≤ ([0, 178, -40, 300] : List Int).length ∧
      ∀ x : Station, ((withPeer 4 (settledPeer 178 0) due).peer x).settled = true →
        ((withPeer 4 (settledPeer 178 0) due).peer x).offset.isSome = true := by decide +kernel

/-- An agreement instant with one settled peer at an offset, in a mode. -/
def instant (offset : Int) (mode : ClockMode) : Part :=
  withPeer 4 (settledPeer offset 12034) { due with tau := { due.tau with mode := mode, integral := -150 } }

theorem test_witness_TrimUpdateAndTrimWord :
    let p := instant 15359 .tracking
    InstantOrder.timeFirst ≠ .targetOnly ∧ InstantOrder.playoutFirst ≠ .targetOnly ∧
      p.moment.trimDue = true ∧ p.moment.tauDue = true ∧ p.cap.station ≠ .loading ∧ p.tau.mode = .tracking ∧
      p.liu.echoCount = 4 ∧ p.settledPeers ≠ [] ∧ p.trackingError.natAbs = 7679 ∧
      (instant (-15360) .tracking).trackingError.natAbs = 7680 ∧ (instant (-15360) .tracking).tau.largeRun + 1 < 3 := by
  decide +kernel

/-- The second large instant counts, and updates the trim (R61, R62). -/
theorem test_large_instants_count :
    let p := instant (-15360) .tracking
    let t := after (.agreementInstant .timeFirst) { p with tau := { p.tau with largeRun := 1 } }
    t.tau.largeRun = 2 ∧ t.tau.integral = 330 ∧ t.tau.trim = 10000 ∧ t.tau.correction = 0 := by decide +kernel

/-- 3.13: the trim word carries -511. -/
theorem test_trim_word_is_sent :
    (after (.agreementInstant .timeFirst) (instant 178 .tracking)).tau.integral = -155 ∧
      (after (.agreementInstant .timeFirst) (instant 178 .tracking)).tau.trimWord = BitVec.ofInt 16 (-511) := by
  decide +kernel

theorem test_witness_ClockModesMoveOnTheirEcho :
    let p := { due with tau := { due.tau with mode := .acquiring, foundingCount := 19 } }
    let q := { due with tau := { due.tau with emptyRun := 8, integral := -10000 } }
    InstantOrder.timeFirst ≠ .targetOnly ∧
      (p.moment.trimDue = true ∧ p.moment.tauDue = true ∧ p.cap.station ≠ .loading ∧ p.liu.echoCount = 4 ∧
        p.settledPeers = [] ∧ p.tau.foundingCount + 1 < 20 + p.sul.own.number) ∧
      (q.settledPeers = [] ∧ q.liu.echoCount = 4 ∧ q.tau.mode = .tracking ∧ q.tau.emptyRun < 9 ∧
        -10000 ≤ q.tau.integral ∧ q.tau.integral ≤ 10000) ∧
      (∀ mode ∈ [ClockMode.free, .acquiring, .tracking, .holdover], (instant 383 mode).tau.mode = mode ∧
        (instant 383 mode).settledPeers ≠ [] ∧ (instant 383 mode).liu.echoCount = 4) ∧
      ((instant 383 .acquiring).acquiringError.natAbs < 384 ∧
        384 ≤ (instant (-384) .acquiring).acquiringError.natAbs) ∧ fresh.liu.echoCount ≠ 4 := by decide +kernel

/-- An agreement instant with playout started, with a settled peer or none, and a raw target above Hmax or not. -/
theorem test_witness_ClockModesMoveOnTheirEcho_target :
    ∀ h ∈ [(24000, true), (12000, false)],
      let p := { instant 0 .tracking with
        plu := (playing 3361).plu
        settings := { ready.settings with guardTime := 480, hmin := 2400, hmax := h.1 } }
      p.moment.trimDue = true ∧ p.moment.pluDue = true ∧ p.plu.position ≠ none ∧
        (((List.finRange 16).filter fun x : Station => (p.peer x).settled) = [4]) ∧
        decide (12034 + 480 ≤ p.settings.hmax) = h.2 ∧
        ((after (.agreementInstant .timeFirst) p).faults.isActive (FaultKey.plain .horizonLimit) = !h.2) ∧
        (((List.finRange 16).filter fun x : Station => ((due.peer x).settled)) = []) := by decide +kernel

/-- An instant whose mode work is taken, one in LOADING, a step from ACQUIRING, and a held step of P beside one, all
with no target to form; and a target formed alone. -/
theorem test_witness_ClockModesMoveOnTheirEcho_alone :
    let held : Part := { playing 94 with
      moment := { still with trimDue := true }, plu := { (playing 94).plu with owed := some .step } }
    let done (c : Instr) (p : Part) : Bool := match exec c (on p) with | .next _ => true | _ => false
    (held.moment.trimDue = true ∧ held.moment.tauDue = false ∧ held.moment.pluDue = false ∧
      held.plu.owed = some .step) ∧
    (fresh.moment.trimDue = true ∧ fresh.moment.tauDue = true ∧ fresh.cap.station = .loading ∧
      fresh.plu.position = none) ∧
    (let p := instant (-384) .acquiring
     p.moment.trimDue = true ∧ p.moment.tauDue = true ∧ p.cap.station ≠ .loading ∧ p.tau.mode = .acquiring ∧
      p.liu.echoCount = 4 ∧ p.settledPeers ≠ [] ∧ 384 ≤ p.acquiringError.natAbs ∧ p.plu.position = none) ∧
    done (.agreementInstant .targetOnly) due = true ∧
    (let founding := { due with tau := { due.tau with mode := .acquiring, foundingCount := 20 } }
     let empty := { due with tau := { due.tau with emptyRun := 9 } }
     let large : Part := { instant (-15360) .tracking with
        tau := { (instant (-15360) .tracking).tau with largeRun := 2 } }
     founding.moment.trimDue = true ∧ empty.moment.trimDue = true ∧ large.moment.trimDue = true ∧
      large.plu.position = none ∧ founding.settledPeers = [] ∧ founding.tau.mode ≠ .tracking ∧
      done .founding founding = true ∧ done .emptyRunExpiry empty = true ∧ done .largeRunStep large = true ∧
      (after .founding founding).tau.mode = .tracking ∧ (after .emptyRunExpiry empty).tau.mode = .holdover ∧
      (after .largeRunStep large).tau.correction = 480) := by decide +kernel

/-- The first instant back from HOLDOVER updates the trim and begins no run (R63). -/
theorem test_holdover_returns :
    let t := after (.agreementInstant .timeFirst) (instant 30000 .holdover)
    t.tau.mode = .tracking ∧ t.tau.largeRun = 0 ∧ t.tau.integral = -1087 ∧ t.tau.correction = 0 := by decide +kernel

theorem test_witness_FoundingAndEmptyRunMoveTheMode :
    let p := { due with tau := { due.tau with mode := .acquiring, foundingCount := 20 } }
    let q := { due with tau := { due.tau with emptyRun := 9 } }
    (p.moment.tauDue = true ∧ p.cap.station ≠ .loading ∧ p.liu.echoCount = 4 ∧ p.settledPeers = [] ∧
      p.tau.mode = .acquiring ∧ 20 + p.sul.own.number ≤ p.tau.foundingCount + 1) ∧
    (q.moment.tauDue = true ∧ q.liu.echoCount = 4 ∧ q.settledPeers = [] ∧ q.tau.mode = .tracking ∧
      9 ≤ q.tau.emptyRun) := by decide +kernel

/-- A third large error, at the least magnitude that is large. -/
def stepping : Part := { instant (-15360) .tracking with tau := { (instant (-15360) .tracking).tau with largeRun := 2 } }

/-- The same with an AUDIO parcel in assembly that holds the digest of its first block's window. -/
def steppingWith (first : BlockNo) : Part :=
  { stepping with cap := { stepping.cap with audio := some ⟨first, 0, some 5, [[silentBlock]]⟩ } }

/-- A step into window 1 takes the digest of window 1 out of the parcel in assembly, and leaves another's (R57, R76). -/
theorem test_step_omits_the_digest :
    ((after .largeRunStep (steppingWith 127)).cap.audio.map (·.digest)) = some none ∧
      ((after .largeRunStep (steppingWith 191)).cap.audio.map (·.digest)) = some (some 5) := by decide +kernel

/-- The same with playout at a position. -/
def steppingTo (pos : SampleCount) : Part := { stepping with plu := { stepping.plu with position := some pos, target := 1440 } }

theorem test_witness_LargeRunTakesAStep :
    stepping.moment.tauDue = true ∧ stepping.cap.station ≠ .loading ∧ stepping.tau.mode = .tracking ∧
      stepping.liu.echoCount = 4 ∧ stepping.settledPeers ≠ [] ∧ stepping.trackingError.natAbs = 7680 ∧
      stepping.tau.largeRun = 2 ∧ (stepping.peer 4).state ≠ .absent ∧ (stepping.peer 5).state = .absent ∧
      stepping.plu.position = none ∧
      (∀ h ∈ [(48, true), (49104, true), (47, false), (49105, false)],
        let p := steppingTo (BitVec.ofInt 48 (5280 - h.1))
        let q : Part := { p with tau := { p.tau with correction := 480 } }
        p.moment.tauDue = true ∧ p.cap.station ≠ .loading ∧ p.tau.mode = .tracking ∧ p.liu.echoCount = 4 ∧
          p.settledPeers ≠ [] ∧ p.trackingError = -7680 ∧ p.tau.largeRun = 2 ∧ p.plu.position ≠ none ∧
          decide (48 ≤ q.horizon ∧ q.horizon ≤ 49104) = h.2) ∧
      ((steppingWith 127).moment.tauDue = true ∧ (steppingWith 127).settledPeers ≠ [] ∧
        (steppingWith 127).trackingError = -7680 ∧ (steppingWith 127).tau.largeRun = 2 ∧
        ((blockOf 5280).toNat / 64 = (127 : BlockNo).toNat / 64) ∧ (191 : BlockNo).toNat / 64 = 2) := by
  decide +kernel

/-- A step re-anchors a horizon of 47 and of 49,105 with a slip or a step of P still owed: the horizon is read less one
while the move is owed (log 28), so P stands one lower than without it. -/
theorem test_witness_LargeRunTakesAStep_owed :
    ∀ m ∈ [Move.slip, .step], ∀ h ∈ [47, 49105],
      let p := steppingTo (BitVec.ofInt 48 (5280 - h - 1))
      let p : Part := { p with plu := { p.plu with owed := some m } }
      let q : Part := { p with tau := { p.tau with correction := 480, resyncTimer := 200, trim := p.tau.integral } }
      p.plu.owed ≠ none ∧ p.plu.position ≠ none ∧ q.horizon = h ∧ ¬(48 ≤ q.horizon ∧ q.horizon ≤ 49104) ∧
        p.moment.tauDue = true ∧ p.trackingError = -7680 ∧ p.tau.largeRun = 2 ∧
        (after .largeRunStep p).plu.position = some 3840 ∧ (after .largeRunStep p).plu.owed = none := by decide +kernel

/-- A reader at the tick of a step finds CT with the new K (R48): M is −7,680, so Δ is −480. -/
theorem test_handover_at_a_step :
    (after .parcelHandover (queued [talkParcel] stepping)).liu.tx.map (·.stamp) = some 5280 := by decide +kernel

theorem test_witness_PlayoutStartPlacesP :
    let p := instant 0 .tracking
    p.moment.pluDue = true ∧ p.plu.position = none ∧ p.tau.mode.settled = true ∧
      (((List.finRange 16).filter fun x : Station => (p.peer x).settled) = [4]) ∧
      ((instant 0 .acquiring).tau.mode.settled = false) ∧
      ((List.finRange 16).filter fun x : Station => (due.peer x).settled) = [] := by decide +kernel

/-- The raw target of a lag peak of 12,034 is 12,514 where G is 480. -/
theorem test_target_is_formed :
    let p := instant 0 .tracking
    (after .playoutStart { p with settings := { p.settings with guardTime := 480, hmin := 2400, hmax := 24000 } }
      ).plu.target = 12514 := by decide +kernel

/-- A slip decision owed, with the horizon below, at and above the target. -/
def slipping (pos : SampleCount) : Part := { playing pos with plu := { (playing pos).plu with owed := some .slip } }

theorem test_witness_SlipDecisionMovesP :
    (slipping 3361).plu.owed = some .slip ∧ (slipping 3361).plu.position = some 3361 ∧
      ((slipping 3361).tau.sc + BitVec.ofInt 48 (slipping 3361).tau.correction - 3361).toInt - 1 = 1438 ∧
      (slipping 3361).plu.target = 1440 := by decide +kernel

/-- A slip decision of 2 that leaves a window's last block from offset 46 or 47, or passes 2^48 − 1. -/
theorem test_witness_SlipDecisionMovesP_cases :
    (∀ i ∈ [3070, 3071],
      let pos : SampleCount := BitVec.ofNat 48 i
      let p := { crossing (some 9) 64 with plu := (slipping pos).plu, tau := { (slipping pos).tau with sc := 6000 } }
      p.plu.owed = some .slip ∧ p.plu.position = some pos ∧
        (1440 : Int) < (p.tau.sc + BitVec.ofInt 48 p.tau.correction - pos).toInt - 1 ∧ p.plu.target = 1440 ∧
        pos.toNat + 2 < 2 ^ 48 ∧ blockOf (pos + 2) ≠ blockOf pos ∧ (blockOf pos).toNat % 64 = 63 ∧
        (4 : Station) ≠ p.sul.own ∧
        p.imn[(4 : Station)].entries.find? (fun w => w.window == (blockOf pos).toNat / 64) =
          some ⟨0, some 9, 9, 64, false⟩) ∧
    (let pos : SampleCount := 281474976710654
     (slipping pos).plu.owed = some .slip ∧ (slipping pos).plu.position = some pos ∧
        (1440 : Int) < ((slipping pos).tau.sc + BitVec.ofInt 48 (slipping pos).tau.correction - pos).toInt - 1 ∧
        2 ^ 48 ≤ pos.toNat + 2) ∧
    (let p := { crossing (some 9) 64 with plu := { (playing 3071).plu with owed := some .step } }
     p.plu.owed = some .step ∧ p.plu.position = some 3071 ∧ blockOf (3071 + 1) ≠ blockOf 3071 ∧
      { (playing 94).plu with owed := some .step }.position = some 94 ∧ blockOf (94 + 1) = blockOf 94) := by
  decide +kernel

/-- The other boundaries of the ramps: a slip of 2 out of a block, a start, a re-anchor at a horizon of 47, and a block
tick while playout is not started. -/
theorem test_witness_RampsAdvanceAtABoundary_cases :
    (let p := { ramping with plu := (slipping 3070).plu, tau := { ramping.tau with sc := 6000 } }
     p.plu.owed = some .slip ∧ p.plu.position = some 3070 ∧
      (p.plu.target : Int) < (p.tau.sc + BitVec.ofInt 48 p.tau.correction - 3070).toInt - 1 ∧
      blockOf (3070 + 2) ≠ blockOf 3070) ∧
    (let p := { instant 0 .tracking with mxe := ramping.mxe }
     p.moment.pluDue = true ∧ p.plu.position = none ∧ p.tau.mode.settled = true ∧ p.settledPeers ≠ []) ∧
    (let p := { steppingTo 5233 with mxe := ramping.mxe }
     let q : Part := { p with tau := { p.tau with correction := 480 } }
     p.moment.tauDue = true ∧ p.cap.station ≠ .loading ∧ p.tau.mode = .tracking ∧ p.liu.echoCount = 4 ∧
      p.settledPeers ≠ [] ∧ p.trackingError = -7680 ∧ p.tau.largeRun = 2 ∧ p.plu.position ≠ none ∧
      p.tau.correction - 48 * (-((384 - p.trackingError) / 768)) = 480 ∧ q.horizon = 47) ∧
    (counting.moment.tick = true ∧ counting.cap.station ≠ .loading ∧ counting.plu.position = none ∧
      counting.mxe.groups = ramping.mxe.groups) := by decide +kernel

/-- P repeats, moves by 1, and passes over a sample. -/
theorem test_slips :
    ([3361, 3359, 3357] : List SampleCount).map
        (fun pos => (after (.slipDecision .evaluationFirst) (slipping pos)).plu.position) =
      [some 3361, some 3360, some 3359] := by decide +kernel

/-- A step owed at the end of block 0, with a MUTED talk lane at 100 or a switch on its fallback. -/
def owing : Part :=
  let p := withPeer 4 (settledPeer 0 0) (playing 47)
  { p with
    plu := { p.plu with
      owed := some .step
      lanes := p.plu.lanes.set 4 (((Vector.replicate 9 LaneRecord.reset).set 8
        ⟨.muted, silentBlock, false, false, false, 100⟩).set 0 ⟨.playing, silentBlock, false, false, false, 0⟩) }
    ast := { p.ast with
      buffers := [(Buffer.empty 4 1).fill 0 ⟨false, false, false, false, silentBlock⟩], free := 8191 }
    mxe := { p.mxe with
      switches := laneSet p.mxe.switches 4 0 ⟨.onFallback, some 1, 99⟩
      fallback := laneSet p.mxe.fallback 4 0 (some 1) } }

theorem test_witness_TalkLaneAndFallbackReturn :
    (owing.plu.owed = some .step ∧ owing.plu.position = some 47 ∧ (47 : SampleCount).toNat % 48 = 47 ∧
      (47 : SampleCount).toNat + 1 < 2 ^ 48 ∧ (4 : Station) ≠ owing.sul.own) ∧
      ((owing.plu.lane 4 talkLane).state = .muted ∧ (owing.plu.lane 4 talkLane).mutedCount = 100 ∧
        owing.ast.lane 4 (blockOf 47 + 1) talkLane = none) ∧
      (owing.mxe.switches[(4 : Station)][(0 : ProgLane)] = ⟨.onFallback, some 1, 99⟩ ∧
        owing.mxe.fallback[(4 : Station)][(0 : ProgLane)] = some 1 ∧ (1 : ProgLane) ≠ 0 ∧
        (owing.plu.lane 4 (0 : ProgLane).lane).state = .playing ∧
        owing.ast.lane 4 (blockOf 47 + 1) (0 : ProgLane).lane = some ⟨false, false, false, false, silentBlock⟩ ∧
        owing.imn[(4 : Station)].suspect = false ∧ (blockOf 47).toNat % 64 ≠ 63) ∧
      (∀ st ∈ [SwitchState.onPrimary, .toFallback, .onFallback, .toPrimary],
        (⟨st, some 1, 98⟩ : FallbackSwitch).state = st ∧ (⟨st, some 1, 98⟩ : FallbackSwitch).clearRun < 99) := by
  decide +kernel

/-- Worked decisions of R138: to a fallback, completing and returning at once, and counting a clear block. -/
theorem test_switch_decisions :
    FallbackSwitch.decide (some 1) true (fun _ => false) ⟨.onPrimary, none, 0⟩ = ⟨.toFallback, some 1, 0⟩ ∧
      FallbackSwitch.decide none true (fun _ => false) ⟨.toFallback, some 1, 0⟩ = ⟨.toPrimary, some 1, 0⟩ ∧
      FallbackSwitch.decide (some 1) false (fun _ => false) ⟨.onFallback, some 1, 98⟩ = ⟨.onFallback, some 1, 99⟩ := by
  decide

/-- The switch returns, and the talk lane is released. -/
theorem test_switch_returns_and_lane_is_released :
    (after (.fallbackReturn 4 0) owing).mxe.switches[(4 : Station)][(0 : ProgLane)] = ⟨.toPrimary, some 1, 0⟩ ∧
      (after (.talkLaneRelease 4) owing).plu.lane 4 talkLane = LaneRecord.reset := by decide +kernel

/-! ## States that meet the invariants -/

theorem test_witness_StepKeepsTheTrimInRange :
    ({ due.tau with trim := 10000, integral := -10000, trimWord := BitVec.ofInt 16 10000, correction := 624 } : Tau).Sound := by
  constructor <;> decide

theorem test_witness_StepKeepsTheLinkInBounds :
    ({ ready.liu with queue := waitingNotice :: List.replicate 7 talkParcel, echoTable := [⟨1, 5⟩, ⟨2, 6⟩] } :
      Liu).Sound := by
  constructor <;> decide

theorem test_witness_StepKeepsTheStoreForm : owing.StoreSound := by
  constructor
  · exact ⟨List.pairwise_singleton _ _, by decide⟩
  · decide
  · intro pb h b hb
    have hpb : pb = 0 := (Option.some.inj h).symm
    have hbuf : b = (Buffer.empty 4 1).fill 0 ⟨false, false, false, false, silentBlock⟩ := by
      simpa [owing] using hb
    rw [hpb, hbuf]
    decide
  · intro h
    exact absurd h (by decide)

theorem test_witness_StepKeepsThePanelAndFaultLists :
    (selected thirtyTwo).pnl.Sound ∧ (faulty thirtyTwoFaults []).faults.Sound := by
  constructor <;> constructor <;> decide +kernel

theorem test_witness_StepKeepsTheRecordsAndTheMix :
    owing.SelfSound ∧ (∀ x : Station, (owing.peer x).Sound) ∧ ramping.mxe.Sound := by
  refine ⟨⟨by decide +kernel, by decide +kernel, by decide +kernel⟩, ?_, ?_⟩
  · have h : ∀ x : Station, owing.peer x = PeerRecord.cleared ∨ owing.peer x = settledPeer 0 0 := by decide +kernel
    intro x
    rcases h x with e | e <;> rw [e] <;> constructor <;> decide
  · constructor
    · decide +kernel
    · have h : ∀ g : GroupIx, (ramping.mxe.groups[g].ramp.all fun r => decide (r.start ≤ 65535 ∧ r.k ≤ r.length)) = true := by
        decide +kernel
      intro g r hr
      have := h g
      rw [hr] at this
      simpa using this
    all_goals decide +kernel

/-- Lists of 16 and of 17 records, on either side of the bound, a frame of a report, a measured and an unmeasured E, a
peer with and without announced values, and a report of each kind of subject. -/
theorem test_witness_ReportPayloadsCarryTheirFields :
    ((thirtyTwoFaults.take 16).length ≤ 16 ∧ 16 < (thirtyTwoFaults.take 17).length ∧
      [0x86, 2, 4, 1, 0x73] ∈ reportFrames (refusedReport .range 0x01)) ∧
    ((faultsReport (thirtyTwoFaults.take 16)).payloads.length = 1 ∧
      (faultsReport (thirtyTwoFaults.take 17)).payloads.length = 2 ∧
      (thirtyTwoFaults.take 17)[16]? = some ⟨laneLossKey 2 0, none, true, 5, 1⟩) ∧
    (ready.liu.echoCount = 4 ∧ ready.liu.echoDelay = some 11520 ∧ 11520 ≤ 65535 ∧ fresh.liu.echoCount ≠ 4) ∧
    ((ready.peer 4).announced = none ∧
      (lapsing.peer 4).announced = some ⟨true, .tracking, 12000, 1, Vector.replicate 8 .comm, none⟩) ∧
    ((meterReport ready.mxe).payloads = [List.replicate 32 0] ∧
      (faultReport ⟨FaultKey.plain .overflow, none, false, 5, 1⟩).payloads.length = 1 ∧
      (FaultKey.plain .overflow).subject = .none ∧ (peerLapsedKey 4).subject = .station 4 ∧
      (laneLossKey 4 7).subject = .lane 4 7) := by decide +kernel

/-- A RESYNC parcel taken before the tick that would end the timer leaves it at 200 after both (R36). -/
theorem test_resync_before_the_last_tick :
    let p := Part.takeResync 4 (withPeer 4 { settledPeer 0 0 with resyncSeen := 1 } due)
    (p.peer 4).resyncSeen = 200 ∧ p.moment.jobDue (.resyncSeen 4) = false := by decide +kernel

end Sys2Proof.Tests
end

/-! # The consensus error: what the trimming of the extremes removes and leaves (R51). -/

namespace Sys2Proof.Machine

/-! ## The consensus error (R51) -/

theorem sumBy_id (xs : List Int) : sumBy id xs = xs.sum := (List.sum_eq_foldl).symm

/-- The consensus error is the truncated mean of what the trimming leaves (R51). -/
theorem consensus_eq (xs : List Int) : consensus xs = Int.tdiv (trimList xs).sum (trimList xs).length := by
  rw [consensus, truncDiv, sumBy_id]

theorem trimList_short {xs : List Int} (h : xs.length < 4) : trimList xs = xs := if_neg (Nat.not_le.mpr h)

theorem trimList_long {xs : List Int} (h : 4 ≤ xs.length) :
    trimList xs = (xs.erase (largest xs)).erase (smallest xs) := if_pos h

/-- The largest value of a list that is not empty is one of its values, and none is above it. -/
theorem largest_spec {xs : List Int} (h : xs ≠ []) : largest xs ∈ xs ∧ ∀ x ∈ xs, x ≤ largest xs := by
  obtain ⟨a, as, rfl⟩ := List.exists_cons_of_ne_nil h
  exact List.max?_eq_some_iff.mp (by rw [List.max?_cons']; simp [largest])

/-- The smallest value of a list that is not empty is one of its values, and none is below it. -/
theorem smallest_spec {xs : List Int} (h : xs ≠ []) : smallest xs ∈ xs ∧ ∀ x ∈ xs, smallest xs ≤ x := by
  obtain ⟨a, as, rfl⟩ := List.exists_cons_of_ne_nil h
  exact List.min?_eq_some_iff.mp (by rw [List.min?_cons']; simp [smallest])

/-- A list of two or more values still holds its smallest value once one largest value is removed. -/
theorem smallest_mem_erase_largest {xs : List Int} (h : 2 ≤ xs.length) :
    smallest xs ∈ xs.erase (largest xs) := by
  have hne : xs ≠ [] := List.ne_nil_of_length_pos (by omega)
  obtain ⟨hi_mem, hi_max⟩ := largest_spec hne
  obtain ⟨lo_mem, lo_min⟩ := smallest_spec hne
  by_cases heq : smallest xs = largest xs
  · have all_equal : ∀ x ∈ xs, x = smallest xs := fun x hx =>
      le_antisymm (heq ▸ hi_max x hx) (lo_min x hx)
    have hlen : 0 < (xs.erase (largest xs)).length := by
      rw [List.length_erase_of_mem hi_mem]
      omega
    obtain ⟨x, hx⟩ := List.exists_mem_of_length_pos hlen
    exact all_equal x (List.mem_of_mem_erase hx) ▸ hx
  · exact (List.mem_erase_of_ne heq).mpr lo_mem

/-- Of four or more values, one largest, one smallest and what the trimming leaves are the values (R51). -/
theorem trimList_perm {xs : List Int} (h : 4 ≤ xs.length) :
    (largest xs :: smallest xs :: trimList xs).Perm xs := by
  have hi := List.perm_cons_erase (largest_spec (List.ne_nil_of_length_pos (by omega : 0 < xs.length))).1
  have lo := List.perm_cons_erase (smallest_mem_erase_largest (by omega : 2 ≤ xs.length))
  rw [trimList_long h]
  exact (lo.symm.cons _).trans hi.symm

/-- The offsets heard are those of the settled peers, in the order of the stations (R50, R51). -/
theorem Part.settledOffsets_eq (p : Part) :
    p.settledOffsets = (List.finRange 16).filterMap fun x : Station =>
      if (p.peer x).settled = true then (p.peer x).offset else none :=
  List.filterMap_filter ..

/-- Settles O47: R51 by the list that the trimming leaves, and the station's own 0 by the list of each mode. -/
theorem consensusTrimsTheExtremes : Obligations.ConsensusTrimsTheExtremes := by
  refine ⟨fun xs h => ?_, fun xs h => ?_, fun p _ => ?_⟩
  · rw [consensus_eq, trimList_short h]
  · have hne : xs ≠ [] := List.ne_nil_of_length_pos (by omega)
    exact ⟨largest xs, smallest xs, trimList xs, trimList_perm h, (largest_spec hne).2, (smallest_spec hne).2,
      consensus_eq xs⟩
  · rw [Part.acquiringError, Part.trackingError, Part.settledOffsets_eq]
    exact ⟨rfl, rfl⟩

end Sys2Proof.Machine

/-! # What leaves the Time Agreement Unit as it was: every operation but those of the TAU itself, SC and the resets. -/

namespace Sys2Proof.Machine

/-! ## Work done over a list -/

/-- Work that leaves the TAU alone at each item of a list leaves it alone over the list. -/
theorem Part.foldl_tau {α : Type} {f : Part → α → Part} (h : ∀ p a, (f p a).tau = p.tau) (xs : List α) (p : Part) :
    (xs.foldl f p).tau = p.tau := by
  induction xs generalizing p with
  | nil => rfl
  | cons a as ih => rw [List.foldl_cons, ih, h]

/-! ## The fault list and the transmit queue -/

@[simp] theorem Part.endFaults_tau (keys : List FaultKey) (p : Part) : (p.endFaults keys).tau = p.tau := by
  rw [Part.endFaults_frame]

@[simp] theorem Part.enqueue_tau (x : Parcel) (p : Part) : (p.enqueue x).tau = p.tau := by
  rw [Part.enqueue_frame]

/-! ## Playout and the mix -/

@[simp] theorem Part.enterBlock_tau (pb : BlockNo) (p : Part) : (p.enterBlock pb).tau = p.tau := by
  rw [Part.enterBlock_frame]

@[simp] theorem Part.crossTo_tau (order : CrossOrder) (old pos : SampleCount) (p : Part) :
    (p.crossTo order old pos).tau = p.tau := by
  obtain ⟨-, -, htau, -⟩ := Part.crossTo_frame p order old pos
  exact htau

@[simp] theorem Part.drive_tau (p : Part) : p.drive.tau = p.tau := by
  rw [Part.drive_frame]

@[simp] theorem Part.reanchorTo_tau (pos : SampleCount) (p : Part) : (p.reanchorTo pos).tau = p.tau := by
  simp [Part.reanchorTo]

@[simp] theorem Part.moveBy_tau (order : CrossOrder) (old : SampleCount) (n : Nat) (p : Part) :
    (p.moveBy order old n).tau = p.tau := by
  unfold Part.moveBy
  dsimp only
  split
  · simp
  · split <;> simp

@[simp] theorem Part.takeMove_tau (order : CrossOrder) (p : Part) : (p.takeMove order).tau = p.tau := by
  unfold Part.takeMove
  split
  · simp
  · rfl

@[simp] theorem Part.takeSlip_tau (order : CrossOrder) (p : Part) : (p.takeSlip order).tau = p.tau := by
  unfold Part.takeSlip
  split <;> simp

@[simp] theorem Part.completeStep_tau (p : Part) : p.completeStep.tau = p.tau := by
  unfold Part.completeStep
  split <;> simp

@[simp] theorem Part.formTarget_tau (p : Part) : p.formTarget.tau = p.tau := by
  unfold Part.formTarget
  split
  · rfl
  · dsimp only
    split <;> simp

@[simp] theorem Part.beginPlayout_tau (p : Part) : p.beginPlayout.tau = p.tau := by
  simp [Part.beginPlayout]

@[simp] theorem Part.startTurn_tau (p : Part) : p.startTurn.tau = p.tau := by
  unfold Part.startTurn
  split
  · dsimp only
    split <;> simp
  · rfl

@[simp] theorem Part.targetTurn_tau (p : Part) : p.targetTurn.tau = p.tau := by
  unfold Part.targetTurn
  split <;> simp

@[simp] theorem Part.stepPlayout_tau (p : Part) : p.stepPlayout.tau = p.tau := by
  unfold Part.stepPlayout
  split
  · dsimp only
    split <;> simp
  · rfl

@[simp] theorem Part.playTurn_tau (move : MoveTime) (order : CrossOrder) (p : Part) :
    (p.playTurn move order).tau = p.tau := by
  unfold Part.playTurn
  split
  · dsimp only
    split <;> simp
  · rfl

@[simp] theorem Part.idleBoundary_tau (p : Part) : p.idleBoundary.tau = p.tau := by
  unfold Part.idleBoundary
  split <;> simp

@[simp] theorem Part.meterTick_tau (p : Part) : p.meterTick.tau = p.tau := by
  unfold Part.meterTick
  split
  · split <;> rfl
  · rfl

/-! ## Capture and Station Control -/

@[simp] theorem Part.detectorFaults_tau (p : Part) (k : ProgLane) : (p.detectorFaults k).tau = p.tau := by
  unfold Part.detectorFaults
  dsimp only
  split <;> split <;> simp

@[simp] theorem Part.runDetectors_tau (b : CaptureBlock) (p : Part) : (p.runDetectors b).tau = p.tau :=
  Part.foldl_tau Part.detectorFaults_tau _ _

@[simp] theorem Part.talkBlock_tau (b : CaptureBlock) (p : Part) : (p.talkBlock b).tau = p.tau := by
  unfold Part.talkBlock
  split <;> rfl

@[simp] theorem Part.closeAudio_tau (p : Part) : p.closeAudio.tau = p.tau := by
  unfold Part.closeAudio
  split <;> simp

@[simp] theorem Part.closeTalk_tau (endFlag : Bool) (p : Part) : (p.closeTalk endFlag).tau = p.tau := by
  unfold Part.closeTalk
  split <;> simp

@[simp] theorem Part.closeParcels_tau (p : Part) : p.closeParcels.tau = p.tau := by
  unfold Part.closeParcels
  dsimp only
  split <;> split <;> simp

@[simp] theorem Part.closeBlock_tau (p : Part) : p.closeBlock.tau = p.tau := by
  unfold Part.closeBlock
  split
  · rfl
  · dsimp only
    split <;> simp

@[simp] theorem Part.captureTick_tau (p : Part) : p.captureTick.tau = p.tau := by simp [Part.captureTick]

@[simp] theorem Part.controlTurn_tau (p : Part) : p.controlTurn.tau = p.tau := by
  unfold Part.controlTurn
  split
  · dsimp only
    split <;> rfl
  · rfl

/-! ## The taking of a parcel (R26) -/

@[simp] theorem Part.removePeer_tau (s : Station) (p : Part) : (p.removePeer s).tau = p.tau := by
  simp [Part.removePeer]

@[simp] theorem Part.serialChange_tau (s : Station) (v : Option NoticeValues) (p : Part) :
    (p.serialChange s v).tau = p.tau := by
  unfold Part.serialChange
  split
  · split <;> simp
  · rfl

@[simp] theorem Part.takePresence_tau (s : Station) (seq : SeqNo) (sc : SampleCount) (p : Part) :
    (p.takePresence s seq sc).tau = p.tau := by
  unfold Part.takePresence
  split <;> simp

@[simp] theorem Part.takeNotice_tau (s : Station) (v : Option NoticeValues) (p : Part) :
    (p.takeNotice s v).tau = p.tau := by
  unfold Part.takeNotice
  split
  · simp
  · dsimp only
    split <;> split <;> simp

@[simp] theorem Part.takeTalkFlag_tau (s : Station) (x : RxParcel) (v : Option NoticeValues) (p : Part) :
    (p.takeTalkFlag s x v).tau = p.tau := by
  unfold Part.takeTalkFlag
  split <;> simp

@[simp] theorem Part.takeOffset_tau (s : Station) (st : ArrivalStamp) (stamp : SampleCount) (p : Part) :
    (p.takeOffset s st stamp).tau = p.tau := by
  unfold Part.takeOffset
  split
  · split <;> simp
  · rfl

@[simp] theorem Part.takeLag_tau (s : Station) (x : RxParcel) (st : ArrivalStamp) (p : Part) :
    (p.takeLag s x st).tau = p.tau := by
  unfold Part.takeLag
  split <;> simp

@[simp] theorem Part.fillLane_tau (s : Station) (b : BlockNo) (p : Part) (f : LaneNo × StoredLane) :
    (p.fillLane s b f).tau = p.tau := by
  unfold Part.fillLane
  split <;> simp

@[simp] theorem Part.fillLanes_tau (s : Station) (b : BlockNo) (fs : List (LaneNo × StoredLane)) (p : Part) :
    (p.fillLanes s b fs).tau = p.tau :=
  Part.foldl_tau (Part.fillLane_tau s b) fs p

@[simp] theorem Part.tellRefusals_tau (s : Station) (bs : List BlockNo) (p : Part) :
    (p.tellRefusals s bs).tau = p.tau :=
  Part.foldl_tau (fun q b => Part.tellRefusal_tau s b q) bs p

@[simp] theorem Part.admitBlock_tau (s : Station) (pb b : BlockNo) (fs : List (LaneNo × StoredLane)) (p : Part) :
    (p.admitBlock s pb b fs).tau = p.tau := by
  unfold Part.admitBlock
  split
  · simp
  · split
    · simp
    · split
      · simp
      · split <;> simp

@[simp] theorem Part.admitBlocks_tau (s : Station) (pb : BlockNo) (x : RxParcel) (js : List Nat)
    (acc : Part × Bool) : (Part.admitBlocks s pb x js acc).1.tau = acc.1.tau := by
  induction js generalizing acc with
  | nil => rfl
  | cons j js ih =>
    obtain ⟨p, dup⟩ := acc
    rw [Part.admitBlocks, ih, Part.admitBlock_tau]

@[simp] theorem Part.countDuplicate_tau (s : Station) (r : Part × Bool) : (Part.countDuplicate s r).tau = r.1.tau := by
  unfold Part.countDuplicate
  split <;> simp

@[simp] theorem Part.admitParcel_tau (s : Station) (x : RxParcel) (p : Part) : (p.admitParcel s x).tau = p.tau := by
  unfold Part.admitParcel
  split
  · rfl
  · split
    · simp [Part.refuseNotPlaying]
    · split
      · simp [Part.refuseNotPlaying]
      · split
        · simp [Part.refuseUnsettled]
        · split <;> simp [Part.refuseFormat]

@[simp] theorem Part.takeParcelDigest_tau (s : Station) (x : RxParcel) (p : Part) :
    (p.takeParcelDigest s x).tau = p.tau := by
  unfold Part.takeParcelDigest
  split
  · split <;> simp
  · rfl

@[simp] theorem Part.takeBlocks_tau (s : Station) (x : RxParcel) (p : Part) : (p.takeBlocks s x).tau = p.tau := by
  unfold Part.takeBlocks
  split <;> simp

@[simp] theorem Part.takeParcel_tau (x : RxParcel) (st : ArrivalStamp) (p : Part) :
    (p.takeParcel x st).tau = p.tau := by
  unfold Part.takeParcel
  dsimp only
  rw [Part.takeBlocks_tau, Part.takeLag_tau, Part.takeOffset_tau, Part.takeTalkFlag_tau]
  split <;> split <;> split <;> simp

/-! ## The link -/

@[simp] theorem Part.dropFrame_tau (st : ArrivalStamp) (p : Part) : (p.dropFrame st).tau = p.tau := by
  unfold Part.dropFrame
  dsimp only
  split <;> split <;> simp

@[simp] theorem Part.takeOwnFrame_tau (seq : SeqNo) (st : ArrivalStamp) (p : Part) :
    (p.takeOwnFrame seq st).tau = p.tau := by
  unfold Part.takeOwnFrame
  split
  · rfl
  · dsimp only
    split <;> simp

@[simp] theorem Part.takeConflict_tau (body : List Byte) (p : Part) : (p.takeConflict body).tau = p.tau := by
  unfold Part.takeConflict
  split
  · rfl
  · split
    · rfl
    · split <;> simp

@[simp] theorem Part.classify_tau (x : RxParcel) (st : ArrivalStamp) (p : Part) : (p.classify x st).tau = p.tau := by
  unfold Part.classify
  split
  · simp
  · split <;> simp

@[simp] theorem Part.endFrame_tau (bytes : List Byte) (st : ArrivalStamp) (p : Part) :
    (p.endFrame bytes st).tau = p.tau := by
  unfold Part.endFrame
  dsimp only
  split
  · rfl
  · split <;> simp

@[simp] theorem Part.releaseFrame_tau (bytes : List Byte) (p : Part) : (p.releaseFrame bytes).tau = p.tau := by
  unfold Part.releaseFrame
  split <;> simp

@[simp] theorem Part.handOver_tau (p : Part) : p.handOver.tau = p.tau := by
  unfold Part.handOver
  split <;> rfl

/-! ## The counts of a block tick -/

@[simp] theorem Part.noticeTick_tau (p : Part) : p.noticeTick.tau = p.tau := by
  unfold Part.noticeTick
  split
  · split <;> simp
  · rfl

@[simp] theorem Part.echoTick_tau (p : Part) : p.echoTick.tau = p.tau := by
  unfold Part.echoTick
  split
  · dsimp only
    split <;> simp
  · rfl

@[simp] theorem Part.txQuietTick_tau (p : Part) : p.txQuietTick.tau = p.tau := by
  unfold Part.txQuietTick
  split
  · dsimp only
    split <;> simp
  · rfl

@[simp] theorem Part.cleanTick_tau (p : Part) : p.cleanTick.tau = p.tau := by
  unfold Part.cleanTick
  split
  · dsimp only
    split <;> simp
  · rfl

@[simp] theorem Part.storeQuietTick_tau (p : Part) : p.storeQuietTick.tau = p.tau := by
  unfold Part.storeQuietTick
  split
  · dsimp only
    split <;> simp
  · rfl

@[simp] theorem Part.winTick_tau (p : Part) : p.winTick.tau = p.tau := by
  unfold Part.winTick
  split
  · dsimp only
    split <;> simp
  · rfl

@[simp] theorem Part.lagWindowTick_tau (p : Part) : p.lagWindowTick.tau = p.tau := by
  unfold Part.lagWindowTick
  split
  · split <;> rfl
  · rfl

@[simp] theorem Part.joinTick_tau (s : Station) (p : Part) : (p.joinTick s).tau = p.tau := by
  unfold Part.joinTick
  split
  · split <;> simp
  · rfl

@[simp] theorem Part.quietTick_tau (s : Station) (p : Part) : (p.quietTick s).tau = p.tau := by
  unfold Part.quietTick
  split
  · rfl
  · split
    · split <;> simp
    · split <;> simp
    · rfl

@[simp] theorem Part.resyncSeenTick_tau (s : Station) (p : Part) : (p.resyncSeenTick s).tau = p.tau := by
  unfold Part.resyncSeenTick
  split <;> simp

/-! ## Start-up -/

@[simp] theorem Part.endLoad_tau (record : List Byte) (p : Part) : (p.endLoad record).tau = p.tau := by
  unfold Part.endLoad
  split
  · dsimp only
    split
    · rfl
    · rw [Part.raiseConfigDefaulted_tau]
      rfl
  · rfl

@[simp] theorem Part.restartReports_tau (before p : Part) : (Part.restartReports before p).tau = p.tau :=
  Part.foldl_tau (fun q s => Part.emitPeer_tau s q) _ p

/-! ## The panel line -/

@[simp] theorem Part.message_tau (act : Part → Part) (p : Part) :
    (p.message act).tau = (act { p with pnl := p.pnl.frameDone }).tau := rfl

@[simp] theorem Part.messageSelect_tau (act : Part → Part) (p : Part) :
    (p.messageSelect act).tau = (act { p with pnl := p.pnl.frameDone }).tau := rfl

@[simp] theorem Part.fader_tau (group : Byte) (level : BitVec 16) (p : Part) :
    (p.fader group level).tau = p.tau := by
  unfold Part.fader
  split
  · rfl
  · split <;> rfl

@[simp] theorem Part.slope_tau (group : Byte) (time : BitVec 16) (shape : Byte) (p : Part) :
    (p.slope group time shape).tau = p.tau := by
  unfold Part.slope
  split
  · rfl
  · split <;> rfl

@[simp] theorem Part.select_tau (station lane : Byte) (p : Part) : (p.select station lane).tau = p.tau := by
  unfold Part.select
  split
  · rfl
  · split
    · split
      · rfl
      · split <;> rfl
    · rfl

@[simp] theorem Part.assign_tau (value : Byte) (p : Part) : (p.assign value).tau = p.tau := by
  unfold Part.assign
  split
  · rfl
  · split <;> rfl

@[simp] theorem Part.fallback_tau (value : Byte) (p : Part) : (p.fallback value).tau = p.tau := by
  unfold Part.fallback
  split
  · rfl
  · split <;> rfl

@[simp] theorem Part.matrix_tau (output group : Byte) (gain : BitVec 16) (p : Part) :
    (p.matrix output group gain).tau = p.tau := by
  unfold Part.matrix
  split
  · rfl
  · split <;> rfl

@[simp] theorem Part.take_tau (p : Part) : p.take.tau = p.tau := by
  unfold Part.take
  split <;> rfl

@[simp] theorem Part.talk_tau (destination : Byte) (p : Part) : (p.talk destination).tau = p.tau := by
  unfold Part.talk
  split
  · rfl
  · split
    · rfl
    · split <;> rfl

@[simp] theorem Part.talkOff_tau (p : Part) : p.talkOff.tau = p.tau := rfl

@[simp] theorem Part.setContribute_tau (value : Byte) (p : Part) : (p.setContribute value).tau = p.tau := rfl

@[simp] theorem Part.meters_tau (value : Byte) (p : Part) : (p.meters value).tau = p.tau := by
  unfold Part.meters
  split <;> rfl

@[simp] theorem Part.queryStatus_tau (p : Part) : p.queryStatus.tau = p.tau := rfl

@[simp] theorem Part.queryPeer_tau (station : Byte) (p : Part) : (p.queryPeer station).tau = p.tau := by
  unfold Part.queryPeer
  split <;> rfl

@[simp] theorem Part.queryFaults_tau (p : Part) : p.queryFaults.tau = p.tau := rfl

@[simp] theorem Part.query_tau (selector station : Byte) (p : Part) : (p.query selector station).tau = p.tau := by
  unfold Part.query
  split
  · rfl
  · split
    · simp
    · split <;> rfl

@[simp] theorem Part.ackFaults_tau (p : Part) : p.ackFaults.tau = p.tau := by
  unfold Part.ackFaults
  split <;> rfl

@[simp] theorem Part.refuseFrame_tau (reason : RefusalReason) (type : Byte) (p : Part) :
    (p.refuseFrame reason type).tau = p.tau := rfl

@[simp] theorem Part.takeLength_tau (b : Byte) (p : Part) : (p.takeLength b).tau = p.tau := by
  unfold Part.takeLength
  split <;> rfl

@[simp] theorem Part.takePayload_tau (b : Byte) (p : Part) : (p.takePayload b).tau = p.tau := rfl

@[simp] theorem Part.idleReset_tau (p : Part) : p.idleReset.tau = p.tau := by
  unfold Part.idleReset
  dsimp only
  split <;> rfl

@[simp] theorem Part.sendReport_tau (p : Part) : p.sendReport.tau = p.tau := by
  unfold Part.sendReport
  split <;> rfl

end Sys2Proof.Machine

/-! # The ranges of the Time Agreement Unit through every command (R47, R49, R65). -/

namespace Sys2Proof.Machine

/-! ## The TAU's own updates -/

theorem clampInt_range {lo hi : Int} (h : lo ≤ hi) (x : Int) : lo ≤ clampInt lo hi x ∧ clampInt lo hi x ≤ hi := by
  unfold clampInt
  omega

/-- The limits of K are multiples of 48, so that a step left at a limit is one too (R47, R56). -/
theorem correctionAfter_multiple {k : Int} (m : Int) (h : (48 : Int) ∣ k) : (48 : Int) ∣ correctionAfter k m := by
  simp only [correctionAfter, clampInt, correctionLimit, stepSize]
  omega

theorem Tau.restarted_sound (t : Tau) : t.restarted.Sound := by
  constructor <;> simp [Tau.restarted]

section
variable {t : Tau} (h : t.Sound)
include h

/-- The trim word carries T as it stands: T is within the word (R64). -/
theorem Tau.Sound.sendTrim : t.sendTrim.Sound := by
  obtain ⟨lo, hi⟩ := h.trim_range
  have word : t.sendTrim.trimWord.toInt = t.trim := by
    rw [Tau.sendTrim, BitVec.toInt_ofInt, Int.bmod_eq_of_le] <;> omega
  exact { h with word_range := word ▸ h.trim_range }

/-- A step moves K within its limits and takes T from I (R56). -/
theorem Tau.Sound.stepped (m : Int) : (t.stepped m).Sound :=
  { h with
    trim_range := h.integral_range
    unsettled_zero := fun u => ⟨(h.unsettled_zero u).2, (h.unsettled_zero u).2⟩
    correction_multiple := correctionAfter_multiple m h.correction_multiple
    correction_range := clampInt_range (by decide) _
    resync_range := Nat.le_refl 200 }

/-- The trim update clamps I and T; its mode is TRACKING, which is settled (R62). -/
theorem Tau.Sound.trimUpdate (hs : t.mode.settled = true) (m : Int) : (t.trimUpdate m).Sound :=
  { h with
    trim_range := clampInt_range (by decide) _
    integral_range := clampInt_range (by decide) _
    unsettled_zero := fun u => absurd (hs.symm.trans u) Bool.true_eq_false.mp }

theorem Tau.Sound.enterTracking : t.enterTracking.Sound :=
  { h with
    unsettled_zero := (nomatch ·)
    founding_range := Nat.zero_le _, empty_range := Nat.zero_le _, large_range := Nat.zero_le _ }

/-- HOLDOVER takes T from I (R63). -/
theorem Tau.Sound.enterHoldover : t.enterHoldover.Sound :=
  { h with
    trim_range := h.integral_range
    unsettled_zero := (nomatch ·)
    empty_range := Nat.zero_le _, large_range := Nat.zero_le _ }

/-- From FREE or ACQUIRING, where T and I are 0, any mode can be entered (R52, R53, R65). -/
theorem Tau.Sound.withMode_of_unsettled (hu : t.mode.settled = false) (mode : ClockMode) :
    Tau.Sound { t with mode := mode, foundingCount := 0 } :=
  { h with unsettled_zero := fun _ => h.unsettled_zero hu, founding_range := Nat.zero_le _ }

theorem Tau.Sound.backToTracking : Tau.Sound { t with mode := .tracking, largeRun := 0 } :=
  { h with unsettled_zero := (nomatch ·), large_range := Nat.zero_le _ }

theorem Tau.Sound.withFoundingCount {n : Nat} (hn : n ≤ 36) : Tau.Sound { t with foundingCount := n } :=
  { h with founding_range := hn }

theorem Tau.Sound.withEmptyRun {n : Nat} (hn : n ≤ 10) : Tau.Sound { t with emptyRun := n } :=
  { h with empty_range := hn }

theorem Tau.Sound.withLargeRun {n : Nat} (hn : n ≤ 3) : Tau.Sound { t with largeRun := n } :=
  { h with large_range := hn }

theorem Tau.Sound.countResync : Tau.Sound { t with resyncTimer := t.resyncTimer - 1 } :=
  { h with resync_range := (Nat.sub_le ..).trans h.resync_range }

theorem Tau.Sound.withSc (sc : SampleCount) : Tau.Sound { t with sc := sc } := { h with }

end

/-! ## The work of each mode (R50) -/

/-- Of a step, the TAU takes its own part alone: what Δ does elsewhere leaves it alone (R56, R57). -/
@[simp] theorem Part.takeStep_tau (m : Int) (p : Part) : (p.takeStep m).tau = p.tau.stepped m := by
  simp [Part.takeStep]

/-- A founding limit is at most 36, station 16's (R55). -/
theorem Part.foundingLimit_le (p : Part) : p.foundingLimit ≤ 36 := by
  have := p.sul.own.isLt
  unfold Part.foundingLimit Station.number
  omega

section
variable {p : Part} (h : p.tau.Sound)
include h

theorem Part.freeWork_keeps_tau_sound (hm : p.tau.mode = .free) : p.freeWork.tau.Sound := by
  unfold Part.freeWork
  split
  · exact h.withMode_of_unsettled (by rw [hm]; rfl) _
  · exact h

theorem Part.acquiringWork_keeps_tau_sound (hm : p.tau.mode = .acquiring) : p.acquiringWork.tau.Sound := by
  unfold Part.acquiringWork
  split
  · exact h.withMode_of_unsettled (by rw [hm]; rfl) _
  · split
    · split
      · exact h.enterTracking
      · next below =>
        have := p.foundingLimit_le
        exact h.withFoundingCount (by omega)
    · dsimp only
      split
      · rw [Part.takeStep_tau]
        exact h.enterTracking.stepped _
      · exact h.enterTracking

/-- The third large error steps and clears the run; a shorter run counts, and every other error updates the trim. -/
theorem Part.consensusWork_keeps_tau_sound (hs : p.tau.mode.settled = true) : p.consensusWork.tau.Sound := by
  unfold Part.consensusWork
  dsimp only
  split
  · split
    · rw [Part.takeStep_tau]
      exact (h.withLargeRun (Nat.zero_le _)).stepped _
    · next below =>
      have counted : p.tau.largeRun + 1 ≤ 3 := by omega
      exact (h.withLargeRun counted).trimUpdate hs _
  · exact (h.withLargeRun (Nat.zero_le _)).trimUpdate hs _

theorem Part.trackingWork_keeps_tau_sound (hm : p.tau.mode = .tracking) : p.trackingWork.tau.Sound := by
  have hs : p.tau.mode.settled = true := by rw [hm]; rfl
  unfold Part.trackingWork
  split
  · exact h.enterHoldover
  · split
    · split
      · exact h.enterHoldover
      · exact Part.consensusWork_keeps_tau_sound (h.withEmptyRun (by omega)) hs
    · exact Part.consensusWork_keeps_tau_sound (h.withEmptyRun (Nat.zero_le _)) hs

theorem Part.holdoverWork_keeps_tau_sound : p.holdoverWork.tau.Sound := by
  unfold Part.holdoverWork
  split
  · exact h.backToTracking.trimUpdate rfl _
  · exact h

theorem Part.modeWork_keeps_tau_sound : p.modeWork.tau.Sound := by
  unfold Part.modeWork
  split
  · next hm => exact Part.freeWork_keeps_tau_sound h hm
  · next hm => exact Part.acquiringWork_keeps_tau_sound h hm
  · next hm => exact Part.trackingWork_keeps_tau_sound h hm
  · exact Part.holdoverWork_keeps_tau_sound h

/-! ## The agreement instant and the block tick -/

theorem Part.tauWork_keeps_tau_sound : p.tauWork.tau.Sound := by
  unfold Part.tauWork
  split
  · dsimp only
    split
    · exact Part.modeWork_keeps_tau_sound h
    · exact h
  · exact h

theorem Part.trimTurn_keeps_tau_sound : p.trimTurn.tau.Sound := h.sendTrim

theorem Part.targetTurn_keeps_tau_sound : p.targetTurn.tau.Sound := by rwa [Part.targetTurn_tau]

theorem Part.agreementWork_keeps_tau_sound (order : InstantOrder) : (p.agreementWork order).tau.Sound := by
  unfold Part.agreementWork
  split
  · cases order with
    | timeFirst =>
      have := Part.trimTurn_keeps_tau_sound (Part.tauWork_keeps_tau_sound h)
      simpa using this
    | playoutFirst =>
      have := Part.trimTurn_keeps_tau_sound (Part.tauWork_keeps_tau_sound (Part.targetTurn_keeps_tau_sound h))
      simpa using this
    | targetOnly => exact Part.targetTurn_keeps_tau_sound h
  · exact h

theorem Part.resyncTick_keeps_tau_sound : p.resyncTick.tau.Sound := by
  unfold Part.resyncTick
  split
  · exact h.countResync
  · exact h

/-- Of the jobs of a block tick, the closing of the block and the RESYNC timer alone reach the TAU. -/
theorem Part.jobWork_keeps_tau_sound (j : TickJob) : (Part.jobWork j p).tau.Sound := by
  cases j
  case capture =>
    have := Part.tauWork_keeps_tau_sound h
    simpa [Part.jobWork, Part.captureWork] using this
  case resyncTimer => exact Part.resyncTick_keeps_tau_sound h
  all_goals simpa [Part.jobWork] using h

theorem Part.runJob_keeps_tau_sound (j : TickJob) : (p.runJob j).tau.Sound := by
  unfold Part.runJob Part.takeJob
  split
  · exact Part.jobWork_keeps_tau_sound (p := { p with moment := p.moment.took j }) h j
  · exact h

theorem Part.expire_keeps_tau_sound (j : TickJob) (outcome : Bool) : (p.expire j outcome).tau.Sound := by
  unfold Part.expire
  split
  · exact Part.runJob_keeps_tau_sound h j
  · exact h

omit h in
theorem Part.runJobs_keeps_tau_sound (js : List TickJob) {p : Part} (h : p.tau.Sound) :
    (p.runJobs js).tau.Sound := by
  induction js generalizing p with
  | nil => exact h
  | cons j js ih => exact ih (Part.runJob_keeps_tau_sound h j)

theorem Part.tickWork_keeps_tau_sound : p.tickWork.tau.Sound := by
  unfold Part.tickWork
  split
  · have := Part.runJobs_keeps_tau_sound tickJobs h
    simpa using this
  · exact h

/-! ## The sample period -/

theorem Part.settle_keeps_tau_sound : p.settle.tau.Sound := by
  have moved : (p.takeMove .evaluationFirst).tau.Sound := by rwa [Part.takeMove_tau]
  have agreed := Part.agreementWork_keeps_tau_sound moved .timeFirst
  exact Part.tickWork_keeps_tau_sound (by simpa using agreed)

theorem Part.samplePeriod_keeps_tau_sound (x : InputSample) (move : MoveTime) (order : CrossOrder) :
    (p.samplePeriod x move order).tau.Sound := by
  rw [Part.samplePeriod, Part.playTurn_tau]
  exact (Part.settle_keeps_tau_sound h).withSc _

/-! ## The link port -/

theorem Part.handOverNow_keeps_tau_sound : p.handOverNow.tau.Sound := by
  unfold Part.handOverNow
  split
  · rw [Part.handOver_tau]
    exact Part.tauWork_keeps_tau_sound h
  · exact h

theorem Part.arrive_keeps_tau_sound : p.arrive.tau.Sound := Part.tauWork_keeps_tau_sound h

end

/-! ## The resets -/

/-- A reset by power or pin is a RESTART of the TAU with SC begun again at 0 (R49). -/
@[simp] theorem Part.hardReset_tau (straps : BitVec 4) (role : Role) (p : Part) :
    (p.hardReset straps role).tau = { p.tau.restarted with sc := 0 } := rfl

theorem Part.restart_loading {p : Part} (h : p.cap.station = .loading) : p.restart = p := if_pos h

/-- RESTART outside LOADING gives the TAU its reset values, SC aside (R66, R67). -/
theorem Part.restart_tau {p : Part} (h : p.cap.station ≠ .loading) : p.restart.tau = p.tau.restarted := by
  rw [Part.restart, if_neg h, Part.endFaults_tau, Part.endConflict_tau, Part.restartReports_tau]
  rfl

section
variable {p : Part} (h : p.tau.Sound)
include h

theorem Part.restart_keeps_tau_sound : p.restart.tau.Sound := by
  by_cases loading : p.cap.station = .loading
  · rwa [Part.restart_loading loading]
  · rw [Part.restart_tau loading]
    exact p.tau.restarted_sound

/-! ## The panel line -/

omit h in
theorem Part.tau_sound_of_branches {c : Prop} [Decidable c] {q r : Part} (hq : q.tau.Sound) (hr : r.tau.Sound) :
    (if c then q else r).tau.Sound := by
  split
  · exact hq
  · exact hr

/-- A frame reaches the TAU only by the RESTART it may be: the thirteen other types leave the TAU as it was (R187,
R193). -/
theorem Part.actMessage_keeps_tau_sound (type : Byte) (b : List Byte) : (p.actMessage type b).tau.Sound := by
  have restarted : (p.message Part.restart).tau.Sound := Part.restart_keeps_tau_sound h
  unfold Part.actMessage
  dsimp only
  iterate 13 refine Part.tau_sound_of_branches (by simpa using h) ?_
  exact restarted

theorem Part.takeFrame_keeps_tau_sound (type length : Byte) (payload : List Byte) (check : Byte) :
    (p.takeFrame type length payload check).tau.Sound := by
  unfold Part.takeFrame
  split
  · exact h
  · exact Part.actMessage_keeps_tau_sound h type payload

theorem Part.takePanelByte_keeps_tau_sound (stopHigh : Bool) (b : Byte) :
    (p.takePanelByte stopHigh b).tau.Sound := by
  unfold Part.takePanelByte
  split
  · split
    · exact h
    · split <;> exact h
  · split
    · simpa using h
    · exact h
  · split <;> exact h
  · split
    · exact Part.takeFrame_keeps_tau_sound h ..
    · exact h

end

/-! ## Every command -/

/-- Every command keeps the TAU's ranges (R47, R49, R65). The commands named reach the TAU's work; the others leave the
TAU as it was. -/
theorem exec_keeps_tau_sound (c : Instr) {s t : State} (h : s.part.tau.Sound) (e : exec c s = .next t) :
    t.part.tau.Sound := by
  cases c <;> cases e <;> rw [State.withPart_part]
  case powerOnReset | resetPin =>
    rw [Part.hardReset_tau]
    exact s.part.tau.restarted_sound.withSc 0
  case restart => exact Part.restart_keeps_tau_sound h
  case samplePeriod => exact Part.samplePeriod_keeps_tau_sound h ..
  case blockTick => exact Part.tickWork_keeps_tau_sound h
  case agreementInstant order => exact Part.agreementWork_keeps_tau_sound h order
  case founding | emptyRunExpiry | largeRunStep =>
    split
    · exact Part.tauWork_keeps_tau_sound h
    · exact h
  case parcelHandover => exact Part.handOverNow_keeps_tau_sound h
  case linkRxframeAssert => exact Part.arrive_keeps_tau_sound h
  case unknownMessage => exact Part.takeFrame_keeps_tau_sound h ..
  case panelByte | panelFramingError => exact Part.takePanelByte_keeps_tau_sound h ..
  case silentSet | silentClear | stuckSet | leaveOnAir | talkSessionAdvance | meterReport | txOverrunEnd
      | noticeDue | linkErrorsEnd | echoLost | storeFullEnd | wonEnd | joinExpiry | peerLapse | lapseExpiry
      | resyncSeenExpiry | lagWindowEnd | resyncTimerExpiry =>
    exact Part.expire_keeps_tau_sound h ..
  case talkLaneRelease | fallbackReturn =>
    split
    · rwa [Part.takeMove_tau]
    · exact h
  all_goals simpa using h

/-- A step runs the command at the front, and idles on an empty queue; either keeps the TAU's ranges. -/
theorem step_keeps_tau_sound {s t : State} (h : s.part.tau.Sound) (e : step s = .next t) : t.part.tau.Sound := by
  unfold step at e
  split at e
  · cases e
    exact h
  · next c rest _ => exact exec_keeps_tau_sound c (s := { s with pending := rest }) h e

/-- Settles O55: each step by the updates of the TAU that it makes, and the resets by the values they set (R65). -/
theorem stepKeepsTheTrimInRange : Obligations.StepKeepsTheTrimInRange := by
  refine ⟨fun s t => step_keeps_tau_sound, fun s c straps role reset => ?_⟩
  rcases reset with rfl | rfl | ⟨rfl, running⟩
  · exact ⟨_, rfl, rfl, rfl⟩
  · exact ⟨_, rfl, rfl, rfl⟩
  · refine ⟨_, rfl, ?_⟩
    have cleared := Part.restart_tau (p := { s.part with pnl := s.part.pnl.frameDone }) running
    rw [Part.message_tau, cleared]
    exact ⟨rfl, rfl⟩

end Sys2Proof.Machine

/-! # The limits of the link through its own updates: the queue's order, the echo table and E (R6, R12, R15, R17, R19). -/

namespace Sys2Proof.Machine

/-! ## The transmit queue (R6, R7) -/

/-- A queue in which no NOTICE stands behind an AUDIO or TALK (R6). -/
def NoticesFirst (q : List Parcel) : Prop := (q.dropWhile (·.kind == .notice)).all (·.kind != .notice) = true

/-- Such a queue is NOTICEs and then other parcels. -/
theorem noticesFirst_iff (q : List Parcel) :
    NoticesFirst q ↔ ∃ ns os, q = ns ++ os ∧ (∀ x ∈ ns, x.kind = .notice) ∧ ∀ x ∈ os, x.kind ≠ .notice := by
  constructor
  · intro h
    refine ⟨_, _, (List.takeWhile_append_dropWhile (p := (·.kind == ParcelKind.notice))).symm, fun x hx => ?_, fun x hx => ?_⟩
    · simpa using List.mem_takeWhile_imp hx
    · simpa using List.all_eq_true.mp h x hx
  · rintro ⟨ns, os, rfl, hns, hos⟩
    have split : (ns ++ os).dropWhile (·.kind == .notice) = os := by
      rw [List.dropWhile_append_of_pos (by simpa using hns)]
      cases os with
      | nil => rfl
      | cons x xs => exact List.dropWhile_cons_of_neg (by simpa using hos x List.mem_cons_self)
    rw [NoticesFirst, split]
    simpa using hos

/-- The head of a queue leaves its order as it was. -/
theorem NoticesFirst.tail {x : Parcel} {q : List Parcel} (h : NoticesFirst (x :: q)) : NoticesFirst q := by
  obtain ⟨ns, os, e, hns, hos⟩ := (noticesFirst_iff _).mp h
  cases ns with
  | nil =>
    cases e
    exact (noticesFirst_iff _).mpr ⟨[], q, rfl, by simp, fun y hy => hos y (List.mem_cons_of_mem _ hy)⟩
  | cons n ns =>
    cases e
    exact (noticesFirst_iff _).mpr ⟨ns, os, rfl, fun y hy => hns y (List.mem_cons_of_mem _ hy), hos⟩

theorem NoticesFirst.placeParcel {q : List Parcel} (h : NoticesFirst q) (x : Parcel) :
    NoticesFirst (placeParcel x q) := by
  unfold Machine.placeParcel
  split
  · next hx =>
    refine (noticesFirst_iff _).mpr ⟨_, _, rfl, fun y hy => ?_, fun y hy => ?_⟩
    · rcases List.mem_append.mp hy with hy | hy
      · simpa using List.mem_takeWhile_imp hy
      · rwa [List.mem_singleton.mp hy]
    · simpa using List.all_eq_true.mp h y hy
  · next hx =>
    obtain ⟨ns, os, rfl, hns, hos⟩ := (noticesFirst_iff _).mp h
    refine (noticesFirst_iff _).mpr ⟨ns, os ++ [x], List.append_assoc .., hns, fun y hy => ?_⟩
    rcases List.mem_append.mp hy with hy | hy
    · exact hos y hy
    · rwa [List.mem_singleton.mp hy]

/-- Without its oldest AUDIO or TALK a queue keeps its order (R7). -/
theorem NoticesFirst.eraseOther {q : List Parcel} (h : NoticesFirst q) :
    NoticesFirst (q.eraseP (·.kind != .notice)) := by
  obtain ⟨ns, os, rfl, hns, hos⟩ := (noticesFirst_iff _).mp h
  rw [List.eraseP_append_right _ (by simpa using hns)]
  exact (noticesFirst_iff _).mpr ⟨ns, _, rfl, hns, fun y hy => hos y (List.mem_of_mem_eraseP hy)⟩

theorem NoticesFirst.placeFull {q : List Parcel} (h : NoticesFirst q) (x : Parcel) : NoticesFirst (placeFull x q) := by
  unfold Machine.placeFull
  split
  · exact h.eraseOther.placeParcel x
  · split
    · refine NoticesFirst.placeParcel ?_ x
      cases q with
      | nil => exact h
      | cons y ys => exact h.tail
    · exact h

theorem placeParcel_length (x : Parcel) (q : List Parcel) : (placeParcel x q).length = q.length + 1 := by
  unfold placeParcel placeNotice
  split
  · have := congrArg List.length (List.takeWhile_append_dropWhile (p := (·.kind == ParcelKind.notice)) (l := q))
    simp only [List.length_append, List.length_singleton] at this ⊢
    omega
  · simp

/-- At a full queue one parcel leaves for the one that joins (R7). -/
theorem placeFull_length (x : Parcel) (q : List Parcel) (h : q ≠ []) : (placeFull x q).length = q.length := by
  have hq := List.length_pos_iff.mpr h
  unfold placeFull
  split
  · next any =>
    obtain ⟨a, ha, hk⟩ := List.any_eq_true.mp any
    rw [placeParcel_length, List.length_eraseP_of_mem ha hk]
    omega
  · split
    · rw [placeParcel_length, List.length_drop]
      omega
    · rfl

/-! ## The echo table (R17, R19) -/

theorem dropEcho_distinct (seq : SeqNo) {t : List EchoEntry} (h : (t.map (·.sequence)).Nodup) :
    ((dropEcho seq t).map (·.sequence)).Nodup := h.sublist (List.filter_sublist.map _)

theorem dropEcho_length (seq : SeqNo) (t : List EchoEntry) : (dropEcho seq t).length ≤ t.length :=
  List.length_filter_le _ _

theorem mem_dropEcho {seq : SeqNo} {t : List EchoEntry} {e : EchoEntry} (h : e ∈ dropEcho seq t) :
    e.sequence ≠ seq := by simpa using (List.mem_filter.mp h).2

theorem joinEcho_length (x : EchoEntry) {t : List EchoEntry} (h : t.length ≤ 16) : (joinEcho x t).length ≤ 16 := by
  have kept := dropEcho_length x.sequence t
  simp only [joinEcho, Config.echoTableLimit, List.length_append, List.length_singleton]
  split
  · omega
  · rw [List.length_drop]
    omega

/-- What is kept holds no entry of the number that joins, so the numbers stay distinct (R17; log 34). -/
theorem joinEcho_distinct (x : EchoEntry) {t : List EchoEntry} (h : (t.map (·.sequence)).Nodup) :
    ((joinEcho x t).map (·.sequence)).Nodup := by
  have joined : ∀ kept : List EchoEntry, kept.Sublist (dropEcho x.sequence t) →
      ((kept ++ [x]).map (·.sequence)).Nodup := by
    intro kept hk
    rw [List.map_append, List.nodup_append]
    refine ⟨(dropEcho_distinct x.sequence h).sublist (hk.map _), by simp, fun n hn m hm => ?_⟩
    obtain ⟨e, he, rfl⟩ := List.mem_map.mp hn
    simp only [List.map_cons, List.map_nil, List.mem_singleton] at hm
    exact hm ▸ mem_dropEcho (hk.subset he)
  unfold joinEcho
  dsimp only
  split
  · exact joined _ (List.Sublist.refl _)
  · exact joined _ (List.drop_sublist ..)

/-- The filter of R19 keeps E between the value held and the measurement. -/
theorem echoFilter_le {held e : Int} (h0 : 0 ≤ held) (h : held ≤ 65535) (e0 : 0 ≤ e) (he : e ≤ 65535) :
    (held + floorDiv (e - held) 8).toNat ≤ 65535 := by
  simp only [floorDiv]
  rw [Int.fdiv_eq_ediv_of_nonneg _ (by decide)]
  omega

/-! ## The updates of the link -/

theorem Liu.restarted_sound (l : Liu) : l.restarted.Sound := by
  constructor <;> simp [Liu.restarted]

section
variable {l : Liu} (h : l.Sound)
include h

theorem Liu.Sound.notices : NoticesFirst l.queue := h.notices_first

theorem Liu.Sound.join (x : Parcel) (room : l.queue.length < 8) :
    Liu.Sound { l with queue := placeParcel x l.queue } :=
  { h with
    queue_limit := by
      rw [placeParcel_length]
      omega
    notices_first := h.notices.placeParcel x }

theorem Liu.Sound.evict (x : Parcel) (full : 8 ≤ l.queue.length) (dropped : Nat) :
    Liu.Sound { l with queue := placeFull x l.queue, txDropped := dropped, txQuiet := 0 } :=
  { h with
    queue_limit := by
      rw [placeFull_length x _ (List.ne_nil_of_length_pos (by omega))]
      exact h.queue_limit
    notices_first := h.notices.placeFull x
    quiet_range := Nat.zero_le _ }

theorem Liu.Sound.handOver {x : Parcel} {rest : List Parcel} (e : l.queue = x :: rest) (tx : Option TxFrame)
    (seq : SeqNo) (entry : EchoEntry) :
    Liu.Sound { l with queue := rest, tx := tx, sequence := seq, echoTable := joinEcho entry l.echoTable } :=
  { h with
    queue_limit := by
      have := h.queue_limit
      rw [e, List.length_cons] at this
      exact (Nat.le_succ _).trans this
    notices_first := NoticesFirst.tail (x := x) (e ▸ h.notices)
    echo_limit := joinEcho_length entry h.echo_limit
    echo_distinct := joinEcho_distinct entry h.echo_distinct }

theorem Liu.Sound.dropEcho (seq : SeqNo) : Liu.Sound { l with echoTable := dropEcho seq l.echoTable } :=
  { h with
    echo_limit := (dropEcho_length seq _).trans h.echo_limit
    echo_distinct := dropEcho_distinct seq h.echo_distinct }

theorem Liu.Sound.abort : l.abort.Sound := by
  have emptied : Liu.Sound { l with queue := [] } := { h with queue_limit := Nat.zero_le _, notices_first := rfl }
  unfold Liu.abort
  split
  · exact emptied
  · next f _ => exact { emptied.dropEcho f.sequence with }

theorem Liu.Sound.badFrame (errors block : Nat) :
    let joined := l.badFrames ++ [block]
    Liu.Sound { l with
      linkErrors := errors
      badFrames := if 10 < joined.length then joined.drop 1 else joined
      cleanBlocks := 0 } :=
  { h with
    bad_limit := by
      have := h.bad_limit
      dsimp only
      split
      · simp only [List.length_drop, List.length_append, List.length_singleton]
        omega
      · omega
    clean_range := Nat.zero_le _ }

/-- E stays absent exactly at echo count 0 and within its range as a measurement is taken (R19). -/
theorem Liu.Sound.takeEcho {e : Nat} (he : e ≤ 65535) : (l.takeEcho e).Sound :=
  { h with
    echo_count := Nat.min_le_right ..
    echo_absent := by simp [Liu.takeEcho]
    echo_range := by
      have held : l.echoDelay.getD e ≤ 65535 := by
        cases hd : l.echoDelay with
        | none => exact he
        | some d => exact h.echo_range d hd
      intro d hd
      simp only [Liu.takeEcho, Option.some.injEq] at hd
      rw [← hd]
      split
      · exact he
      · exact echoFilter_le (by omega) (by omega) (by omega) (by omega) }

theorem Liu.Sound.loseEcho (n : Nat) :
    Liu.Sound { l with echoLostCount := n, echoDelay := none, echoCount := 0 } :=
  { h with echo_count := Nat.zero_le _, echo_absent := by simp, echo_range := by simp }

theorem Liu.Sound.collect (bytes : List Byte) : (l.collect bytes).Sound :=
  { h with store_limit := List.length_take_le .. }

theorem Liu.Sound.beginFrame (st : ArrivalStamp) : (l.beginFrame st).Sound :=
  { h with store_limit := Nat.zero_le _ }

theorem Liu.Sound.withQuiet {n : Nat} (hn : n ≤ 1000) : Liu.Sound { l with txQuiet := n } :=
  { h with quiet_range := hn }

theorem Liu.Sound.withClean {n : Nat} (hn : n ≤ 1000) : Liu.Sound { l with cleanBlocks := n } :=
  { h with clean_range := hn }

end

end Sys2Proof.Machine

/-! # The limits of the fault list and of the panel line through their own updates (R177 to R181, R186, R188, R194). -/

namespace Sys2Proof.Machine

/-! ## The fault list -/

/-- The form of a fault list: its length, one record for each kind and subject, counts of 1 to 255 (R177). -/
structure FaultsForm (list : List FaultRecord) : Prop where
  limit : list.length ≤ 32
  distinct : (list.map (·.key)).Nodup
  counts : ∀ r ∈ list, 1 ≤ r.count ∧ r.count ≤ 255

theorem Faults.sound_iff (f : Faults) : f.Sound ↔ FaultsForm f.list :=
  ⟨fun h => ⟨h.limit, h.distinct, h.counts⟩, fun h => ⟨h.limit, h.distinct, h.counts⟩⟩

theorem count_raised {n : Nat} (h : 1 ≤ n ∧ n ≤ 255) : 1 ≤ satAdd 255 n 1 ∧ satAdd 255 n 1 ≤ 255 := by
  unfold satAdd
  omega

theorem displace_sublist (list : List FaultRecord) : (displace list).Sublist list := by
  unfold displace
  split
  · exact List.eraseP_sublist
  · exact List.drop_sublist ..

/-- A list that is not empty is one record shorter once a record is displaced (R180). -/
theorem displace_length {list : List FaultRecord} (h : 0 < list.length) :
    (displace list).length + 1 = list.length := by
  unfold displace
  split
  · next any =>
    obtain ⟨r, hr, ended⟩ := List.any_eq_true.mp any
    rw [List.length_eraseP_of_mem hr ended]
    omega
  · rw [List.length_drop]
    omega

section
variable {list : List FaultRecord} (h : FaultsForm list)
include h

theorem FaultsForm.sublist {sub : List FaultRecord} (hs : sub.Sublist list) : FaultsForm sub :=
  ⟨hs.length_le.trans h.limit, h.distinct.sublist (hs.map _), fun r hr => h.counts r (hs.subset hr)⟩

/-- The record of a key replaced by one of that key with a count in range. -/
theorem FaultsForm.update {r' : FaultRecord} (hc : 1 ≤ r'.count ∧ r'.count ≤ 255) :
    FaultsForm (updateRecord r'.key (fun _ => r') list) := by
  refine ⟨?_, ?_, fun r hr => ?_⟩
  · rw [updateRecord, List.length_map]
    exact h.limit
  · rw [updateRecord_keys r'.key (fun _ => r') list fun _ _ => rfl]
    exact h.distinct
  · obtain ⟨x, hx, rfl⟩ := List.mem_map.mp hr
    split
    · exact hc
    · exact h.counts x hx

/-- A record of a key that the list holds none of joins it at its end. -/
theorem FaultsForm.join {r : FaultRecord} (room : list.length < 32) (hnew : ∀ x ∈ list, x.key ≠ r.key)
    (hc : 1 ≤ r.count ∧ r.count ≤ 255) : FaultsForm (list ++ [r]) := by
  refine ⟨?_, ?_, fun x hx => ?_⟩
  · rw [List.length_append, List.length_singleton]
    omega
  · rw [List.map_append, List.nodup_append]
    refine ⟨h.distinct, by simp, fun k hk k' hk' => ?_⟩
    obtain ⟨x, hx, rfl⟩ := List.mem_map.mp hk
    simp only [List.map_cons, List.map_nil, List.mem_singleton] at hk'
    exact hk' ▸ hnew x hx
  · rcases List.mem_append.mp hx with hx | hx
    · exact h.counts x hx
    · rwa [List.mem_singleton.mp hx]

/-- At a full list OVERFLOW is counted, or takes the place of the record displaced (R180). -/
theorem FaultsForm.overflow (full : 32 ≤ list.length) (block : Nat) : FaultsForm (overflowRaise block list).1 := by
  unfold overflowRaise
  split
  · next r found =>
    exact h.update (r' := { r with count := satAdd 255 r.count 1 }) (count_raised (h.counts r (findRecord_some found).1))
  · next missing =>
    have shorter := displace_length (list := list) (by omega)
    have limit := h.limit
    exact (h.sublist (displace_sublist list)).join (by omega)
      (fun x hx => findRecord_none.mp missing x ((displace_sublist list).subset hx)) ⟨Nat.le_refl 1, Nat.le_add_left 1 254⟩

theorem FaultsForm.raise (block : Nat) (key : FaultKey) (detail : Option Verdict) (recurs : Bool) :
    FaultsForm (raiseRecord block key detail recurs list).1 := by
  unfold raiseRecord
  split
  · next r found =>
    obtain ⟨hr, rfl⟩ := findRecord_some found
    have held := h.counts r hr
    exact h.update (r' := { r with
      active := true, detail := detail, count := if r.active && !recurs then r.count else satAdd 255 r.count 1 })
      (by
        dsimp only
        split
        · exact held
        · exact count_raised held)
  · next missing =>
    split
    · next room => exact h.join room (findRecord_none.mp missing) ⟨Nat.le_refl 1, Nat.le_add_left 1 254⟩
    · next full => exact h.overflow (Nat.not_lt.mp full) block

theorem FaultsForm.end (key : FaultKey) (d : Option Verdict) : FaultsForm (endRecord key d list).1 := by
  unfold endRecord
  split
  · next r found =>
    obtain ⟨hr, rfl⟩ := findRecord_some found
    split
    · exact h.update (r' := { r with active := false }) (h.counts r hr)
    · exact h
  · exact h

end

/-! ## The panel line -/

/-- A selection set within its limit, all different (R188). -/
def Pnl.Selected (q : Pnl) : Prop := q.selection.length ≤ 32 ∧ q.selection.Nodup

theorem Pnl.emit_selection (q : Pnl) (r : Report) : (q.emit r).selection = q.selection := by
  rw [Pnl.emit_frame]
  rfl

theorem Pnl.emitAll_selection (q : Pnl) (rs : List Report) : (q.emitAll rs).selection = q.selection := by
  rw [Pnl.emitAll_frame]
  rfl

theorem Pnl.Selected.same {q q' : Pnl} (e : q'.selection = q.selection) (h : q.Selected) : q'.Selected := by
  rwa [Pnl.Selected, e]

theorem Pnl.Selected.nothing {q : Pnl} (e : q.selection = []) : q.Selected := by simp [Pnl.Selected, e]

theorem Pnl.Selected.select {q : Pnl} (h : q.Selected) {x : Station × ProgLane} (hx : x ∉ q.selection)
    (room : q.selection.length < 32) : Pnl.Selected { q with selection := q.selection ++ [x] } := by
  refine ⟨?_, List.nodup_append.mpr ⟨h.2, by simp, fun a ha b hb => ?_⟩⟩
  · rw [List.length_append, List.length_singleton]
    omega
  · rw [List.mem_singleton.mp hb]
    rintro rfl
    exact hx ha

section
variable {q : Pnl} (h : q.Sound)
include h

theorem Pnl.Sound.emit (r : Report) : (q.emit r).Sound := by
  have limit := Pnl.emit_length q r h.report_limit
  rw [Pnl.emit_frame] at limit ⊢
  exact { h with report_limit := limit }

omit h in
theorem Pnl.Sound.emitAll (rs : List Report) {q : Pnl} (h : q.Sound) : (q.emitAll rs).Sound := by
  induction rs generalizing q with
  | nil => exact h
  | cons r rs ih => exact ih (h.emit r)

theorem Pnl.Sound.frameDone : q.frameDone.Sound :=
  { h with payload_limit := Nat.zero_le _, payload_short := (nomatch ·) }

theorem Pnl.Sound.emptySelection : Pnl.Sound { q with selection := [] } :=
  { h with selection_limit := Nat.zero_le _, selection_distinct := List.nodup_nil }

theorem Pnl.Sound.select {x : Station × ProgLane} (hx : x ∉ q.selection) (room : q.selection.length < 32) :
    Pnl.Sound { q with selection := q.selection ++ [x] } :=
  have joined := Pnl.Selected.select ⟨h.selection_limit, h.selection_distinct⟩ hx room
  { h with selection_limit := joined.1, selection_distinct := joined.2 }

/-- A framer out of PAYLOAD holds no payload that must be short of its length. -/
theorem Pnl.Sound.framed {state : FramerState} (hs : state ≠ .payload) (type : Byte) (discard : Bool) (idle : Nat) :
    Pnl.Sound { q with framer := state, msgType := type, discard := discard, idle := idle } :=
  { h with payload_short := fun e => absurd e hs }

theorem Pnl.Sound.takeLength {b : Byte} (hb : b.toNat ≤ 32) :
    Pnl.Sound { q with
      framer := if b = 0 then .waitCheck else .payload, msgLength := b, msgPayload := [], idle := 0 } :=
  { h with
    payload_limit := Nat.zero_le _
    payload_short := fun e => by
      have positive : b ≠ 0 := by
        rintro rfl
        exact nomatch e
      have : b.toNat ≠ 0 := fun z => positive (BitVec.eq_of_toNat_eq z)
      exact ⟨Nat.pos_of_ne_zero this, hb⟩ }

/-- In PAYLOAD a byte joins a payload short of its length; at its length the framer leaves PAYLOAD (R186). -/
theorem Pnl.Sound.takePayload (hs : q.framer = .payload) (b : Byte) :
    Pnl.Sound { q with
      framer := if q.msgLength.toNat ≤ (q.msgPayload ++ [b]).length then .waitCheck else .payload
      msgPayload := q.msgPayload ++ [b], idle := 0 } := by
  obtain ⟨short, limit⟩ := h.payload_short hs
  have joined : (q.msgPayload ++ [b]).length = q.msgPayload.length + 1 := by simp
  refine { h with payload_limit := ?_, payload_short := fun e => ⟨?_, limit⟩ }
  · dsimp only
    omega
  · by_contra full
    dsimp only at e full
    rw [if_pos (Nat.not_lt.mp full)] at e
    exact nomatch e

theorem Pnl.Sound.send {r : Report} {rest : List Report} (e : q.reports = r :: rest) (frames : List (List Byte)) :
    Pnl.Sound { q with reports := rest, sending := frames } :=
  { h with
    report_limit := by
      have := h.report_limit
      rw [e, List.length_cons] at this
      exact (Nat.le_succ _).trans this }

end

end Sys2Proof.Machine

/-! # The ranges of the peer records and of the mix through their own updates (R23, R33 to R42, R147 to R163). -/

namespace Sys2Proof.Machine

/-! ## Peer records (R23) -/

theorem PeerRecord.cleared_sound : PeerRecord.cleared.Sound := by
  constructor <;> simp [PeerRecord.cleared]

theorem satAdd_le (limit a k : Nat) : satAdd limit a k ≤ limit := Nat.min_le_right ..

/-- The values of a good NOTICE keep E_B within its range (R33). -/
theorem goodNotice_echo {body : List Byte} {v : NoticeValues} (h : goodNotice body = some v) :
    ∀ e, v.echoDelay = some e → e ≤ 65535 := by
  intro e he
  unfold goodNotice at h
  dsimp only at h
  split at h
  · split at h
    · exact nomatch h
    · split at h
      · exact nomatch h
      · split at h
        · exact nomatch h
        · next range =>
          split at h
          · exact nomatch h
          · split at h
            · exact nomatch h
            · cases h
              dsimp only at he
              split at he
              · exact nomatch he
              · cases he
                omega
  · exact nomatch h

theorem rawOffset_range (e eb : Nat) (arrival stamp : SampleCount) :
    -8388608 ≤ rawOffset e eb arrival stamp ∧ rawOffset e eb arrival stamp ≤ 8388607 :=
  clampInt_range (by decide) _

section
variable {r : PeerRecord} (h : r.Sound)
include h

theorem PeerRecord.Sound.heardAt (sc : SampleCount) (hs : r.state ≠ .absent) :
    PeerRecord.Sound { r with lastHeard := sc, quietCount := 0 } :=
  { h with quiet_range := Nat.zero_le _, absent_cleared := fun e => absurd e hs }

theorem PeerRecord.Sound.returned (sc : SampleCount) :
    PeerRecord.Sound { r with state := .present, lastHeard := sc, quietCount := 0 } :=
  { h with quiet_range := Nat.zero_le _, absent_cleared := (nomatch ·) }

omit h in
theorem PeerRecord.created_sound (seq : SeqNo) (sc : SampleCount) : (PeerRecord.created seq sc).Sound :=
  { PeerRecord.cleared_sound with absent_cleared := (nomatch ·) }

theorem PeerRecord.Sound.account (seq : SeqNo) (hs : r.state ≠ .absent) : (r.account seq).Sound := by
  obtain ⟨gaps, disorder⟩ := h.sequence_counts
  unfold PeerRecord.account
  dsimp only
  split
  · exact { h with absent_cleared := fun e => absurd e hs }
  · split
    · exact { h with sequence_counts := ⟨satAdd_le .., disorder⟩, absent_cleared := fun e => absurd e hs }
    · exact { h with sequence_counts := ⟨gaps, satAdd_le ..⟩, absent_cleared := fun e => absurd e hs }

theorem PeerRecord.Sound.hearResync (hs : r.state ≠ .absent) : r.hearResync.Sound :=
  { h with resync_range := Nat.le_refl 200, absent_cleared := fun e => absurd e hs }

theorem PeerRecord.Sound.announce {v : NoticeValues} (hv : ∀ e, v.echoDelay = some e → e ≤ 65535)
    (hs : r.state ≠ .absent) : (r.announce v).Sound :=
  { h with echo_range := hv, absent_cleared := fun e => absurd e hs }

theorem PeerRecord.Sound.enterPresent : PeerRecord.Sound { r with state := .present } :=
  { h with absent_cleared := (nomatch ·) }

theorem PeerRecord.Sound.withTalk (b : Bool) (hs : r.state ≠ .absent) : PeerRecord.Sound { r with talkActive := b } :=
  { h with absent_cleared := fun e => absurd e hs }

/-- A new offset within its range, with whatever counts and marks the filter gives with it. -/
theorem PeerRecord.Sound.withOffset {f : Int} {n run : Nat} {mark : Bool}
    (hf : -134217728 ≤ f ∧ f ≤ 134217712) (hn : n ≤ 255) (hr : run ≤ 3) (hs : r.state ≠ .absent) :
    PeerRecord.Sound { r with offset := some f, measurements := n, outlierRun := run, reseed := mark } :=
  { h with
    measurement_range := hn
    outlier_range := hr
    offset_known := fun _ => rfl
    offset_range := by
      intro g hg
      cases hg
      exact hf
    absent_cleared := fun e => absurd e hs }

/-- The filter keeps F between the value held and 16 times a clamped offset (R38, R39). -/
theorem PeerRecord.Sound.measure {theta : Int} (ht : -8388608 ≤ theta ∧ theta ≤ 8388607) (hs : r.state ≠ .absent) :
    (r.measure theta).Sound := by
  have fresh : -134217728 ≤ 16 * theta ∧ 16 * theta ≤ 134217712 := by omega
  unfold PeerRecord.measure
  dsimp only
  split
  · exact h.withOffset fresh (by decide) (by decide) hs
  · next f hf =>
    have held := h.offset_range f hf
    split
    · exact h.withOffset fresh (satAdd_le ..) (by decide) hs
    · split
      · split
        · next below => exact { h with outlier_range := below, absent_cleared := fun e => absurd e hs }
        · exact h.withOffset fresh (satAdd_le ..) (by decide) hs
      · refine h.withOffset ?_ (satAdd_le ..) (by decide) hs
        rw [floorDiv, Int.fdiv_eq_ediv_of_nonneg _ (by decide)]
        omega

omit h in
theorem lagSample_le (arrival : SampleCount) (firstBlock : BlockNo) (span : Nat) :
    lagSample arrival firstBlock span ≤ 65535 := by
  simp only [lagSample, clampInt]
  omega

theorem PeerRecord.Sound.withLag {lag : Nat} (hl : lag ≤ 65535) (hs : r.state ≠ .absent) :
    PeerRecord.Sound { r with lagCurrent := max r.lagCurrent lag } :=
  { h with
    lag_range := ⟨Nat.max_le.mpr ⟨h.lag_range.1, hl⟩, h.lag_range.2⟩
    absent_cleared := fun e => absurd e hs }

/-- A step's correction stays within the ranges of F and of the lag maxima (R40). -/
theorem PeerRecord.Sound.stepped (delta : Int) (hs : r.state ≠ .absent) : (r.stepped delta).Sound := by
  refine { h with offset_known := fun m => ?_, offset_range := fun f hf => ?_, lag_range := ?_,
                  absent_cleared := fun e => absurd e hs }
  · simpa [PeerRecord.stepped] using h.offset_known m
  · obtain ⟨g, -, rfl⟩ := Option.map_eq_some_iff.mp hf
    exact clampInt_range (by decide) _
  · simp only [PeerRecord.stepped, clampInt]
    omega

theorem PeerRecord.Sound.withJoin {n : Nat} (hn : n ≤ 1000) (hs : r.state ≠ .absent) :
    PeerRecord.Sound { r with joinCount := n } :=
  { h with join_range := hn, absent_cleared := fun e => absurd e hs }

theorem PeerRecord.Sound.withQuiet {n : Nat} (hn : n ≤ 5200) (hs : r.state ≠ .absent) :
    PeerRecord.Sound { r with quietCount := n } :=
  { h with quiet_range := hn, absent_cleared := fun e => absurd e hs }

theorem PeerRecord.Sound.lapse {n : Nat} (hn : n ≤ 5200) :
    PeerRecord.Sound { r with state := .lapsed, quietCount := n } :=
  { h with quiet_range := hn, absent_cleared := (nomatch ·) }

/-- A timer counted at a tick leaves a cleared record cleared. -/
theorem PeerRecord.Sound.countResync : PeerRecord.Sound { r with resyncSeen := r.resyncSeen - 1 } :=
  { h with
    resync_range := (Nat.sub_le ..).trans h.resync_range
    absent_cleared := fun e => by
      rw [h.absent_cleared e]
      rfl }

theorem PeerRecord.Sound.endLagWindow : r.endLagWindow.Sound :=
  { h with
    lag_range := ⟨Nat.zero_le _, h.lag_range.1⟩
    absent_cleared := fun e => by
      rw [h.absent_cleared e]
      rfl }

end

/-! ## Ramps (R149) -/

/-- A part of a way, truncated, lies between no way and the whole of it. -/
theorem truncDiv_part {way part whole : Int} (hw : 0 < whole) (h0 : 0 ≤ part) (h1 : part ≤ whole) :
    min 0 way ≤ truncDiv (way * part) whole ∧ truncDiv (way * part) whole ≤ max 0 way := by
  unfold truncDiv
  rcases le_or_gt 0 way with hway | hway
  · have up : way * part ≤ way * whole := Int.mul_le_mul_of_nonneg_left h1 hway
    rw [Int.tdiv_eq_ediv_of_nonneg (Int.mul_nonneg hway h0)]
    have lo := Int.ediv_nonneg (Int.mul_nonneg hway h0) hw.le
    have hi := (Int.ediv_le_ediv hw up).trans_eq (Int.mul_ediv_cancel _ hw.ne')
    omega
  · have up : -way * part ≤ -way * whole := Int.mul_le_mul_of_nonneg_left h1 (by omega)
    have nonneg : 0 ≤ -way * part := Int.mul_nonneg (by omega) h0
    have flipped : (way * part).tdiv whole = -((-way * part).tdiv whole) := by
      rw [Int.neg_mul, Int.neg_tdiv, neg_neg]
    rw [flipped, Int.tdiv_eq_ediv_of_nonneg nonneg]
    have lo := Int.ediv_nonneg nonneg hw.le
    have hi := (Int.ediv_le_ediv hw up).trans_eq (Int.mul_ediv_cancel _ hw.ne')
    omega

/-- The eased part of a way lies between 0 and N³ (R149): N³ − 3k²N + 2k³ = (N − k)²(N + 2k). -/
theorem eased_part {k n : Int} (h0 : 0 ≤ k) (h1 : k ≤ n) :
    0 ≤ 3 * k ^ 2 * n - 2 * k ^ 3 ∧ 3 * k ^ 2 * n - 2 * k ^ 3 ≤ n ^ 3 := by
  constructor
  · have : 0 ≤ k ^ 2 * (3 * n - 2 * k) := Int.mul_nonneg (sq_nonneg k) (by omega)
    linarith [this, show k ^ 2 * (3 * n - 2 * k) = 3 * k ^ 2 * n - 2 * k ^ 3 by ring]
  · have : 0 ≤ (n - k) ^ 2 * (n + 2 * k) := Int.mul_nonneg (sq_nonneg _) (by omega)
    linarith [this, show (n - k) ^ 2 * (n + 2 * k) = n ^ 3 - (3 * k ^ 2 * n - 2 * k ^ 3) by ring]

/-- A ramp's gain lies between its start and its target, so within their range. -/
theorem GroupRamp.valueAt_le {r : GroupRamp} {target k limit : Nat} (hs : r.start ≤ limit) (ht : target ≤ limit)
    (hk : k < r.length) : r.valueAt target k ≤ limit := by
  have hn : (0 : Int) < r.length := by omega
  have hi : (k : Int) ≤ r.length := by omega
  unfold GroupRamp.valueAt
  dsimp only
  split
  · have := truncDiv_part (way := (target : Int) - r.start) hn (by omega : (0 : Int) ≤ k) hi
    omega
  · obtain ⟨lo, up⟩ := eased_part (by omega : (0 : Int) ≤ k) hi
    have := truncDiv_part (way := (target : Int) - r.start) (pow_pos hn 3) lo up
    omega

/-! ## Dither registers (R161) -/

/-- A register with its lowest bit clear keeps its other bits; one with it set gains the feedback's highest bit. -/
theorem ditherAdvance_ne_zero {r : BitVec 32} (h : r ≠ 0) : ditherAdvance r ≠ 0 := by
  unfold ditherAdvance
  split
  · intro zero
    have high := congrArg (fun x : BitVec 32 => x.getLsbD 31) zero
    simp at high
  · next low =>
    intro zero
    apply h
    have halved := congrArg BitVec.toNat zero
    have even : r.toNat % 2 = 0 := by simpa [BitVec.getLsbD, Nat.testBit_zero] using low
    apply BitVec.eq_of_toNat_eq
    simp [BitVec.toNat_ushiftRight, Nat.shiftRight_eq_div_pow] at halved
    simp
    omega

/-! ## The mix -/

/-- A group's ranges (R147). -/
structure MixGroup.Ranged (g : MixGroup) : Prop where
  gain : g.gain ≤ 65535
  target : g.target ≤ 65535
  ramp : ∀ r, g.ramp = some r → r.start ≤ 65535 ∧ r.k ≤ r.length

theorem Mxe.Sound.ranged {m : Mxe} (h : m.Sound) (g : GroupIx) : m.groups[g].Ranged :=
  ⟨(h.gains g).1, (h.gains g).2, h.ramps g⟩

theorem MixGroup.Ranged.advance {g : MixGroup} (h : g.Ranged) : g.advance.Ranged := by
  unfold MixGroup.advance
  split
  · exact h
  · next r hr =>
    obtain ⟨start, -⟩ := h.ramp r hr
    dsimp only
    split
    · exact ⟨h.target, h.target, fun _ => (nomatch ·)⟩
    · next short =>
      refine ⟨GroupRamp.valueAt_le start h.target (Nat.not_le.mp short), h.target, fun r' hr' => ?_⟩
      cases hr'
      exact ⟨start, (Nat.not_le.mp short).le⟩

theorem MixGroup.Ranged.endRamp {g : MixGroup} (h : g.Ranged) : g.endRamp.Ranged := by
  unfold MixGroup.endRamp
  split
  · exact h
  · exact ⟨h.target, h.target, fun _ => (nomatch ·)⟩

/-- A mix whose groups, counts and dither registers are within their ranges. -/
theorem Mxe.sound_of {m : Mxe} (groups : ∀ g : GroupIx, m.groups[g].Ranged) (takes : m.takeCount ≤ 255)
    (meters : m.meterCount ≤ 19) (dither : ∀ o : OutputNo, m.dither[o] ≠ 0) : m.Sound :=
  ⟨fun g => ⟨(groups g).gain, (groups g).target⟩, fun g => (groups g).ramp, takes, meters, dither⟩

/-- An entry of a vector changed at an index. -/
theorem vmodify_get {α : Type} {n : Nat} (v : Vector α n) (i j : Fin n) (f : α → α) :
    (vmodify v i f)[j] = if i = j then f v[j] else v[j] := by
  simp only [vmodify, Fin.getElem_fin, Vector.getElem_set, Fin.ext_iff]
  split
  · next e => simp [e]
  · rfl

theorem Mxe.Sound.withGroup {m : Mxe} (h : m.Sound) (g : GroupIx) {f : MixGroup → MixGroup}
    (hf : (m.groups[g]).Ranged → (f m.groups[g]).Ranged) : Mxe.Sound { m with groups := vmodify m.groups g f } := by
  refine Mxe.sound_of (fun j => ?_) h.takes h.meters h.dither
  dsimp only
  rw [vmodify_get]
  split
  · next e => exact e ▸ hf (h.ranged g)
  · exact h.ranged j

theorem Mxe.Sound.setFader {m : Mxe} (h : m.Sound) (g : GroupIx) (level : BitVec 16) :
    (m.setFader g level.toNat).Sound := by
  have := level.isLt
  refine h.withGroup g fun ranged => ⟨ranged.gain, by dsimp only; omega, fun r hr => ?_⟩
  cases hr
  exact ⟨ranged.gain, Nat.zero_le _⟩

theorem Mxe.Sound.setSlope {m : Mxe} (h : m.Sound) (g : GroupIx) (t : Nat) (sh : RampShape) :
    Mxe.Sound { m with groups := vmodify m.groups g fun x => { x with slope := t, shape := sh } } :=
  h.withGroup g fun ranged => ⟨ranged.gain, ranged.target, ranged.ramp⟩

theorem Mxe.Sound.clearMeters {m : Mxe} (h : m.Sound) : m.clearMeters.Sound :=
  { h with meters := Nat.zero_le _ }

theorem Mxe.Sound.setMeters {m : Mxe} (h : m.Sound) (on : Bool) : (m.setMeters on).Sound := by
  unfold Mxe.setMeters
  split
  · split
    · exact h
    · exact { h.clearMeters with }
  · exact { h with }

theorem Mxe.Sound.restarted {m : Mxe} (h : m.Sound) : m.restarted.Sound := by
  refine Mxe.sound_of (fun g => ?_) h.takes (Nat.zero_le _) h.dither
  simpa [Mxe.restarted, Mxe.clearMeters, Mxe.mute] using (h.ranged g).endRamp

end Sys2Proof.Machine

/-! # What every operation keeps: the limits of the link, the store, the panel line, the fault list, the records and the
mix. One relation, proved once for each operation of the model, gives O56 to O59. -/

namespace Sys2Proof.Machine

/-- The records and the mix within their ranges, the own number no peer (R23, R24, R147). -/
structure Part.RecordsSound (p : Part) : Prop where
  self : p.SelfSound
  peers : ∀ x : Station, (p.peer x).Sound
  mix : p.mxe.Sound

/-! A block left as it was keeps its limits. -/

theorem Liu.Sound.same {l l' : Liu} (e : l' = l) (h : l.Sound) : l'.Sound := e ▸ h

theorem Pnl.Sound.same {q q' : Pnl} (e : q' = q) (h : q.Sound) : q'.Sound := e ▸ h

theorem Faults.Sound.same {f f' : Faults} (e : f' = f) (h : f.Sound) : f'.Sound := e ▸ h

theorem Part.StoreSound.same {p q : Part} (own : q.sul.own = p.sul.own) (ast : q.ast = p.ast)
    (position : q.plu.position = p.plu.position) (h : p.StoreSound) : q.StoreSound := by
  obtain ⟨form, peers, window, stopped⟩ := h
  constructor <;> simpa only [Part.playBlock, own, ast, position]

theorem Part.RecordsSound.same {p q : Part} (own : q.sul.own = p.sul.own) (records : q.ptb.records = p.ptb.records)
    (lanes : q.plu.lanes = p.plu.lanes) (mxe : q.mxe = p.mxe) (h : p.RecordsSound) : q.RecordsSound := by
  obtain ⟨⟨self, selfLanes, switches⟩, peers, mix⟩ := h
  refine ⟨⟨?_, ?_, ?_⟩, fun x => ?_, ?_⟩
  · simpa only [own, records]
  · simpa only [own, lanes]
  · simpa only [own, mxe]
  · simpa only [Part.peer, records] using peers x
  · simpa only [mxe]

/-- A change of the part that keeps each block's limits. -/
structure Part.Keeps (p q : Part) : Prop where
  own : q.sul.own = p.sul.own
  link : p.liu.Sound → q.liu.Sound
  store : p.StoreSound → q.StoreSound
  panel : p.pnl.Sound → q.pnl.Sound
  selection : p.pnl.Selected → q.pnl.Selected
  faults : p.faults.Sound → q.faults.Sound
  records : p.RecordsSound → q.RecordsSound

theorem Part.Keeps.refl (p : Part) : p.Keeps p := ⟨rfl, id, id, id, id, id, id⟩

theorem Part.Keeps.trans {p q r : Part} (h : p.Keeps q) (h' : q.Keeps r) : p.Keeps r where
  own := h'.own.trans h.own
  link := h'.link ∘ h.link
  store := h'.store ∘ h.store
  panel := h'.panel ∘ h.panel
  selection := h'.selection ∘ h.selection
  faults := h'.faults ∘ h.faults
  records := h'.records ∘ h.records

/-! What no limit speaks of may change in any way; a block that changes alone answers for itself. -/

theorem Part.Keeps.aside {p : Part} {settings : Settings} {tau : Tau} {cap : Cap} {imn : Vector DigestRecord 16}
    {moment : Moment} {lag win target phase slips refused full quiet : Nat} {owed : Option Move} :
    p.Keeps { p with
      settings := settings, tau := tau, cap := cap, imn := imn, moment := moment
      ptb := { p.ptb with lagWindow := lag, winCount := win }
      plu := { p.plu with target := target, slipPhase := phase, slipCount := slips, owed := owed }
      ast := { p.ast with notPlaying := refused, storeFull := full, quiet := quiet } } where
  own := rfl
  link := id
  store := fun h => ⟨h.form, h.peers, h.window, h.stopped⟩
  panel := id
  selection := id
  faults := id
  records := Part.RecordsSound.same rfl rfl rfl rfl

theorem Part.Keeps.ofLink {p : Part} {l : Liu} (h : p.liu.Sound → l.Sound) : p.Keeps { p with liu := l } :=
  ⟨rfl, h, Part.StoreSound.same rfl rfl rfl, id, id, id, Part.RecordsSound.same rfl rfl rfl rfl⟩

theorem Part.Keeps.ofPanel {p : Part} {q : Pnl} (h : p.pnl.Sound → q.Sound)
    (hs : p.pnl.Selected → q.Selected) : p.Keeps { p with pnl := q } :=
  ⟨rfl, id, Part.StoreSound.same rfl rfl rfl, h, hs, id, Part.RecordsSound.same rfl rfl rfl rfl⟩

theorem Part.Keeps.ofFaults {p : Part} {f : Faults} (h : p.faults.Sound → f.Sound) : p.Keeps { p with faults := f } :=
  ⟨rfl, id, Part.StoreSound.same rfl rfl rfl, id, id, h, Part.RecordsSound.same rfl rfl rfl rfl⟩

theorem Part.Keeps.ofStore {p : Part} {a : Ast} {pos : Option SampleCount} {phase : Nat} {owed : Option Move}
    (h : p.StoreSound →
      Part.StoreSound { p with
        ast := a, plu := { p.plu with position := pos, slipPhase := phase, owed := owed } }) :
    p.Keeps { p with
      ast := a, plu := { p.plu with position := pos, slipPhase := phase, owed := owed } } :=
  ⟨rfl, id, h, id, id, id, Part.RecordsSound.same rfl rfl rfl rfl⟩

theorem Part.Keeps.branch {c : Prop} [Decidable c] {p q r : Part} (hq : c → p.Keeps q) (hr : ¬c → p.Keeps r) :
    p.Keeps (if c then q else r) := by
  split
  · next h => exact hq h
  · next h => exact hr h

/-- Work that keeps the limits at each item of a list keeps them over the list. -/
theorem Part.foldl_keeps {α : Type} {f : Part → α → Part} (h : ∀ (p : Part) (a : α), p.Keeps (f p a)) (xs : List α) (p : Part) :
    p.Keeps (xs.foldl f p) := by
  induction xs generalizing p with
  | nil => exact .refl p
  | cons a as ih => exact (h p a).trans (ih _)

/-! ## Reports and the fault list -/

theorem Part.emit_keeps (r : Report) (p : Part) : p.Keeps (p.emit r) :=
  .ofPanel (fun h => h.emit r) (Pnl.Selected.same (p.pnl.emit_selection r))

theorem Part.emitPeer_keeps (s : Station) (p : Part) : p.Keeps (p.emitPeer s) := p.emit_keeps _

theorem Part.refuse_keeps (reason : RefusalReason) (type : Byte) (p : Part) : p.Keeps (p.refuse reason type) :=
  p.emit_keeps _

theorem Part.withList_keeps (marks : List FaultKey) (v : Option Verdict) {c : ListChange} {p : Part}
    (h : FaultsForm p.faults.list → FaultsForm c.1) : p.Keeps (p.withList marks v c) :=
  Part.Keeps.trans
    (.ofFaults (f := { list := c.1, marks := marks, conflict := v })
      fun hp => (Faults.sound_iff _).mpr (h ((Faults.sound_iff _).mp hp)))
    (.ofPanel (Pnl.Sound.emitAll _) (Pnl.Selected.same (p.pnl.emitAll_selection _)))

theorem Part.raiseFault_keeps (key : FaultKey) (p : Part) : p.Keeps (p.raiseFault key) :=
  Part.withList_keeps _ _ fun h => by
    split
    · exact h
    · exact h.raise ..

theorem Part.endFault_keeps (key : FaultKey) (p : Part) : p.Keeps (p.endFault key) :=
  Part.withList_keeps _ _ fun h => by
    split
    · exact h.end ..
    · exact h

theorem Part.endFaults_keeps (keys : List FaultKey) (p : Part) : p.Keeps (p.endFaults keys) :=
  Part.foldl_keeps (fun q k => q.endFault_keeps k) keys p

theorem Part.raiseConfigDefaulted_keeps (p : Part) : p.Keeps p.raiseConfigDefaulted :=
  (p.raiseFault_keeps _).trans (Part.endFault_keeps _ _)

theorem Part.raiseConflict_keeps (v : Verdict) (p : Part) : p.Keeps (p.raiseConflict v) :=
  Part.withList_keeps _ _ fun h => h.raise ..

theorem Part.endConflictWon_keeps (p : Part) : p.Keeps p.endConflictWon :=
  Part.withList_keeps _ _ fun h => by
    split
    · exact h.end ..
    · exact h

theorem Part.endConflict_keeps (p : Part) : p.Keeps p.endConflict :=
  Part.withList_keeps _ _ fun h => by
    split
    · exact h.end ..
    · exact h

/-! ## Peer records -/

theorem Part.mapPeer_peer (s x : Station) (f : PeerRecord → PeerRecord) (p : Part) :
    (p.mapPeer s f).peer x = if s = x then f (p.peer x) else p.peer x := vmodify_get ..

@[simp] theorem Part.mapPeer_peer_self (s : Station) (f : PeerRecord → PeerRecord) (p : Part) :
    (p.mapPeer s f).peer s = f (p.peer s) := by rw [Part.mapPeer_peer, if_pos rfl]

/-- The own record is the cleared one, so a record that is known is a peer's (R24). -/
theorem Part.SelfSound.ne_own {p : Part} (h : p.SelfSound) {s : Station} (hs : (p.peer s).state ≠ .absent) :
    s ≠ p.sul.own := by
  rintro rfl
  exact hs (congrArg PeerRecord.state h.record)

/-- Records changed within their ranges that leave a cleared own record cleared. -/
theorem Part.Keeps.ofRecords {p : Part} {t : PeerTable}
    (h : p.RecordsSound → t.records[p.sul.own] = PeerRecord.cleared ∧ ∀ x : Station, t.records[x].Sound) :
    p.Keeps { p with ptb := t } :=
  ⟨rfl, id, Part.StoreSound.same rfl rfl rfl, id, id, id, fun hp =>
    ⟨⟨(h hp).1, hp.self.lanes, hp.self.switches⟩, (h hp).2, hp.mix⟩⟩

/-- The mix changed within its ranges, the own switches left alone. -/
theorem Part.Keeps.ofMix {p : Part} {m : Mxe} (h : p.mxe.Sound → m.Sound)
    (own : m.switches[p.sul.own] = p.mxe.switches[p.sul.own]) : p.Keeps { p with mxe := m } :=
  ⟨rfl, id, Part.StoreSound.same rfl rfl rfl, id, id, id, fun hp =>
    ⟨⟨hp.self.record, hp.self.lanes, own.trans hp.self.switches⟩, hp.peers, h hp.mix⟩⟩

/-- A record of a peer changed within its ranges. -/
theorem Part.mapPeer_keeps_of {s : Station} {f : PeerRecord → PeerRecord} {p : Part}
    (hs : p.SelfSound → s ≠ p.sul.own) (hf : (p.peer s).Sound → (f (p.peer s)).Sound) : p.Keeps (p.mapPeer s f) :=
  .ofRecords fun h => by
    refine ⟨?_, fun x => ?_⟩
    · have := p.mapPeer_peer s p.sul.own f
      rw [if_neg (hs h.self)] at this
      exact this.trans h.self.record
    · change ((p.mapPeer s f).peer x).Sound
      rw [Part.mapPeer_peer]
      split
      · next e => exact e ▸ hf (h.peers s)
      · exact h.peers x

theorem Part.mapPeer_keeps {s : Station} {f : PeerRecord → PeerRecord} {p : Part}
    (hs : (p.peer s).state ≠ .absent) (hf : (p.peer s).Sound → (f (p.peer s)).Sound) : p.Keeps (p.mapPeer s f) :=
  Part.mapPeer_keeps_of (fun h => h.ne_own hs) hf

/-! ## The mix -/

theorem Part.decideSwitches_keeps (p : Part) : p.Keeps p.decideSwitches :=
  .ofMix (fun h => { h with }) (by
    apply Vector.ext
    intro k hk
    simp [Part.isPeer])

theorem Part.mixBoundary_keeps (p : Part) : p.Keeps p.mixBoundary :=
  .ofMix (fun h => Mxe.sound_of (fun g => by simpa using (h.ranged g).advance) (Nat.zero_le _) h.meters h.dither) rfl

theorem Part.drive_keeps (p : Part) : p.Keeps p.drive := by
  unfold Part.drive
  split
  · exact .refl p
  · refine .ofMix (fun h => { h with dither := fun o => ?_ }) rfl
    simp only [Fin.getElem_fin, Vector.getElem_ofFn]
    split
    · exact ditherAdvance_ne_zero (ditherAdvance_ne_zero (h.dither o))
    · exact h.dither o

theorem Part.meterTick_keeps (p : Part) : p.Keeps p.meterTick := by
  unfold Part.meterTick
  refine .branch (fun _ => .branch (fun _ => ?_) fun below => ?_) fun _ => .refl p
  · exact (p.emit_keeps _).trans (.ofMix (fun h => h.clearMeters) rfl)
  · exact .ofMix (fun h => { h with meters := by dsimp only; omega }) rfl

/-! ## The Integrity Monitor -/

theorem Part.suspectFault_keeps (s : Station) (p : Part) : p.Keeps (p.suspectFault s) :=
  .branch (fun _ => p.raiseFault_keeps _) fun _ => p.endFault_keeps _

theorem Part.mapDigest_keeps (s : Station) (f : DigestRecord → DigestRecord) (p : Part) : p.Keeps (p.mapDigest s f) :=
  .aside

theorem Part.mapDigests_keeps (f : DigestRecord → DigestRecord) (p : Part) : p.Keeps (p.mapDigests f) := .aside

theorem Part.evaluateStation_keeps (k : Nat) (p : Part) (s : Station) : p.Keeps (p.evaluateStation k s) := by
  unfold Part.evaluateStation
  split
  · split
    · exact (p.mapDigest_keeps _ _).trans (Part.suspectFault_keeps _ _)
    · exact .refl p
  · exact .refl p

theorem Part.digestCrossing_keeps (pb pb' : BlockNo) (p : Part) : p.Keeps (p.digestCrossing pb pb') := by
  unfold Part.digestCrossing
  dsimp only
  exact (Part.Keeps.branch (fun _ => Part.foldl_keeps (Part.evaluateStation_keeps _) _ p) fun _ => .refl p).trans
    (Part.mapDigests_keeps _ _)

theorem Part.tellRefusals_keeps (s : Station) (bs : List BlockNo) (p : Part) : p.Keeps (p.tellRefusals s bs) :=
  Part.foldl_keeps (fun q _ => q.mapDigest_keeps s _) bs p

theorem Part.takeParcelDigest_keeps (s : Station) (x : RxParcel) (p : Part) : p.Keeps (p.takeParcelDigest s x) := by
  unfold Part.takeParcelDigest
  split
  · split
    · exact p.mapDigest_keeps _ _
    · exact .refl p
  · exact .refl p

/-! ## Entries and moves of P -/

theorem Part.enterLanes_keeps (pb : BlockNo) (p : Part) : p.Keeps (p.enterLanes pb) where
  link := Liu.Sound.same (p.enterLanes_liu pb)
  own := rfl
  store := Part.StoreSound.same rfl (p.enterLanes_ast pb) rfl
  panel := Pnl.Sound.same (p.enterLanes_pnl pb)
  selection := Pnl.Selected.same (congrArg Pnl.selection (p.enterLanes_pnl pb))
  faults := Faults.Sound.same (p.enterLanes_faults pb)
  records := fun h => ⟨⟨h.self.record, by
    refine Eq.trans ?_ h.self.lanes
    apply Vector.ext
    intro k hk
    simp [Part.enterLanes, Part.isPeer, Plu.lane], h.self.switches⟩, h.peers, h.mix⟩

theorem Part.laneLoss_keeps (p : Part) (x : Station × ProgLane) : p.Keeps (p.laneLoss x) :=
  .branch (fun _ => .branch (fun _ => p.raiseFault_keeps _) fun _ => p.endFault_keeps _) fun _ => .refl p

theorem Part.laneLosses_keeps (p : Part) : p.Keeps p.laneLosses := Part.foldl_keeps Part.laneLoss_keeps _ p

theorem Part.enterBlock_keeps (pb : BlockNo) (p : Part) : p.Keeps (p.enterBlock pb) :=
  (((p.enterLanes_keeps pb).trans (Part.laneLosses_keeps _)).trans (Part.decideSwitches_keeps _)).trans
    (Part.mixBoundary_keeps _)

/-- Buffers released from a sound store leave it so where P is placed so that the rest lie inside the window. -/
theorem Part.Keeps.place {p q : Part} {pos : SampleCount} {gone : Buffer → Bool} {phase : Nat}
    (hq : q = { p with
      plu := { p.plu with position := some pos, slipPhase := phase }, ast := p.ast.release gone })
    (inside : p.StoreSound → ∀ b ∈ p.ast.buffers, gone b = false → inWindow (blockOf pos) b.block = true) :
    p.Keeps q := by
  subst hq
  refine .ofStore fun h => ⟨p.ast.release_wf gone h.form, fun b hb => h.peers b (List.mem_of_mem_filter hb),
    fun pb hpb b hb => ?_, fun none => nomatch none⟩
  cases hpb
  obtain ⟨held, kept⟩ := List.mem_filter.mp hb
  exact inside h b held (by simpa using kept)

/-- A block of the window at pb other than pb's own is inside the window at pb + 1 (R88). -/
theorem inWindow_next {pb b : BlockNo} (h : inWindow pb b = true) (hb : b ≠ pb) : inWindow (pb + 1) b = true := by
  simp only [inWindow, Config.windowBlocks, decide_eq_true_eq] at h ⊢
  have : (b - pb).toNat ≠ 0 := fun e => hb (by
    have : b - pb = 0 := BitVec.eq_of_toNat_eq e
    exact (BitVec.sub_eq_iff_eq_add.mp this).trans (BitVec.zero_add _))
  bv_omega

/-- A move of P by at most 2 within 2^48 stays in its block or enters the next. -/
theorem blockOf_move {old : SampleCount} {n : Nat} (hn : n ≤ 2) (h : old.toNat + n < 2 ^ 48)
    (hb : blockOf (old + BitVec.ofNat 48 n) ≠ blockOf old) : blockOf (old + BitVec.ofNat 48 n) = blockOf old + 1 := by
  have moved : (old + BitVec.ofNat 48 n).toNat = old.toNat + n := by
    rw [BitVec.toNat_add, BitVec.toNat_ofNat]
    omega
  unfold blockOf at hb ⊢
  rw [moved] at hb ⊢
  have cases : (old.toNat + n) / 48 = old.toNat / 48 ∨ (old.toNat + n) / 48 = old.toNat / 48 + 1 := by omega
  rcases cases with e | e
  · exact absurd (by rw [e]) hb
  · rw [e]
    simp [BitVec.ofNat_add]

theorem Part.setPosition_keeps {p : Part} {old pos : SampleCount} (hp : p.plu.position = some old)
    (hb : blockOf pos = blockOf old) : p.Keeps (p.setPosition pos) :=
  .ofStore fun h => ⟨h.form, h.peers, fun pb hpb b hm => by
    cases hpb
    exact hb ▸ h.window (blockOf old) (by rw [Part.playBlock, hp]; rfl) b hm, fun none => nomatch none⟩

theorem Part.crossTo_keeps {p : Part} {old pos : SampleCount} (order : CrossOrder) (hp : p.plu.position = some old)
    (hb : blockOf pos = blockOf old + 1) : p.Keeps (p.crossTo order old pos) := by
  have placed : p.Keeps { p.setPosition pos with ast := p.ast.releaseBlock (blockOf old) } :=
    Part.Keeps.place (phase := p.plu.slipPhase) (gone := (·.block == blockOf old)) rfl fun h b hm spared => by
      rw [hb]
      refine inWindow_next (h.window (blockOf old) (by rw [Part.playBlock, hp]; rfl) b hm) ?_
      simpa using spared
  cases order with
  | evaluationFirst => exact (placed.trans (Part.digestCrossing_keeps ..)).trans (Part.enterBlock_keeps ..)
  | readersFirst => exact (placed.trans (Part.enterBlock_keeps ..)).trans (Part.digestCrossing_keeps ..)

theorem Part.reanchorTo_keeps (pos : SampleCount) (p : Part) : p.Keeps (p.reanchorTo pos) :=
  ((Part.Keeps.place (p := p) (pos := pos) (phase := 0) (gone := fun b => !inWindow (blockOf pos) b.block) rfl
    fun _ _ _ spared => by simpa using spared).trans (Part.mapDigests_keeps _ _)).trans (Part.enterBlock_keeps ..)

theorem Part.moveBy_keeps {p : Part} {old : SampleCount} (order : CrossOrder) {n : Nat}
    (hp : p.plu.position = some old) (hn : n ≤ 2) : p.Keeps (p.moveBy order old n) := by
  unfold Part.moveBy
  dsimp only
  refine .branch (fun _ => p.reanchorTo_keeps _) fun within => .branch (fun same => ?_) fun crossed => ?_
  · exact p.setPosition_keeps hp same
  · exact p.crossTo_keeps order hp (blockOf_move hn (Nat.not_le.mp within) crossed)

theorem slipStep_le (h target : Int) : slipStep h target ≤ 2 := by
  unfold slipStep
  split
  · decide
  · split <;> decide

theorem Part.takeMove_keeps (order : CrossOrder) (p : Part) : p.Keeps (p.takeMove order) := by
  unfold Part.takeMove
  split
  · next old m hp hm =>
    refine Part.Keeps.trans ?_ ((Part.moveBy_keeps order (by exact hp) ?_).trans (Part.drive_keeps _))
    · exact .aside
    · cases m with
      | step => exact Nat.le_succ 1
      | slip => exact slipStep_le ..
  · exact .refl p

theorem Part.formTarget_keeps (p : Part) : p.Keeps p.formTarget := by
  unfold Part.formTarget
  split
  · exact .refl p
  · exact Part.Keeps.trans .aside (.branch (fun _ => Part.raiseFault_keeps _ _) fun _ => Part.endFault_keeps _ _)

@[simp] theorem Part.formTarget_position (p : Part) : p.formTarget.plu.position = p.plu.position := by
  unfold Part.formTarget
  split
  · rfl
  · dsimp only
    split <;> simp

/-- A stopped playout holds no buffers, so wherever P starts none lies outside the window (R104, R112). -/
theorem Part.beginPlayout_keeps {p : Part} (stopped : p.plu.position = none) : p.Keeps p.beginPlayout := by
  unfold Part.beginPlayout
  dsimp only
  refine Part.Keeps.trans (p.formTarget_keeps.trans ?_) (Part.drive_keeps _)
  refine Part.Keeps.trans (Part.Keeps.trans ?_ (Part.mapDigests_keeps _ _)) (Part.enterBlock_keeps ..)
  refine .trans .aside (.ofStore (p := { p.formTarget with imn := p.formTarget.imn }) fun h => ?_)
  · have empty : p.formTarget.ast.buffers = [] := h.stopped (by rw [Part.formTarget_position, stopped])
    exact ⟨h.form, h.peers, fun pb _ b hb => by simp [empty] at hb, fun none => nomatch none⟩

theorem Part.startTurn_keeps (p : Part) : p.Keeps p.startTurn := by
  unfold Part.startTurn
  split
  · next due =>
    have stopped : p.plu.position = none := by simpa [Part.started] using (Bool.and_eq_true_iff.mp due).2
    refine Part.Keeps.trans (q := { p with moment := { p.moment with pluDue := false } }) .aside ?_
    exact .branch (fun _ => Part.beginPlayout_keeps stopped) fun _ => .refl _
  · exact .refl p

theorem Part.targetTurn_keeps (p : Part) : p.Keeps p.targetTurn := by
  unfold Part.targetTurn
  split
  · exact Part.Keeps.trans (q := { p with moment := { p.moment with pluDue := false } }) .aside (Part.formTarget_keeps _)
  · exact .refl p

theorem Part.stepPlayout_keeps (p : Part) : p.Keeps p.stepPlayout := by
  unfold Part.stepPlayout
  split
  · have placed := Part.Keeps.trans (p := p) (q := { p with plu := { p.plu with owed := none } }) .aside
      (Part.reanchorTo_keeps p.anchor _)
    exact .branch (fun _ => placed.trans (Part.drive_keeps _)) fun _ => placed
  · exact .refl p

end Sys2Proof.Machine

/-! # What the taking of a parcel and the counts of the records keep (R26 to R42, R88 to R98). -/

namespace Sys2Proof.Machine

/-! ## Work under a condition that it keeps -/

/-- From a part that meets a condition, a change keeps the limits and the condition. -/
def Part.KeepsUnder (C : Part → Prop) (p q : Part) : Prop := C p → p.Keeps q ∧ C q

section
variable {C : Part → Prop} {p q r : Part}

theorem Part.KeepsUnder.refl (p : Part) : p.KeepsUnder C p := fun h => ⟨.refl p, h⟩

theorem Part.KeepsUnder.trans (h : p.KeepsUnder C q) (h' : q.KeepsUnder C r) : p.KeepsUnder C r := fun hp =>
  have ⟨k, hq⟩ := h hp
  have ⟨k', hr⟩ := h' hq
  ⟨k.trans k', hr⟩

theorem Part.KeepsUnder.branch {c : Prop} [Decidable c] (hq : c → p.KeepsUnder C q) (hr : ¬c → p.KeepsUnder C r) :
    p.KeepsUnder C (if c then q else r) := by
  split
  · next h => exact hq h
  · next h => exact hr h

end

theorem Part.foldl_keepsUnder {α : Type} {C : Part → Prop} {f : Part → α → Part}
    (h : ∀ (p : Part) (a : α), p.KeepsUnder C (f p a)) (xs : List α) (p : Part) : p.KeepsUnder C (xs.foldl f p) := by
  induction xs generalizing p with
  | nil => exact .refl p
  | cons a as ih => exact (h p a).trans (ih _)

/-! ## A known record -/

/-- A peer's record that is not ABSENT. -/
def Part.Known (s : Station) (p : Part) : Prop := s ≠ p.sul.own ∧ (p.peer s).state ≠ .absent

/-- A peer's record that is known, with playout at block pb: what an admission finds. -/
def Part.Admits (s : Station) (pb : BlockNo) (p : Part) : Prop := p.Known s ∧ p.playBlock = some pb

/-- A change that leaves the records, P and the own number alone leaves a known record known. -/
theorem Part.Keeps.admitting {s : Station} {pb : BlockNo} {p q : Part} (h : p.Keeps q) (hptb : q.ptb = p.ptb)
    (hpos : q.plu.position = p.plu.position) : p.KeepsUnder (Part.Admits s pb) q :=
  fun ⟨⟨peer, known⟩, playing⟩ =>
    ⟨h, ⟨by rwa [h.own], by rwa [Part.peer, hptb]⟩, by rwa [Part.playBlock, hpos]⟩

theorem Part.Keeps.knowing {s : Station} {p q : Part} (h : p.Keeps q) (hptb : q.ptb = p.ptb) :
    p.KeepsUnder (Part.Known s) q :=
  fun ⟨peer, known⟩ => ⟨h, by rwa [h.own], by rwa [Part.peer, hptb]⟩

section
variable {s : Station} {f : PeerRecord → PeerRecord} {p : Part}
  (hf : (p.peer s).state ≠ .absent → (p.peer s).Sound → (f (p.peer s)).Sound)
  (hstate : (p.peer s).state ≠ .absent → (f (p.peer s)).state ≠ .absent)
include hf hstate

/-- A known record changed within its ranges stays known. -/
theorem Part.mapPeer_knowing : p.KeepsUnder (Part.Known s) (p.mapPeer s f) :=
  fun ⟨peer, known⟩ => ⟨Part.mapPeer_keeps known (hf known), peer, by rw [Part.mapPeer_peer_self]; exact hstate known⟩

theorem Part.mapPeer_admitting {pb : BlockNo} : p.KeepsUnder (Part.Admits s pb) (p.mapPeer s f) :=
  fun ⟨known, playing⟩ =>
    have ⟨keeps, known'⟩ := Part.mapPeer_knowing hf hstate known
    ⟨keeps, known', playing⟩

end

/-! ## The admission of blocks (R90 to R98) -/

/-- A count of refused blocks raised leaves the rest of a known record within its ranges. -/
theorem PeerRecord.Sound.counted {r : PeerRecord} (h : r.Sound) (hs : r.state ≠ .absent)
    {late early duplicate format unsettled : Nat}
    (counts : late ≤ 65535 ∧ early ≤ 65535 ∧ duplicate ≤ 65535 ∧ format ≤ 65535 ∧ unsettled ≤ 65535) :
    PeerRecord.Sound { r with
      late := late, early := early, duplicate := duplicate, format := format, unsettled := unsettled } :=
  { h with refusal_counts := counts, absent_cleared := fun e => absurd e hs }

theorem Part.fill_keeps (s : Station) (b : BlockNo) (k : LaneNo) (x : StoredLane) (p : Part) :
    p.Keeps { p with ast := p.ast.fill s b k x } :=
  .ofStore fun h => by
    have filled : ∀ y ∈ (p.ast.fill s b k x).buffers, ∃ z ∈ p.ast.buffers, y.peer = z.peer ∧ y.block = z.block := by
      intro y hy
      obtain ⟨z, hz, rfl⟩ := List.mem_map.mp hy
      refine ⟨z, hz, ?_⟩
      split <;> exact ⟨rfl, rfl⟩
    refine ⟨p.ast.fill_wf s b k x h.form, fun y hy => ?_, fun pb hpb y hy => ?_, fun none => ?_⟩
    · obtain ⟨z, hz, same, -⟩ := filled y hy
      exact same ▸ h.peers z hz
    · obtain ⟨z, hz, -, same⟩ := filled y hy
      exact same ▸ h.window pb hpb z hz
    · exact List.map_eq_nil_iff.mpr (h.stopped none)

section
variable {s : Station} {pb : BlockNo}

theorem Part.fillLane_admitting (b : BlockNo) (p : Part) (f : LaneNo × StoredLane) :
    p.KeepsUnder (Part.Admits s pb) (p.fillLane s b f) :=
  .branch (fun _ => .refl p) fun _ => ((p.fill_keeps ..).trans (Part.mapDigest_keeps _ _ _)).admitting rfl rfl

theorem Part.fillLanes_admitting (b : BlockNo) (fs : List (LaneNo × StoredLane)) (p : Part) :
    p.KeepsUnder (Part.Admits s pb) (p.fillLanes s b fs) := Part.foldl_keepsUnder (Part.fillLane_admitting b) fs p

theorem Part.refuseFull_admitting (b : BlockNo) (p : Part) :
    p.KeepsUnder (Part.Admits s pb) (p.refuseFull s b) := by
  have counted : p.Keeps { p with ast := { p.ast with storeFull := satAdd max32 p.ast.storeFull 1, quiet := 0 } } :=
    .aside
  exact ((counted.trans (Part.raiseFault_keeps _ _)).trans (Part.mapDigest_keeps _ _ _)).admitting rfl rfl

/-- A buffer taken for a block inside the window, of a peer, while playout runs (R88, R94). -/
theorem Part.take_admitting {b : BlockNo} {p : Part} (inside : inWindow pb b = true)
    (new : p.ast.find s b = none) (free : p.ast.free ≠ 0) :
    p.KeepsUnder (Part.Admits s pb) { p with ast := p.ast.take s b } := fun h => by
  obtain ⟨⟨peer, known⟩, playing⟩ := h
  refine ⟨.ofStore fun h => ?_, ⟨peer, known⟩, playing⟩
  refine ⟨p.ast.take_wf s b h.form free new, fun y hy => ?_, fun pb' hpb y hy => ?_, fun none => ?_⟩
  · rcases (mem_fileBuffer _ _ _).mp hy with rfl | hy
    · exact peer
    · exact h.peers y hy
  · obtain rfl : pb' = pb := Option.some.inj (hpb.symm.trans playing)
    rcases (mem_fileBuffer _ _ _).mp hy with rfl | hy
    · exact inside
    · exact h.window _ playing y hy
  · have stopped : p.plu.position = Option.none := none
    rw [Part.playBlock, stopped] at playing
    exact nomatch playing

omit s in
theorem inWindow_of_diff {b : BlockNo} (lo : ¬diff32 b pb < 0) (hi : ¬1023 < diff32 b pb) : inWindow pb b = true := by
  simp only [diff32, BitVec.toInt_eq_toNat_cond] at lo hi
  simp only [inWindow, Config.windowBlocks, decide_eq_true_eq]
  split at lo <;> omega

theorem Part.admitBlock_admitting (b : BlockNo) (fs : List (LaneNo × StoredLane)) (p : Part) :
    p.KeepsUnder (Part.Admits s pb) (p.admitBlock s pb b fs) := by
  unfold Part.admitBlock
  refine .branch (fun _ => ?_) fun lo => .branch (fun _ => ?_) fun hi => .branch (fun _ => ?_) fun new => .branch
    (fun _ => p.refuseFull_admitting b) fun free => ?_
  · refine (Part.mapPeer_admitting (fun known h => ?_) id).trans ((Part.mapDigest_keeps _ _ _).admitting rfl rfl)
    exact h.counted known ⟨satAdd_le .., h.refusal_counts.2⟩
  · refine (Part.mapPeer_admitting (fun known h => ?_) id).trans ((Part.mapDigest_keeps _ _ _).admitting rfl rfl)
    exact h.counted known ⟨h.refusal_counts.1, satAdd_le .., h.refusal_counts.2.2⟩
  · exact p.fillLanes_admitting b fs
  · exact (Part.take_admitting (inWindow_of_diff lo hi) (by simpa using new) free).trans (Part.fillLanes_admitting b fs _)

theorem Part.admitBlocks_admitting (x : RxParcel) (js : List Nat) (acc : Part × Bool) :
    acc.1.KeepsUnder (Part.Admits s pb) (Part.admitBlocks s pb x js acc).1 := by
  induction js generalizing acc with
  | nil => exact .refl _
  | cons j js ih =>
    obtain ⟨p, dup⟩ := acc
    exact (Part.admitBlock_admitting _ _ p).trans (ih (_, _))

theorem Part.countDuplicate_knowing (r : Part × Bool) : r.1.KeepsUnder (Part.Known s) (Part.countDuplicate s r) := by
  refine .branch (fun _ => Part.mapPeer_knowing (fun known h => ?_) id) fun _ => .refl _
  obtain ⟨late, early, -, rest⟩ := h.refusal_counts
  exact h.counted known ⟨late, early, satAdd_le .., rest⟩

theorem Part.refuseNotPlaying_keeps (s : Station) (x : RxParcel) (p : Part) : p.Keeps (p.refuseNotPlaying s x) :=
  Part.Keeps.trans (q := { p with ast := { p.ast with notPlaying := satAdd max32 p.ast.notPlaying 1 } })
    .aside (Part.tellRefusals_keeps s _ _)

theorem Part.admitParcel_keeps {x : RxParcel} {p : Part} (known : p.Known s) : p.Keeps (p.admitParcel s x) := by
  unfold Part.admitParcel
  split
  · exact .refl p
  · split
    · exact p.refuseNotPlaying_keeps s x
    · next pb playing =>
      refine .branch (fun _ => p.refuseNotPlaying_keeps s x) fun _ => .branch (fun _ => ?_) fun _ => .branch
        (fun _ => ?_) fun _ => ?_
      · refine (Part.mapPeer_keeps known.2 fun h => ?_).trans (Part.tellRefusals_keeps s _ _)
        obtain ⟨late, early, duplicate, format, -⟩ := h.refusal_counts
        exact h.counted known.2 ⟨late, early, duplicate, format, satAdd_le ..⟩
      · refine (Part.mapPeer_keeps known.2 fun h => ?_).trans (Part.tellRefusals_keeps s _ _)
        obtain ⟨late, early, duplicate, -, unsettled⟩ := h.refusal_counts
        exact h.counted known.2 ⟨late, early, duplicate, satAdd_le .., unsettled⟩
      · have ⟨filed, known', _⟩ := Part.admitBlocks_admitting x (List.range x.span) (p, false) ⟨known, playing⟩
        exact filed.trans (Part.countDuplicate_knowing _ known').1

end

/-! ## Removal (R31) -/

theorem Part.clearStation_keeps (s : Station) (p : Part) : p.Keeps (p.clearStation s) where
  own := rfl
  link := id
  panel := id
  selection := id
  faults := id
  store := fun h => by
    refine ⟨p.ast.releasePeer_wf s h.form, fun b hb => h.peers b (List.mem_of_mem_filter hb),
      fun pb hpb b hb => h.window pb hpb b (List.mem_of_mem_filter hb), fun none => ?_⟩
    have empty := h.stopped none
    simp [Part.clearStation, Part.clearDigest, Part.mapDigest, Ast.releasePeer, Ast.release, empty]
  records := fun h => by
    obtain ⟨⟨record, lanes, switches⟩, peers, mix⟩ := h
    have cleared : ∀ x : Station, ((p.clearStation s).peer x) = if s = x then PeerRecord.cleared else p.peer x := by
      intro x
      simp only [Part.peer, Part.clearStation, Part.clearDigest, Part.mapDigest, Fin.getElem_fin, Vector.getElem_set,
        Fin.ext_iff]
    refine ⟨⟨?_, ?_, ?_⟩, fun x => ?_, { mix with }⟩
    · refine (cleared p.sul.own).trans ?_
      split
      · rfl
      · exact record
    · simp only [Part.clearStation, Part.clearDigest, Part.mapDigest, Fin.getElem_fin, Vector.getElem_set]
      split
      · rfl
      · exact lanes
    · simp only [Part.clearStation, Part.clearDigest, Part.mapDigest, Fin.getElem_fin, Vector.getElem_set]
      split
      · rfl
      · exact switches
    · rw [cleared x]
      split
      · exact PeerRecord.cleared_sound
      · exact peers x

theorem Part.removePeer_keeps (s : Station) (p : Part) : p.Keeps (p.removePeer s) :=
  ((p.clearStation_keeps s).trans (Part.emitPeer_keeps s _)).trans (Part.endFaults_keeps _ _)

/-! ## The steps of R26 -/

section
variable {s : Station} {p : Part}

theorem Part.serialChange_keeps (s : Station) (v : Option NoticeValues) (p : Part) : p.Keeps (p.serialChange s v) := by
  unfold Part.serialChange
  split
  · exact .branch (fun _ => .refl p) fun _ => p.removePeer_keeps s
  · exact .refl p

/-- A peer heard is known from then on (R27, R30). -/
theorem Part.takePresence_keeps (hs : s ≠ p.sul.own) (seq : SeqNo) (sc : SampleCount) :
    p.Keeps (p.takePresence s seq sc) ∧ (p.takePresence s seq sc).Known s := by
  unfold Part.takePresence
  split
  · refine ⟨(Part.mapPeer_keeps_of (fun _ => hs) fun _ => PeerRecord.created_sound seq sc).trans
      (Part.emitPeer_keeps s _), hs, ?_⟩
    change ((p.mapPeer s _).peer s).state ≠ _
    rw [Part.mapPeer_peer_self]
    exact RecordState.noConfusion
  · next lapsed =>
    refine ⟨((Part.mapPeer_keeps (by simp [lapsed]) fun h => h.returned sc).trans (Part.emitPeer_keeps s _)).trans
      (Part.endFault_keeps _ _), hs, ?_⟩
    change ((p.mapPeer s _).peer s).state ≠ _
    rw [Part.mapPeer_peer_self]
    exact RecordState.noConfusion
  · next known _ => exact Part.mapPeer_knowing (fun known h => h.heardAt sc known) id ⟨hs, known⟩

theorem PeerRecord.account_state (seq : SeqNo) (r : PeerRecord) : (r.account seq).state = r.state := by
  unfold PeerRecord.account
  dsimp only
  split
  · rfl
  · split <;> rfl

theorem PeerRecord.measure_state (theta : Int) (r : PeerRecord) : (r.measure theta).state = r.state := by
  unfold PeerRecord.measure
  dsimp only
  split
  · rfl
  · split
    · rfl
    · split
      · split <;> rfl
      · rfl

theorem Part.takeResync_knowing : p.KeepsUnder (Part.Known s) (p.takeResync s) := by
  unfold Part.takeResync
  refine (Part.mapPeer_knowing (fun known h => h.hearResync known) id).trans ?_
  exact .branch (fun _ => Part.Keeps.knowing .aside rfl) fun _ => .refl _

theorem Part.takeNotice_knowing (body : List Byte) : p.KeepsUnder (Part.Known s) (p.takeNotice s (goodNotice body)) := by
  unfold Part.takeNotice
  split
  · refine Part.mapPeer_knowing (fun known h => ?_) id
    obtain ⟨late, early, duplicate, -, unsettled⟩ := h.refusal_counts
    exact h.counted known ⟨late, early, duplicate, satAdd_le .., unsettled⟩
  · next n good =>
    have spoiled : p.KeepsUnder (Part.Known s)
        (if laneCountChanges (p.peer s).announced n then p.spoilDigest s else p) :=
      .branch (fun _ => (p.mapDigest_keeps s _).knowing rfl) fun _ => .refl p
    refine .branch (fun _ => ?_) fun _ => ?_
    all_goals
      have announced := spoiled.trans
        (Part.mapPeer_knowing (f := PeerRecord.announce n) (fun known h => h.announce (goodNotice_echo good) known) id)
    · exact (announced.trans (Part.mapPeer_knowing (fun _ h => h.enterPresent)
        fun _ => RecordState.noConfusion)).trans
        ((Part.emitPeer_keeps s _).knowing rfl)
    · exact announced

theorem Part.takeTalkFlag_knowing (x : RxParcel) (v : Option NoticeValues) :
    p.KeepsUnder (Part.Known s) (p.takeTalkFlag s x v) := by
  unfold Part.takeTalkFlag
  split
  · exact Part.mapPeer_knowing (fun known h => h.withTalk _ known) id
  · exact Part.mapPeer_knowing (fun known h => h.withTalk _ known) id
  · exact .refl p

theorem Part.takeOffset_knowing (st : ArrivalStamp) (stamp : SampleCount) :
    p.KeepsUnder (Part.Known s) (p.takeOffset s st stamp) := by
  unfold Part.takeOffset
  split
  · refine .branch (fun _ => .refl p) fun _ => Part.mapPeer_knowing (fun known h => ?_) fun known => ?_
    · exact h.measure (rawOffset_range ..) known
    · rwa [PeerRecord.measure_state]
  · exact .refl p

theorem Part.takeLag_knowing (x : RxParcel) (st : ArrivalStamp) :
    p.KeepsUnder (Part.Known s) (p.takeLag s x st) :=
  .branch (fun _ => Part.mapPeer_knowing (fun known h => h.withLag (lagSample_le ..) known) id) fun _ => .refl p

theorem Part.takeBlocks_keeps (x : RxParcel) (known : p.Known s) : p.Keeps (p.takeBlocks s x) :=
  .branch (fun _ => .refl p) fun _ => (Part.admitParcel_keeps known).trans (Part.takeParcelDigest_keeps ..)

end

/-- A parcel from a peer, by the steps of R26: the peer is known from the second on. -/
theorem Part.takeParcel_keeps {x : RxParcel} {p : Part} (hs : x.source ≠ p.sul.own) (st : ArrivalStamp) :
    p.Keeps (p.takeParcel x st) := by
  unfold Part.takeParcel
  dsimp only
  generalize hv : (if x.kind = .notice then goodNotice x.notice else none) = v
  have serial := p.serialChange_keeps x.source v
  have ⟨present, known⟩ := Part.takePresence_keeps (s := x.source) (serial.own ▸ hs) x.sequence st.sc
  refine (serial.trans present).trans ?_
  generalize (p.serialChange x.source v).takePresence x.source x.sequence st.sc = p1 at known ⊢
  generalize decide (((p.serialChange x.source v).peer x.source).state = .absent) = isNew
  have accounted : p1.KeepsUnder (Part.Known x.source)
      (if isNew = true then p1 else p1.mapPeer x.source (PeerRecord.account x.sequence)) :=
    .branch (fun _ => .refl _) fun _ => Part.mapPeer_knowing (fun known h => h.account x.sequence known) fun known => by
      rwa [PeerRecord.account_state]
  generalize (if isNew = true then p1 else p1.mapPeer x.source (PeerRecord.account x.sequence)) = p2 at accounted ⊢
  have resynced : p2.KeepsUnder (Part.Known x.source) (if x.resync = true then p2.takeResync x.source else p2) :=
    .branch (fun _ => Part.takeResync_knowing) fun _ => .refl _
  generalize (if x.resync = true then p2.takeResync x.source else p2) = p3 at resynced ⊢
  have noticed : p3.KeepsUnder (Part.Known x.source)
      (if x.kind = .notice then p3.takeNotice x.source v else p3) :=
    .branch (fun notice => by
      rw [if_pos notice] at hv
      exact hv ▸ Part.takeNotice_knowing x.notice) fun _ => .refl _
  have ⟨taken, known'⟩ := (((((accounted.trans resynced).trans noticed).trans
    (Part.takeTalkFlag_knowing x v)).trans (Part.takeOffset_knowing st x.stamp)).trans (Part.takeLag_knowing x st)) known
  exact taken.trans (Part.takeBlocks_keeps x known')

/-! ## An own step, and the counts of a block tick -/

theorem Part.stepPeers_keeps (delta : Int) (p : Part) : p.Keeps (p.stepPeers delta) := by
  refine .ofRecords fun h => ⟨?_, fun x => ?_⟩
  · simp only [Fin.getElem_fin, Vector.getElem_ofFn, Part.isPeer]
    simpa [Part.peer] using h.self.record
  · simp only [Fin.getElem_fin, Vector.getElem_ofFn]
    split
    · next known => exact (h.peers x).stepped delta (by simpa using (Bool.and_eq_true_iff.mp known).2)
    · exact h.peers x

theorem Part.joinTick_keeps (s : Station) (p : Part) : p.Keeps (p.joinTick s) := by
  refine .branch (fun joining => .branch (fun _ => p.removePeer_keeps s) fun below => ?_) fun _ => .refl p
  have known : (p.peer s).state ≠ .absent := by
    have : (p.peer s).state = .joining := by simpa using (Bool.and_eq_true_iff.mp joining).2
    simp [this]
  exact Part.mapPeer_keeps known fun h => h.withJoin (by omega) known

theorem Part.lapsePeer_keeps {s : Station} {p : Part} (known : (p.peer s).state ≠ .absent) :
    p.Keeps (p.lapsePeer s) :=
  ((Part.mapPeer_keeps known fun h => h.lapse (satAdd_le ..)).trans (Part.emitPeer_keeps s _)).trans
    (Part.raiseFault_keeps _ _)

theorem Part.quietTick_keeps (s : Station) (p : Part) : p.Keeps (p.quietTick s) := by
  unfold Part.quietTick
  refine .branch (fun _ => .refl p) fun _ => ?_
  split
  · next present =>
    have known : (p.peer s).state ≠ .absent := by simp [present]
    exact .branch (fun _ => Part.lapsePeer_keeps known) fun below =>
      Part.mapPeer_keeps known fun h => h.withQuiet (by omega) known
  · next lapsed =>
    have known : (p.peer s).state ≠ .absent := by simp [lapsed]
    exact .branch (fun _ => p.removePeer_keeps s) fun below =>
      Part.mapPeer_keeps known fun h => h.withQuiet (by omega) known
  · exact .refl p

/-- The RESYNC-seen timer of a record, cleared or not, is counted down. -/
theorem Part.resyncSeenTick_keeps (s : Station) (p : Part) : p.Keeps (p.resyncSeenTick s) := by
  refine .branch (fun _ => .ofRecords fun h => ⟨?_, fun x => ?_⟩) fun _ => .refl p
  · rw [vmodify_get]
    split
    · rw [h.self.record]
      rfl
    · exact h.self.record
  · rw [vmodify_get]
    split
    · exact (h.peers x).countResync
    · exact h.peers x

theorem Part.lagWindowTick_keeps (p : Part) : p.Keeps p.lagWindowTick := by
  refine .branch (fun _ => .branch (fun _ => .ofRecords fun h => ⟨?_, fun x => ?_⟩) fun _ => .aside)
    fun _ => .refl p
  · simp only [Fin.getElem_fin, Vector.getElem_ofFn]
    have : p.peer ⟨p.sul.own.val, p.sul.own.isLt⟩ = PeerRecord.cleared := h.self.record
    rw [this]
    rfl
  · simpa using (h.peers x).endLagWindow

theorem Part.winTick_keeps (p : Part) : p.Keeps p.winTick := by
  refine .branch (fun _ => ?_) fun _ => .refl p
  exact Part.Keeps.trans (q := { p with ptb := { p.ptb with winCount := satAdd 5000 p.ptb.winCount 1 } }) .aside
    (.branch (fun _ => Part.endConflictWon_keeps _) fun _ => .refl _)

theorem Part.storeQuietTick_keeps (p : Part) : p.Keeps p.storeQuietTick := by
  refine .branch (fun _ => ?_) fun _ => .refl p
  exact Part.Keeps.trans (q := { p with ast := { p.ast with quiet := satAdd 1000 p.ast.quiet 1 } })
    .aside
    (.branch (fun _ => Part.endFault_keeps _ _) fun _ => .refl _)

end Sys2Proof.Machine

/-! # What every command keeps: the link, capture, time agreement, the sample clock, the panel line and the start-up. -/

namespace Sys2Proof.Machine

/-! ## The link -/

theorem Part.enqueue_keeps (x : Parcel) (p : Part) : p.Keeps (p.enqueue x) := by
  refine .branch (fun room => .ofLink fun h => h.join x room) fun full => ?_
  refine Part.Keeps.trans (q := { p with
    liu := { p.liu with queue := placeFull x p.liu.queue, txDropped := satAdd max32 p.liu.txDropped 1, txQuiet := 0 }
    moment := p.moment.took .txQuiet }) ?_ (Part.raiseFault_keeps _ _)
  exact .trans (.ofLink fun h => h.evict x (Nat.not_lt.mp full) _) .aside

theorem Part.noticeTick_keeps (p : Part) : p.Keeps p.noticeTick := by
  refine .branch (fun _ => .branch (fun _ => ?_) fun _ => .ofLink fun h => { h with }) fun _ => .refl p
  refine Part.Keeps.trans ?_ (Part.enqueue_keeps _ _)
  exact .ofLink fun h => { h with }

theorem Part.handOver_keeps (p : Part) : p.Keeps p.handOver := by
  unfold Part.handOver
  split
  · exact .refl p
  · next e => exact .ofLink fun h => h.handOver e ..

theorem Part.dropFrame_keeps (st : ArrivalStamp) (p : Part) : p.Keeps (p.dropFrame st) := by
  have counted := Part.Keeps.ofLink (p := p) fun h =>
    h.badFrame (satAdd max32 p.liu.linkErrors 1) (Machine.localBlock st.sc)
  exact .branch (fun _ => counted.trans (Part.raiseFault_keeps _ _)) fun _ => counted

theorem Part.takeOwnFrame_keeps (seq : SeqNo) (st : ArrivalStamp) (p : Part) : p.Keeps (p.takeOwnFrame seq st) := by
  unfold Part.takeOwnFrame
  split
  · exact .ofLink fun h => { h with }
  · refine .branch (fun _ => .ofLink fun h => h.dropEcho seq) fun near => ?_
    exact Part.Keeps.trans (.ofLink fun h => (h.dropEcho seq).takeEcho (Nat.not_lt.mp near))
      (Part.endFault_keeps _ _)

theorem Part.enterConflict_keeps (p : Part) : p.Keeps p.enterConflict :=
  .trans (.ofLink fun h => h.abort) .aside

theorem Part.takeConflict_keeps (body : List Byte) (p : Part) : p.Keeps (p.takeConflict body) := by
  unfold Part.takeConflict
  split
  · exact .refl p
  · refine .branch (fun _ => .refl p) fun _ => .branch (fun _ => ?_) fun _ => ?_
    · exact (p.raiseConflict_keeps _).trans (Part.enterConflict_keeps _)
    · exact (p.raiseConflict_keeps .won).trans .aside

theorem Part.classify_keeps (x : RxParcel) (st : ArrivalStamp) (p : Part) : p.Keeps (p.classify x st) :=
  .branch (fun peer => Part.takeParcel_keeps peer st) fun _ =>
    .branch (fun _ => p.takeConflict_keeps _) fun _ => p.takeOwnFrame_keeps _ st

theorem Part.endFrame_keeps (bytes : List Byte) (st : ArrivalStamp) (p : Part) : p.Keeps (p.endFrame bytes st) := by
  have collected : p.Keeps { p with liu := p.liu.collect bytes } := .ofLink fun h => h.collect bytes
  refine .branch (fun _ => collected) fun _ => collected.trans ?_
  split
  · exact Part.dropFrame_keeps st _
  · exact Part.classify_keeps _ st _

theorem Part.releaseFrame_keeps (bytes : List Byte) (p : Part) : p.Keeps (p.releaseFrame bytes) := by
  unfold Part.releaseFrame
  split
  · exact p.endFrame_keeps bytes _
  · exact .refl p

theorem Part.echoTick_keeps (p : Part) : p.Keeps p.echoTick := by
  refine .branch (fun _ => .branch (fun _ => ?_) fun _ => .ofLink fun h => { h with }) fun _ => .refl p
  exact Part.Keeps.trans (.ofLink fun h => h.loseEcho _) (Part.raiseFault_keeps _ _)

theorem Part.txQuietTick_keeps (p : Part) : p.Keeps p.txQuietTick := by
  refine .branch (fun _ => ?_) fun _ => .refl p
  have counted := Part.Keeps.ofLink (p := p) fun h => h.withQuiet (satAdd_le 1000 p.liu.txQuiet 1)
  exact .branch (fun _ => counted.trans (Part.endFault_keeps _ _)) fun _ => counted

theorem Part.cleanTick_keeps (p : Part) : p.Keeps p.cleanTick := by
  refine .branch (fun below => ?_) fun _ => .refl p
  have counted := Part.Keeps.ofLink (p := p) fun h => h.withClean (Nat.succ_le_of_lt below.2)
  exact .branch (fun _ => counted.trans (Part.endFault_keeps _ _)) fun _ => counted

/-! ## Capture and Station Control -/

theorem Part.detectorFaults_keeps (p : Part) (k : ProgLane) : p.Keeps (p.detectorFaults k) := by
  unfold Part.detectorFaults
  dsimp only
  have silent := Part.Keeps.branch (c := p.cap.detectors[k].silent = true)
    (fun _ => p.raiseFault_keeps (captureSilentKey p.sul.own k)) fun _ => p.endFault_keeps (captureSilentKey p.sul.own k)
  exact .branch (fun _ => silent.trans (Part.raiseFault_keeps _ _)) fun _ => silent.trans (Part.endFault_keeps _ _)

theorem Part.runDetectors_keeps (b : CaptureBlock) (p : Part) : p.Keeps (p.runDetectors b) :=
  Part.Keeps.trans (q := { p with cap := { p.cap with detectors := p.detectorsAfter b } }) .aside
    (Part.foldl_keeps Part.detectorFaults_keeps _ _)

theorem Part.closeAudio_keeps (p : Part) : p.Keeps p.closeAudio := by
  unfold Part.closeAudio
  split
  · exact .refl p
  · exact Part.Keeps.trans (q := { p with cap := { p.cap with audio := none } }) .aside (Part.enqueue_keeps _ _)

theorem Part.closeTalk_keeps (endFlag : Bool) (p : Part) : p.Keeps (p.closeTalk endFlag) := by
  unfold Part.closeTalk
  split
  · exact .refl p
  · exact Part.Keeps.trans (q := { p with cap := { p.cap with talkParcel := none } }) .aside (Part.enqueue_keeps _ _)

theorem Part.closeParcels_keeps (p : Part) : p.Keeps p.closeParcels := by
  unfold Part.closeParcels
  dsimp only
  have audio := Part.Keeps.branch
    (c := (assemblyFull p.settings.span p.cap.audio || p.moment.stepped || p.cap.leaves) = true)
    (fun _ => p.closeAudio_keeps) fun _ => .refl p
  exact .branch (fun _ => audio.trans (Part.closeTalk_keeps _ _)) fun _ => audio

theorem Part.talkBlock_keeps (b : CaptureBlock) (p : Part) : p.Keeps (p.talkBlock b) :=
  .branch (fun _ => .aside) fun _ => .refl p

theorem Part.contributeBlock_keeps (b : CaptureBlock) (p : Part) : p.Keeps (p.contributeBlock b) := .aside

theorem Part.closeBlock_keeps (p : Part) : p.Keeps p.closeBlock := by
  unfold Part.closeBlock
  split
  · exact .refl p
  · next b _ =>
    exact (((p.runDetectors_keeps b).trans (.branch (fun _ => Part.contributeBlock_keeps b _) fun _ => .refl _)).trans
      (Part.talkBlock_keeps b _)).trans (Part.closeParcels_keeps _)

theorem Part.moveOn_keeps (p : Part) : p.Keeps p.moveOn := .aside

theorem Part.openBlock_keeps (p : Part) : p.Keeps p.openBlock := .aside

theorem Part.captureTick_keeps (p : Part) : p.Keeps p.captureTick :=
  (p.closeBlock_keeps.trans (Part.moveOn_keeps _)).trans (Part.openBlock_keeps _)

theorem Part.controlTurn_keeps (p : Part) : p.Keeps p.controlTurn :=
  .branch (fun _ => .branch (fun _ => .aside) fun _ => .aside) fun _ => .refl p

/-! ## The Time Agreement Unit -/

theorem Part.mapTau_keeps (f : Tau → Tau) (p : Part) : p.Keeps (p.mapTau f) := .aside

theorem Part.stepCapture_keeps (p : Part) : p.Keeps p.stepCapture := .aside

theorem Part.takeStep_keeps (m : Int) (p : Part) : p.Keeps (p.takeStep m) := by
  unfold Part.takeStep
  refine Part.Keeps.trans (Part.Keeps.trans (Part.Keeps.trans ?_ (Part.stepPeers_keeps _ _))
    (Part.stepCapture_keeps _)) (Part.stepPlayout_keeps _)
  exact .aside

theorem Part.freeWork_keeps (p : Part) : p.Keeps p.freeWork :=
  .branch (fun _ => p.mapTau_keeps _) fun _ => .refl p

theorem Part.acquiringWork_keeps (p : Part) : p.Keeps p.acquiringWork :=
  .branch (fun _ => p.mapTau_keeps _) fun _ => .branch
    (fun _ => .branch (fun _ => p.mapTau_keeps _) fun _ => p.mapTau_keeps _)
    fun _ => .branch (fun _ => (p.mapTau_keeps _).trans (Part.takeStep_keeps _ _)) fun _ => p.mapTau_keeps _

theorem Part.consensusWork_keeps (p : Part) : p.Keeps p.consensusWork :=
  .branch (fun _ => .branch (fun _ => (p.mapTau_keeps _).trans (Part.takeStep_keeps _ _)) fun _ => p.mapTau_keeps _)
    fun _ => p.mapTau_keeps _

theorem Part.trackingWork_keeps (p : Part) : p.Keeps p.trackingWork :=
  .branch (fun _ => p.mapTau_keeps _) fun _ => .branch
    (fun _ => .branch (fun _ => p.mapTau_keeps _) fun _ => (p.mapTau_keeps _).trans (Part.consensusWork_keeps _))
    fun _ => (p.mapTau_keeps _).trans (Part.consensusWork_keeps _)

theorem Part.holdoverWork_keeps (p : Part) : p.Keeps p.holdoverWork :=
  .branch (fun _ => p.mapTau_keeps _) fun _ => .refl p

theorem Part.modeWork_keeps (p : Part) : p.Keeps p.modeWork := by
  unfold Part.modeWork
  split
  · exact p.freeWork_keeps
  · exact p.acquiringWork_keeps
  · exact p.trackingWork_keeps
  · exact p.holdoverWork_keeps

theorem Part.tauWork_keeps (p : Part) : p.Keeps p.tauWork := by
  refine .branch (fun _ => ?_) fun _ => .refl p
  exact Part.Keeps.trans (q := { p with moment := { p.moment with tauDue := false } }) .aside
    (.branch (fun _ => Part.modeWork_keeps _) fun _ => .refl _)

theorem Part.trimTurn_keeps (p : Part) : p.Keeps p.trimTurn := .aside

theorem Part.completeStep_keeps (p : Part) : p.Keeps p.completeStep :=
  .branch (fun _ => p.takeMove_keeps _) fun _ => .refl p

theorem Part.agreementWork_keeps (order : InstantOrder) (p : Part) : p.Keeps (p.agreementWork order) := by
  refine .branch (fun _ => ?_) fun _ => .refl p
  cases order with
  | timeFirst =>
    exact ((p.tauWork_keeps.trans (Part.trimTurn_keeps _)).trans (Part.targetTurn_keeps _)).trans
      (Part.completeStep_keeps _)
  | playoutFirst =>
    exact ((p.targetTurn_keeps.trans (Part.tauWork_keeps _)).trans (Part.trimTurn_keeps _)).trans
      (Part.completeStep_keeps _)
  | targetOnly => exact p.targetTurn_keeps

theorem Part.handOverNow_keeps (p : Part) : p.Keeps p.handOverNow :=
  .branch (fun _ => p.tauWork_keeps.trans (Part.handOver_keeps _)) fun _ => .refl p

theorem Part.arrive_keeps (p : Part) : p.Keeps p.arrive :=
  p.tauWork_keeps.trans (.ofLink fun h => h.beginFrame _)

/-! ## The sample clock -/

theorem Part.jobWork_keeps (j : TickJob) (p : Part) : p.Keeps (p.jobWork j) := by
  cases j with
  | capture => exact p.tauWork_keeps.trans (Part.captureTick_keeps _)
  | notice => exact p.noticeTick_keeps
  | echoLost => exact p.echoTick_keeps
  | txQuiet => exact p.txQuietTick_keeps
  | cleanBlocks => exact p.cleanTick_keeps
  | storeQuiet => exact p.storeQuietTick_keeps
  | win => exact p.winTick_keeps
  | lagWindow => exact p.lagWindowTick_keeps
  | resyncTimer => exact .branch (fun _ => p.mapTau_keeps _) fun _ => .refl p
  | meter => exact p.meterTick_keeps
  | join s => exact p.joinTick_keeps s
  | quiet s => exact p.quietTick_keeps s
  | resyncSeen s => exact p.resyncSeenTick_keeps s

theorem Part.runJob_keeps (j : TickJob) (p : Part) : p.Keeps (p.runJob j) := by
  refine .branch (fun _ => ?_) fun _ => .refl p
  exact Part.Keeps.trans (q := { p with moment := p.moment.took j }) .aside (Part.jobWork_keeps j _)

theorem Part.expire_keeps (j : TickJob) (outcome : Bool) (p : Part) : p.Keeps (p.expire j outcome) :=
  .branch (fun _ => p.runJob_keeps j) fun _ => .refl p

theorem Part.idleBoundary_keeps (p : Part) : p.Keeps p.idleBoundary :=
  .branch (fun _ => p.mixBoundary_keeps) fun _ => .refl p

theorem Part.endTick_keeps (p : Part) : p.Keeps p.endTick := .aside

theorem Part.runJobs_keeps (js : List TickJob) (p : Part) : p.Keeps (p.runJobs js) :=
  Part.foldl_keeps (fun q j => q.runJob_keeps j) js p

theorem Part.tickWork_keeps (p : Part) : p.Keeps p.tickWork :=
  .branch (fun _ => ((p.runJobs_keeps _).trans (Part.idleBoundary_keeps _)).trans (Part.endTick_keeps _))
    fun _ => .refl p

theorem Part.settle_keeps (p : Part) : p.Keeps p.settle :=
  ((((p.takeMove_keeps _).trans (Part.agreementWork_keeps _ _)).trans (Part.controlTurn_keeps _)).trans
    (Part.startTurn_keeps _)).trans (Part.tickWork_keeps _)

theorem Part.playTurn_keeps (move : MoveTime) (order : CrossOrder) (p : Part) : p.Keeps (p.playTurn move order) := by
  refine .branch (fun _ => ?_) fun _ => .ofMix (fun h => { h with }) rfl
  exact Part.Keeps.trans (q := p.oweMove) .aside (.branch (fun _ => Part.takeMove_keeps _ _) fun _ => .refl _)

theorem Part.samplePeriod_keeps (x : InputSample) (move : MoveTime) (order : CrossOrder) (p : Part) :
    p.Keeps (p.samplePeriod x move order) := by
  have advanced : p.settle.Keeps (p.settle.advance x) := .aside
  exact (p.settle_keeps.trans advanced).trans (Part.playTurn_keeps _ _ _)

/-! ## Start-up -/

theorem Part.endLoad_keeps (rec : List Byte) (p : Part) : p.Keeps (p.endLoad rec) := by
  refine .branch (fun _ => ?_) fun _ => .refl p
  have taken : p.Keeps (p.takeSettings rec) :=
    ⟨rfl, id, Part.StoreSound.same rfl rfl rfl, id, id, id, Part.RecordsSound.same rfl rfl rfl rfl⟩
  exact .branch (fun _ => taken) fun _ => taken.trans (Part.raiseConfigDefaulted_keeps _)

theorem PeerTable.reset_records (s : Station) : PeerTable.reset.records[s] = PeerRecord.cleared := by
  simp [PeerTable.reset]

theorem Plu.reset_lanes (s : Station) : Plu.reset.lanes[s] = Vector.replicate 9 LaneRecord.reset := by
  simp [Plu.reset]

/-- With the store empty and playout stopped the store has its form. -/
theorem Part.storeSound_of_reset {p : Part} (ast : p.ast = Ast.reset) : p.StoreSound := by
  refine ⟨ast ▸ Ast.empty_wf _ rfl rfl, fun b hb => ?_, fun pb _ b hb => ?_, fun _ => by rw [ast]; rfl⟩
  all_goals
    rw [ast] at hb
    exact absurd hb List.not_mem_nil

theorem Part.restartState_keeps (p : Part) : p.Keeps p.restartState where
  own := rfl
  panel := id
  selection := id
  faults := id
  link := fun _ => p.liu.restarted_sound
  store := fun _ => Part.storeSound_of_reset rfl
  records := fun h => by
    refine ⟨⟨PeerTable.reset_records _, Plu.reset_lanes _, ?_⟩, fun x => ?_, h.mix.restarted⟩
    · simp [Part.restartState, Mxe.restarted, Mxe.clearMeters, Mxe.mute]
    · have cleared : p.restartState.peer x = PeerRecord.cleared := PeerTable.reset_records x
      rw [cleared]
      exact PeerRecord.cleared_sound

theorem Part.restart_keeps (p : Part) : p.Keeps p.restart := by
  refine .branch (fun _ => .refl p) fun _ => ?_
  exact ((p.restartState_keeps.trans (Part.foldl_keeps (fun q s => q.emitPeer_keeps s) _ _)).trans
    (Part.endConflict_keeps _)).trans (Part.endFaults_keeps _ _)

/-! ## The panel line -/

theorem Part.frameDone_keeps (p : Part) : p.Keeps { p with pnl := p.pnl.frameDone } :=
  .ofPanel (fun h => h.frameDone) id

theorem Part.message_keeps {act : Part → Part} (h : ∀ p : Part, p.Keeps (act p)) (p : Part) :
    p.Keeps (p.message act) := by
  refine (p.frameDone_keeps.trans (h _)).trans ?_
  exact .ofPanel (fun h => h.emptySelection) fun _ => .nothing rfl

theorem Part.mapCap_keeps (f : Cap → Cap) (p : Part) : p.Keeps (p.mapCap f) := .aside

theorem Part.fader_keeps (group : Byte) (level : BitVec 16) (p : Part) : p.Keeps (p.fader group level) := by
  refine .branch (fun _ => p.refuse_keeps ..) fun _ => ?_
  split
  · exact p.refuse_keeps ..
  · exact .ofMix (fun h => h.setFader _ level) rfl

theorem Part.slope_keeps (group : Byte) (time : BitVec 16) (shape : Byte) (p : Part) :
    p.Keeps (p.slope group time shape) := by
  refine .branch (fun _ => p.refuse_keeps ..) fun _ => ?_
  split
  · exact .ofMix (fun h => h.setSlope ..) rfl
  · exact p.refuse_keeps ..

theorem Part.select_keeps (station lane : Byte) (p : Part) : p.Keeps (p.select station lane) := by
  refine .branch (fun _ => p.refuse_keeps ..) fun _ => ?_
  split
  · refine .branch (fun _ => .refl p) fun new => .branch (fun room => ?_) fun _ => p.refuse_keeps ..
    exact .ofPanel (fun h => h.select (by simpa using new) room) fun h => h.select (by simpa using new) room
  · exact p.refuse_keeps ..

theorem Part.assign_keeps (value : Byte) (p : Part) : p.Keeps (p.assign value) := by
  refine .branch (fun _ => p.refuse_keeps ..) fun _ => ?_
  split
  · exact p.refuse_keeps ..
  · exact .ofMix (fun h => { h with }) rfl

theorem Part.fallback_keeps (value : Byte) (p : Part) : p.Keeps (p.fallback value) := by
  refine .branch (fun _ => p.refuse_keeps ..) fun _ => ?_
  split
  · exact p.refuse_keeps ..
  · exact .ofMix (fun h => { h with }) rfl

theorem Part.matrix_keeps (output group : Byte) (gain : BitVec 16) (p : Part) :
    p.Keeps (p.matrix output group gain) := by
  refine .branch (fun _ => p.refuse_keeps ..) fun _ => ?_
  split
  · exact .ofMix (fun h => { h with }) rfl
  · exact p.refuse_keeps ..

theorem Part.take_keeps (p : Part) : p.Keeps p.take :=
  .branch (fun _ => p.refuse_keeps ..) fun _ => .ofMix (fun h => { h with takes := satAdd_le .. }) rfl

theorem Part.talk_keeps (destination : Byte) (p : Part) : p.Keeps (p.talk destination) :=
  .branch (fun _ => p.refuse_keeps ..) fun _ => .branch (fun _ => p.refuse_keeps ..) fun _ =>
    .branch (fun _ => p.refuse_keeps ..) fun _ => p.mapCap_keeps _

theorem Mxe.setMeters_switches (on : Bool) (m : Mxe) : (m.setMeters on).switches = m.switches := by
  unfold Mxe.setMeters
  split
  · split <;> rfl
  · rfl

theorem Part.meters_keeps (value : Byte) (p : Part) : p.Keeps (p.meters value) :=
  .branch (fun _ => p.refuse_keeps ..) fun _ =>
    Part.Keeps.ofMix (fun h => h.setMeters _) (by rw [Mxe.setMeters_switches])

theorem Part.queryStatus_keeps (p : Part) : p.Keeps p.queryStatus := by
  refine Part.Keeps.trans ?_ (Part.emit_keeps _ _)
  exact .ofPanel (fun h => { h with }) id

theorem Part.queryPeer_keeps (station : Byte) (p : Part) : p.Keeps (p.queryPeer station) := by
  unfold Part.queryPeer
  split
  · exact p.refuse_keeps ..
  · exact p.emitPeer_keeps _

theorem Part.query_keeps (selector station : Byte) (p : Part) : p.Keeps (p.query selector station) :=
  .branch (fun _ => p.queryStatus_keeps) fun _ => .branch (fun _ => p.queryPeer_keeps station) fun _ =>
    .branch (fun _ => p.emit_keeps _) fun _ => p.refuse_keeps ..

theorem Part.ackFaults_keeps (p : Part) : p.Keeps p.ackFaults := by
  refine .branch (fun _ => p.refuse_keeps ..) fun _ => ?_
  exact .ofFaults fun h => (Faults.sound_iff _).mpr (((Faults.sound_iff _).mp h).sublist List.filter_sublist)

theorem Part.actMessage_keeps (type : Byte) (b : List Byte) (p : Part) : p.Keeps (p.actMessage type b) := by
  unfold Part.actMessage
  dsimp only
  refine .branch (fun _ => Part.message_keeps (Part.fader_keeps _ _) p) fun _ =>
    .branch (fun _ => Part.message_keeps (Part.slope_keeps _ _ _) p) fun _ =>
    .branch (fun _ => p.frameDone_keeps.trans (Part.select_keeps _ _ _)) fun _ =>
    .branch (fun _ => Part.message_keeps (Part.assign_keeps _) p) fun _ =>
    .branch (fun _ => Part.message_keeps (Part.fallback_keeps _) p) fun _ =>
    .branch (fun _ => Part.message_keeps (Part.matrix_keeps _ _ _) p) fun _ =>
    .branch (fun _ => Part.message_keeps Part.take_keeps p) fun _ =>
    .branch (fun _ => Part.message_keeps (Part.talk_keeps _) p) fun _ =>
    .branch (fun _ => Part.message_keeps (Part.mapCap_keeps _) p) fun _ =>
    .branch (fun _ => Part.message_keeps (Part.mapCap_keeps _) p) fun _ =>
    .branch (fun _ => Part.message_keeps (Part.meters_keeps _) p) fun _ =>
    .branch (fun _ => Part.message_keeps (Part.query_keeps _ _) p) fun _ =>
    .branch (fun _ => Part.message_keeps Part.ackFaults_keeps p) fun _ => Part.message_keeps Part.restart_keeps p

theorem Part.takeFrame_keeps (type length : Byte) (payload : List Byte) (check : Byte) (p : Part) :
    p.Keeps (p.takeFrame type length payload check) := by
  unfold Part.takeFrame
  split
  · exact p.frameDone_keeps.trans (Part.refuse_keeps _ _ _)
  · exact p.actMessage_keeps type payload

theorem Part.refuseByte_keeps (type : Byte) (p : Part) : p.Keeps (p.refuseByte type) := by
  refine Part.Keeps.trans ?_ (Part.refuse_keeps _ _ _)
  exact .ofPanel (fun h => h.framed (by decide) p.pnl.msgType true 0) id

theorem Part.takePanelByte_keeps (stopHigh : Bool) (b : Byte) (p : Part) : p.Keeps (p.takePanelByte stopHigh b) := by
  unfold Part.takePanelByte
  split
  · refine .branch (fun _ => ?_) fun _ => .branch (fun _ => ?_) fun _ => p.refuseByte_keeps _
    · exact .ofPanel (fun h => h.framed (by decide) p.pnl.msgType p.pnl.discard 0) id
    · exact .ofPanel (fun h => h.framed (by decide) b p.pnl.discard 0) id
  · refine .branch (fun _ => .branch (fun _ => p.refuseByte_keeps _) fun short => ?_) fun _ => p.refuseByte_keeps _
    exact .ofPanel (fun h => h.takeLength (Nat.not_lt.mp short)) id
  · next collecting =>
    refine .branch (fun _ => ?_) fun _ => p.refuseByte_keeps _
    exact .ofPanel (fun h => h.takePayload collecting b) id
  · exact .branch (fun _ => p.takeFrame_keeps ..) fun _ => p.refuseByte_keeps _

theorem Part.idleReset_keeps (p : Part) : p.Keeps p.idleReset := by
  have reset : p.Keeps { p with pnl := { p.pnl with framer := .waitType, discard := false, idle := 2 } } :=
    .ofPanel (fun h => h.framed (by decide) p.pnl.msgType false 2) id
  exact .branch (fun _ => reset) fun _ => reset.trans (Part.refuse_keeps _ _ _)

theorem Part.sendReport_keeps (p : Part) : p.Keeps p.sendReport := by
  unfold Part.sendReport
  split
  · exact .refl p
  · next e => exact .ofPanel (fun h => h.send e _) id

/-! ## Every command -/

/-- The resets by power or pin aside, every command keeps every limit. -/
theorem exec_keeps {c : Instr} {s t : State} (running : ∀ straps role, c ≠ .powerOnReset straps role ∧ c ≠ .resetPin straps role)
    (e : exec c s = .next t) : s.part.Keeps t.part := by
  cases c <;> cases e <;> rw [State.withPart_part]
  case powerOnReset straps role => exact absurd rfl (running straps role).1
  case resetPin straps role => exact absurd rfl (running straps role).2
  case loadEnd => exact Part.endLoad_keeps _ _
  case restart => exact Part.message_keeps Part.restart_keeps _
  case fader => exact Part.message_keeps (Part.fader_keeps _ _) _
  case slope => exact Part.message_keeps (Part.slope_keeps _ _ _) _
  case select => exact (Part.frameDone_keeps _).trans (Part.select_keeps _ _ _)
  case assign => exact Part.message_keeps (Part.assign_keeps _) _
  case fallback => exact Part.message_keeps (Part.fallback_keeps _) _
  case matrix => exact Part.message_keeps (Part.matrix_keeps _ _ _) _
  case take => exact Part.message_keeps Part.take_keeps _
  case talk => exact Part.message_keeps (Part.talk_keeps _) _
  case talkOff | contribute => exact Part.message_keeps (Part.mapCap_keeps _) _
  case meters => exact Part.message_keeps (Part.meters_keeps _) _
  case queryStatus => exact Part.message_keeps Part.queryStatus_keeps _
  case queryPeer => exact Part.message_keeps (Part.queryPeer_keeps _) _
  case queryFaults => exact Part.message_keeps (Part.emit_keeps _) _
  case ackFaults => exact Part.message_keeps Part.ackFaults_keeps _
  case unknownMessage => exact Part.takeFrame_keeps _ _ _ _ _
  case panelByte | panelFramingError => exact Part.takePanelByte_keeps _ _ _
  case panelIdleTimeout => exact Part.idleReset_keeps _
  case reportSend => exact Part.sendReport_keeps _
  case parcelHandover => exact Part.handOverNow_keeps _
  case frameSent => exact .ofLink fun h => { h with }
  case linkRxframeAssert => exact Part.arrive_keeps _
  case linkRxframeRelease => exact Part.releaseFrame_keeps _ _
  case samplePeriod => exact Part.samplePeriod_keeps _ _ _ _
  case blockTick => exact Part.tickWork_keeps _
  case goOnAir => exact Part.controlTurn_keeps _
  case agreementInstant => exact Part.agreementWork_keeps _ _
  case founding | emptyRunExpiry | largeRunStep => exact .branch (fun _ => Part.tauWork_keeps _) fun _ => .refl _
  case playoutStart => exact Part.startTurn_keeps _
  case slipDecision => exact .branch (fun _ => Part.takeMove_keeps _ _) fun _ => .refl _
  case talkLaneRelease | fallbackReturn => exact .branch (fun _ => Part.takeMove_keeps _ _) fun _ => .refl _
  all_goals exact Part.expire_keeps _ _ _

/-! ## The resets -/

theorem Liu.reset_sound : Liu.reset.Sound := by
  constructor <;> simp [Liu.reset]

theorem Pnl.reset_sound : Pnl.reset.Sound := by
  constructor <;> simp [Pnl.reset]

theorem Faults.reset_sound : Faults.reset.Sound := by
  constructor <;> simp [Faults.reset]

theorem Mxe.reset_sound : Mxe.reset.Sound := by
  have groups : ∀ g : GroupIx, Mxe.reset.groups[g] = MixGroup.reset := by simp [Mxe.reset]
  refine Mxe.sound_of (fun g => ?_) (Nat.zero_le _) (Nat.zero_le _) (by decide)
  rw [groups g]
  exact ⟨by decide, by decide, fun _ => (nomatch ·)⟩

theorem Part.powerOn_recordsSound (serial : Serial) (straps : BitVec 4) (role : Role) :
    (Part.powerOn serial straps role).RecordsSound := by
  refine ⟨⟨PeerTable.reset_records _, Plu.reset_lanes _, ?_⟩, fun x => ?_, Mxe.reset_sound⟩
  · simp [Part.powerOn, Mxe.reset]
  · have cleared : (Part.powerOn serial straps role).peer x = PeerRecord.cleared := PeerTable.reset_records x
    rw [cleared]
    exact PeerRecord.cleared_sound

/-- A reset by power or pin meets every limit, whatever was before it. -/
theorem Part.hardReset_sound (straps : BitVec 4) (role : Role) (p : Part) :
    (p.hardReset straps role).liu.Sound ∧ (p.hardReset straps role).StoreSound ∧ (p.hardReset straps role).pnl.Sound ∧
      (p.hardReset straps role).faults.Sound ∧ (p.hardReset straps role).RecordsSound :=
  ⟨{ Liu.reset_sound with }, Part.storeSound_of_reset rfl, Pnl.reset_sound, Faults.reset_sound,
    Part.RecordsSound.same (p := Part.powerOn p.sul.serial straps role) rfl rfl rfl rfl
      (Part.powerOn_recordsSound _ straps role)⟩

/-! ## Every step -/

/-- An empty queue idles; a reset by power or pin meets every limit; every other command keeps each. -/
theorem step_keeps {s t : State} (e : step s = .next t) :
    s.part.Keeps t.part ∨ ∃ straps role, t.part = s.part.hardReset straps role := by
  unfold step at e
  split at e
  · cases e
    exact .inl (.refl _)
  · next c rest _ =>
    by_cases running : ∀ straps role, c ≠ .powerOnReset straps role ∧ c ≠ .resetPin straps role
    · exact .inl (exec_keeps (s := { s with pending := rest }) running e)
    · push Not at running
      obtain ⟨straps, role, reset⟩ := running
      refine .inr ⟨straps, role, ?_⟩
      by_cases power : c = .powerOnReset straps role
      · subst power
        cases e
        rfl
      · obtain rfl := reset power
        cases e
        rfl

/-- Settles O56: each command by the updates of the link that it makes (`exec_keeps`), the resets by their values. -/
theorem stepKeepsTheLinkInBounds : Obligations.StepKeepsTheLinkInBounds := by
  intro s t sound e
  rcases step_keeps e with keeps | ⟨straps, role, reset⟩
  · exact keeps.link sound
  · rw [reset]
    exact (s.part.hardReset_sound straps role).1

/-- Settles O57: buffers are filed inside the window of a running playout for peers alone, and every move of P frees
those that it leaves outside. -/
theorem stepKeepsTheStoreForm : Obligations.StepKeepsTheStoreForm := by
  intro s t sound e
  rcases step_keeps e with keeps | ⟨straps, role, reset⟩
  · exact keeps.store sound
  · rw [reset]
    exact Part.storeSound_of_reset rfl

/-- Settles O58: what a raise, an end, an emission and a byte received can do to the lists. -/
theorem stepKeepsThePanelAndFaultLists : Obligations.StepKeepsThePanelAndFaultLists := by
  rintro s t ⟨panel, faults⟩ e
  rcases step_keeps e with keeps | ⟨straps, role, reset⟩
  · exact ⟨keeps.panel panel, keeps.faults faults⟩
  · rw [reset]
    exact ⟨Pnl.reset_sound, Faults.reset_sound⟩

/-- Settles O59: a record that a parcel or a tick changes is known, so it is not the own one, which is cleared. -/
theorem stepKeepsTheRecordsAndTheMix : Obligations.StepKeepsTheRecordsAndTheMix := by
  rintro s t ⟨self, peers, mix⟩ e
  have sound : t.part.RecordsSound := by
    rcases step_keeps e with keeps | ⟨straps, role, reset⟩
    · exact keeps.records ⟨self, peers, mix⟩
    · rw [reset]
      exact (s.part.hardReset_sound straps role).2.2.2.2
  exact ⟨sound.self, sound.peers, sound.mix⟩

/-- Settles O60: each block's reset values lie within its limits, for any serial, straps and role. -/
theorem resetMeetsEveryInvariant : Obligations.ResetMeetsEveryInvariant := by
  have powerOn : ∀ (serial : Serial) (straps : BitVec 4) (role : Role),
      let p := Part.powerOn serial straps role
      p.tau.Sound ∧ p.liu.Sound ∧ p.StoreSound ∧ p.pnl.Sound ∧ p.faults.Sound ∧ p.SelfSound ∧
        (∀ x : Station, (p.peer x).Sound) ∧ p.mxe.Sound := by
    intro serial straps role
    have records := Part.powerOn_recordsSound serial straps role
    exact ⟨by constructor <;> simp [Part.powerOn, Tau.reset], Liu.reset_sound, Part.storeSound_of_reset rfl,
      Pnl.reset_sound, Faults.reset_sound, records.self, records.peers, records.mix⟩
  exact ⟨powerOn, powerOn ..⟩

end Sys2Proof.Machine

/-! # The panel messages: what each does outside LOADING, and how each is refused (R83, R148 to R163, R181 to R197). -/

namespace Sys2Proof.Machine

/-! ## A message and its refusal -/

/-- A command that only acts on the part: its outcome by the part that results. -/
theorem next_withPart {p q : Part} (s : State) (h : p = q) :
    (.next (s.withPart p) : Host.Outcome State Fault Refusal) = .next (s.withPart q) := by
  rw [h]

/-- The part that a message acts on: its own, the frame taken (R187). -/
def Part.framed (p : Part) : Part := { p with pnl := p.pnl.frameDone }

/-- A message that is refused: the framer is reset, the REFUSED report emitted, the selection set emptied (R187). -/
theorem Part.message_refuse (reason : RefusalReason) (type : Byte) (act : Part → Part) {p : Part}
    (h : act p.framed = Part.refuse reason type p.framed) :
    p.message act =
      { p with pnl := { p.pnl.afterFrame.emit (refusedReport reason type) with selection := [] } } := by
  change (act p.framed).emptySelection = _
  rw [h]
  rfl

/-- A message that acts on the mix alone. -/
theorem Part.message_mix {act : Part → Part} {p : Part} (f : Mxe → Mxe)
    (h : act p.framed = Part.mapMxe f p.framed) :
    p.message act = { p with mxe := f p.mxe, pnl := p.pnl.afterMessage } := by
  change (act p.framed).emptySelection = _
  rw [h]
  rfl

/-- A message that acts on Station Control alone. -/
theorem Part.message_cap {act : Part → Part} {p : Part} (f : Cap → Cap)
    (h : act p.framed = Part.mapCap f p.framed) :
    p.message act = { p with cap := f p.cap, pnl := p.pnl.afterMessage } := by
  change (act p.framed).emptySelection = _
  rw [h]
  rfl

/-! ## Test 4: LOADING (R187) -/

section
variable (p : Part) (h : p.cap.station = .loading)
include h

theorem Part.fader_loading (group : Byte) (level : BitVec 16) : p.fader group level = p.refuse .loading 0x01 := if_pos h
theorem Part.slope_loading (group : Byte) (time : BitVec 16) (shape : Byte) :
    p.slope group time shape = p.refuse .loading 0x02 := if_pos h
theorem Part.select_loading (station lane : Byte) : p.select station lane = p.refuse .loading 0x03 := if_pos h
theorem Part.assign_loading (value : Byte) : p.assign value = p.refuse .loading 0x04 := if_pos h
theorem Part.fallback_loading (value : Byte) : p.fallback value = p.refuse .loading 0x05 := if_pos h
theorem Part.matrix_loading (output group : Byte) (gain : BitVec 16) :
    p.matrix output group gain = p.refuse .loading 0x06 := if_pos h
theorem Part.take_loading : p.take = p.refuse .loading 0x07 := if_pos h
theorem Part.meters_loading (value : Byte) : p.meters value = p.refuse .loading 0x0B := if_pos h
theorem Part.ackFaults_loading : p.ackFaults = p.refuse .loading 0x0D := if_pos h

end

/-- Settles O13: test 4 of R187 for each of the nine messages. -/
theorem loadingRefusesTheMixMessages : Obligations.LoadingRefusesTheMixMessages := by
  refine fun s c type h => ⟨fun message => ?_, fun select typeIs => ?_⟩
  · rcases message with ⟨g, l, rfl, rfl⟩ | ⟨g, n, sh, rfl, rfl⟩ | ⟨v, rfl, rfl⟩ | ⟨v, rfl, rfl⟩ | ⟨o, g, n, rfl, rfl⟩ |
      ⟨rfl, rfl⟩ | ⟨v, rfl, rfl⟩ | ⟨rfl, rfl⟩
    · exact next_withPart s (Part.message_refuse _ _ _ (Part.fader_loading s.part.framed h g l))
    · exact next_withPart s (Part.message_refuse _ _ _ (Part.slope_loading s.part.framed h g n sh))
    · exact next_withPart s (Part.message_refuse _ _ _ (Part.assign_loading s.part.framed h v))
    · exact next_withPart s (Part.message_refuse _ _ _ (Part.fallback_loading s.part.framed h v))
    · exact next_withPart s (Part.message_refuse _ _ _ (Part.matrix_loading s.part.framed h o g n))
    · exact next_withPart s (Part.message_refuse _ _ _ (Part.take_loading s.part.framed h))
    · exact next_withPart s (Part.message_refuse _ _ _ (Part.meters_loading s.part.framed h v))
    · exact next_withPart s (Part.message_refuse _ _ _ (Part.ackFaults_loading s.part.framed h))
  · obtain ⟨x, k, rfl⟩ := select
    subst typeIs
    exact next_withPart s (Part.select_loading s.part.framed h x k)

/-! ## Messages that act (R148 to R163, R189) -/

theorem outputOf_eq (b : Byte) (o : OutputNo) (h : b.toNat = o.val) : outputOf b = some o := by
  have := o.isLt
  unfold outputOf
  rw [dif_pos (by omega)]
  exact congrArg some (Fin.ext h)

theorem outputOf_none (b : Byte) (h : 7 < b.toNat) : outputOf b = none := dif_neg (by omega)

theorem progLaneOf_none (b : Byte) (h : 7 < b.toNat) : progLaneOf b = none := dif_neg (by omega)

theorem slopeOf_none (t : BitVec 16) (h : t.toNat ∉ [0, 1, 2, 10, 50, 100, 200, 500]) : slopeOf t = none := by
  unfold slopeOf slopeTimes
  rw [if_neg]
  simpa using h

theorem shapeOf_eq {b : Byte} {sh : RampShape} (h : b = 0x00 ∧ sh = .linear ∨ b = 0x01 ∧ sh = .eased) :
    shapeOf b = some sh := by
  rcases h with ⟨rfl, rfl⟩ | ⟨rfl, rfl⟩ <;> rfl

theorem shapeOf_none {b : Byte} (h : 1 < b.toNat) : shapeOf b = none := by
  unfold shapeOf
  rw [if_neg, if_neg]
  · rintro rfl
    exact absurd h (by decide)
  · rintro rfl
    exact absurd h (by decide)

theorem mapEntryOf_eq {value : Byte} {e : MapEntry}
    (h : value = 0xFF ∧ e = .byRole ∨ ∃ g : Fin 9, value.toNat = g.val ∧ e = .group g) : mapEntryOf value = some e := by
  rcases h with ⟨rfl, rfl⟩ | ⟨g, hg, rfl⟩
  · rfl
  · have := g.isLt
    unfold mapEntryOf
    rw [if_neg, dif_pos (by omega)]
    · exact congrArg (fun g => some (MapEntry.group g)) (Fin.ext hg)
    · rintro rfl
      simp at hg
      omega

theorem mapEntryOf_none {value : Byte} (h : 8 < value.toNat) (hff : value ≠ 0xFF) : mapEntryOf value = none := by
  unfold mapEntryOf
  rw [if_neg hff, dif_neg (by omega)]

theorem fallbackOf_eq {value : Byte} {e : Option ProgLane}
    (h : value = 0xFF ∧ e = none ∨ ∃ k : ProgLane, value.toNat = k.val ∧ e = some k) : fallbackOf value = some e := by
  rcases h with ⟨rfl, rfl⟩ | ⟨k, hk, rfl⟩
  · rfl
  · have := k.isLt
    unfold fallbackOf
    rw [if_neg, progLaneOf_eq value k hk]
    · rfl
    · rintro rfl
      simp at hk
      omega

theorem fallbackOf_none {value : Byte} (h : 7 < value.toNat) (hff : value ≠ 0xFF) : fallbackOf value = none := by
  unfold fallbackOf
  rw [if_neg hff, progLaneOf_none value h]
  rfl

section
variable (p : Part) (h : p.cap.station ≠ .loading)
include h

theorem Part.fader_acts {group : Byte} {g : GroupIx} (hg : groupOf group = some g) (level : BitVec 16) :
    p.fader group level = p.mapMxe (Mxe.setFader g level.toNat) := by
  rw [Part.fader, if_neg h, hg]

theorem Part.fader_range {group : Byte} (hg : groupOf group = none) (level : BitVec 16) :
    p.fader group level = p.refuse .range 0x01 := by
  rw [Part.fader, if_neg h, hg]

theorem Part.slope_acts {group shape : Byte} {time : BitVec 16} {g : GroupIx} {t : Nat} {sh : RampShape}
    (hg : groupOf group = some g) (ht : slopeOf time = some t) (hsh : shapeOf shape = some sh) :
    p.slope group time shape =
      p.mapMxe fun m => { m with groups := vmodify m.groups g fun x => { x with slope := t, shape := sh } } := by
  rw [Part.slope, if_neg h, hg, ht, hsh]

theorem Part.slope_range {group shape : Byte} {time : BitVec 16}
    (hr : groupOf group = none ∨ slopeOf time = none ∨ shapeOf shape = none) :
    p.slope group time shape = p.refuse .range 0x02 := by
  rw [Part.slope, if_neg h]
  split
  · next hg ht hsh => simp [hg, ht, hsh] at hr
  · rfl

theorem Part.assign_acts {value : Byte} {e : MapEntry} (he : mapEntryOf value = some e) :
    p.assign value = p.mapMxe fun m => { m with map := writeSelected p.pnl.selection e m.map } := by
  rw [Part.assign, if_neg h, he]

theorem Part.assign_range {value : Byte} (he : mapEntryOf value = none) : p.assign value = p.refuse .range 0x04 := by
  rw [Part.assign, if_neg h, he]

theorem Part.fallback_acts {value : Byte} {e : Option ProgLane} (he : fallbackOf value = some e) :
    p.fallback value = p.mapMxe fun m => { m with fallback := writeSelected p.pnl.selection e m.fallback } := by
  rw [Part.fallback, if_neg h, he]

theorem Part.fallback_range {value : Byte} (he : fallbackOf value = none) :
    p.fallback value = p.refuse .range 0x05 := by
  rw [Part.fallback, if_neg h, he]

theorem Part.matrix_acts {output group : Byte} {o : OutputNo} {g : GroupIx} (ho : outputOf output = some o)
    (hg : groupOf group = some g) (gain : BitVec 16) :
    p.matrix output group gain = p.mapMxe fun m => { m with pendingBank := bankSet o g gain.toNat m.pendingBank } := by
  rw [Part.matrix, if_neg h, ho, hg]

theorem Part.matrix_range {output group : Byte} (hr : outputOf output = none ∨ groupOf group = none)
    (gain : BitVec 16) : p.matrix output group gain = p.refuse .range 0x06 := by
  rw [Part.matrix, if_neg h]
  split
  · next ho hg => simp [ho, hg] at hr
  · rfl

theorem Part.take_acts : p.take = p.mapMxe fun m => { m with takeCount := satAdd 255 m.takeCount 1 } := if_neg h

theorem Part.meters_acts (value : Byte) : p.meters value = p.mapMxe (Mxe.setMeters (value != 0)) := if_neg h

end

/-- FADER outside LOADING (R148). -/
theorem exec_fader {s : State} {group : Byte} {g : GroupIx} (h : s.part.cap.station ≠ .loading)
    (hg : group.toNat = g.val + 1) (level : BitVec 16) :
    exec (.fader group level) s = .next (s.withPart { s.part with
      mxe := s.part.mxe.setFader g level.toNat, pnl := s.part.pnl.afterMessage }) :=
  next_withPart s (Part.message_mix _ (Part.fader_acts s.part.framed h (groupOf_eq group g hg) level))

/-- SLOPE outside LOADING (R150). -/
theorem exec_slope {s : State} {group shape : Byte} {time : BitVec 16} {g : GroupIx} {sh : RampShape}
    (h : s.part.cap.station ≠ .loading) (hg : group.toNat = g.val + 1)
    (ht : time.toNat ∈ [0, 1, 2, 10, 50, 100, 200, 500])
    (hsh : shape = 0x00 ∧ sh = .linear ∨ shape = 0x01 ∧ sh = .eased) :
    exec (.slope group time shape) s = .next (s.withPart { s.part with
      mxe := { s.part.mxe with
        groups := vmodify s.part.mxe.groups g fun x => { x with slope := time.toNat, shape := sh } }
      pnl := s.part.pnl.afterMessage }) :=
  next_withPart s
    (Part.message_mix _ (Part.slope_acts s.part.framed h (groupOf_eq group g hg) (slopeOf_eq time ht) (shapeOf_eq hsh)))

/-- Settles O7: FADER outside LOADING changes its group alone (R148). -/
theorem faderStartsARamp : Obligations.FaderStartsARamp := fun _ _ level _ h hg => exec_fader h hg level

theorem vmodify_get_self {α : Type} {n : Nat} (v : Vector α n) (i : Fin n) (f : α → α) : (vmodify v i f)[i] = f v[i] := by
  rw [vmodify_get, if_pos rfl]

/-- Settles O8: a FADER takes the slope and shape that it finds, and a SLOPE leaves the ramp that it finds. -/
theorem slopeGovernsTheNextRamp : Obligations.SlopeGovernsTheNextRamp := by
  intro s group shape time g sh h hg ht hsh sloped
  refine ⟨_, exec_slope h hg ht hsh, rfl, fun level => ⟨_, exec_fader (s := s.withPart _) (by exact h) hg level, ?_⟩,
    fun level => ⟨_, _, exec_fader h hg level, exec_slope (s := s.withPart _) (by exact h) hg ht hsh, ?_⟩⟩
  · simp only [Mxe.setFader, State.withPart_part, vmodify_get_self]
  · simp only [Mxe.setFader, State.withPart_part, vmodify_get_self, and_self]

/-- Settles O10: the two maps by what a write to the selected streams does (`writeSelected_get`). -/
theorem assignAndFallbackWriteTheSelection : Obligations.AssignAndFallbackWriteTheSelection := by
  refine ⟨fun s value e h he => ⟨writeSelected s.part.pnl.selection e s.part.mxe.map, ?_, writeSelected_get _ _ _⟩,
    fun s value e h he => ⟨writeSelected s.part.pnl.selection e s.part.mxe.fallback, ?_, writeSelected_get _ _ _⟩⟩
  · exact next_withPart s (Part.message_mix _ (Part.assign_acts s.part.framed h (mapEntryOf_eq he)))
  · exact next_withPart s (Part.message_mix _ (Part.fallback_acts s.part.framed h (fallbackOf_eq he)))

/-- Settles O11: MATRIX writes the PENDING bank, TAKE the take count (R152, R153). -/
theorem matrixAndTakePrepareTheExchange : Obligations.MatrixAndTakePrepareTheExchange :=
  ⟨fun s output group gain o g h ho hg => next_withPart s
      (Part.message_mix _ (Part.matrix_acts s.part.framed h (outputOf_eq output o ho) (groupOf_eq group g hg) gain)),
    fun s h => next_withPart s (Part.message_mix _ (Part.take_acts s.part.framed h))⟩

/-- The meter count one short of 20 brings the METER report and clears the meters (R163). -/
theorem Part.meterTick_reports {p : Part} (h : p.cap.station ≠ .loading) (on : p.mxe.metersOn = true)
    (count : p.mxe.meterCount = 19) :
    p.meterTick = { p with mxe := p.mxe.clearMeters, pnl := p.pnl.emit (meterReport p.mxe) } := by
  simp [Part.meterTick, h, on, count, Part.emit]

/-- Settles O12: METERS by the value that it carries, METER_REPORT by the tick that it takes (R163). -/
theorem metersBeginAfreshAndReport : Obligations.MetersBeginAfreshAndReport := by
  refine ⟨fun s value h => ?_, fun s h due on count => ?_⟩
  · refine (next_withPart s (Part.message_mix _ (Part.meters_acts s.part.framed h value))).trans ?_
    by_cases off : value = 0
    · subst off
      rfl
    · by_cases on : s.part.mxe.metersOn = true <;> simp [Mxe.setMeters, on, Mxe.clearMeters]
  · have falls : s.part.meterFalls = true := by simp [Part.meterFalls, Part.running, h, on, count]
    refine next_withPart s ?_
    rw [falls, Part.expire_due _ _ _ due rfl]
    exact Part.meterTick_reports (p := { s.part with moment := s.part.moment.took .meter }) h on count

/-- Settles O14: each field out of its range (R190, R191). -/
theorem fieldsOutOfRangeAreRefused : Obligations.FieldsOutOfRangeAreRefused := by
  rintro s c type (⟨h, field⟩ | ⟨d, rfl, rfl, hd⟩ | ⟨x, rfl, rfl, hx⟩)
  · rcases field with ⟨g, l, rfl, rfl, hg⟩ | ⟨g, n, sh, rfl, rfl, hr⟩ | ⟨v, rfl, rfl, hv, hff⟩ | ⟨v, rfl, rfl, hv, hff⟩ |
      ⟨o, g, n, rfl, rfl, hr⟩
    · exact next_withPart s (Part.message_refuse _ _ _ (Part.fader_range s.part.framed h (groupOf_none g hg) l))
    · refine next_withPart s (Part.message_refuse _ _ _ (Part.slope_range s.part.framed h ?_))
      exact hr.imp (groupOf_none g) (Or.imp (slopeOf_none n) shapeOf_none)
    · exact next_withPart s (Part.message_refuse _ _ _ (Part.assign_range s.part.framed h (mapEntryOf_none hv hff)))
    · exact next_withPart s (Part.message_refuse _ _ _ (Part.fallback_range s.part.framed h (fallbackOf_none hv hff)))
    · refine next_withPart s (Part.message_refuse _ _ _ (Part.matrix_range s.part.framed h ?_ n))
      exact hr.imp (outputOf_none o) (groupOf_none g)
  · exact next_withPart s (Part.message_refuse _ _ _ (if_pos hd))
  · refine next_withPart s (Part.message_refuse _ _ _ ?_)
    rw [Part.queryPeer, stationOf_none x hx]

/-! ## TALK (R83) -/

theorem Part.talk_acts (p : Part) {x : Byte} (hx : x.toNat ≤ 16) (hc : p.cap.station ≠ .conflict)
    (hm : p.tau.mode.settled = true) : p.talk x = p.mapCap fun c => { c with session := c.session.talkTo x } := by
  rw [Part.talk, if_neg (by omega), if_neg hc, if_neg (by simp [hm])]

theorem Part.talk_conflict (p : Part) {x : Byte} (hx : x.toNat ≤ 16) (hc : p.cap.station = .conflict) :
    p.talk x = p.refuse .conflict 0x08 := by
  rw [Part.talk, if_neg (by omega), if_pos hc]

theorem Part.talk_notSettled (p : Part) {x : Byte} (hx : x.toNat ≤ 16) (hc : p.cap.station ≠ .conflict)
    (hm : p.tau.mode.settled = false) : p.talk x = p.refuse .notSettled 0x08 := by
  rw [Part.talk, if_neg (by omega), if_neg hc, if_pos (by simp [hm])]

/-- Settles O15: the table of R83 by the session that TALK or TALK_OFF finds. -/
theorem talkMovesTheSession : Obligations.TalkMovesTheSession := by
  refine ⟨fun s x hx hc hm => ⟨s.part.cap.session.talkTo x, ?_, ?_⟩, fun s => ⟨s.part.cap.session.talkOff, rfl, ?_⟩,
    fun s x reason hx refused => ?_⟩
  · exact next_withPart s (Part.message_cap _ (Part.talk_acts s.part.framed hx hc hm))
  · cases s.part.cap.session <;> simp [TalkSession.talkTo]
  · cases s.part.cap.session <;> simp [TalkSession.talkOff]
  · rcases refused with ⟨hc, rfl⟩ | ⟨hc, hm, rfl⟩
    · exact next_withPart s (Part.message_refuse _ _ _ (Part.talk_conflict s.part.framed hx hc))
    · exact next_withPart s (Part.message_refuse _ _ _ (Part.talk_notSettled s.part.framed hx hc hm))

/-! ## SELECT (R188) -/

section
variable (p : Part) (h : p.cap.station ≠ .loading)
include h

theorem Part.select_range {station lane : Byte} (hr : stationOf station = none ∨ progLaneOf lane = none) :
    p.select station lane = p.refuse .range 0x03 := by
  rw [Part.select, if_neg h]
  split
  · next hs hk => simp [hs, hk] at hr
  · rfl

theorem Part.select_stream {station lane : Byte} {x : Station} {k : ProgLane} (hs : stationOf station = some x)
    (hk : progLaneOf lane = some k) :
    p.select station lane =
      if (x, k) ∈ p.pnl.selection then p
      else if p.pnl.selection.length < 32 then { p with pnl := { p.pnl with selection := p.pnl.selection ++ [(x, k)] } }
      else p.refuse .setFull 0x03 := by
  rw [Part.select, if_neg h, hs, hk]
  simp only [List.contains_iff_mem]

end

theorem Part.restart_selection (p : Part) : (p.message Part.restart).pnl.selection = [] := rfl

/-- Settles O9: SELECT by what it names and what the set holds; every command keeps the set by `exec_keeps`. -/
theorem selectBuildsTheSelectionSet : Obligations.SelectBuildsTheSelectionSet := by
  refine ⟨fun s station lane h => ⟨fun hr => ?_, fun x k hx hk => ?_⟩, fun s straps role c reset => ?_,
    fun s t c limit distinct e => ?_⟩
  · refine next_withPart s (Part.select_range s.part.framed h ?_)
    rcases hr with hr | hr | hr
    · exact .inl (stationOf_none station (.inl hr))
    · exact .inl (stationOf_none station (.inr hr))
    · exact .inr (progLaneOf_none lane hr)
  · have taken : exec (.select station lane) s = .next (s.withPart _) := next_withPart s
      (Part.select_stream s.part.framed h (stationOf_eq station x hx)
        (progLaneOf_eq lane k hk))
    rw [taken]
    refine ⟨fun held => ?_, fun new room => ?_, fun new full => ?_⟩
    · rw [if_pos (by exact held)]
      rfl
    · rw [if_neg (by exact new), if_pos (by exact room)]
      rfl
    · rw [if_neg (by exact new), if_neg (by exact Nat.not_lt.mpr full)]
      rfl
  · rcases reset with rfl | rfl | rfl
    · exact ⟨_, rfl, rfl⟩
    · exact ⟨_, rfl, rfl⟩
    · exact ⟨_, rfl, Part.restart_selection _⟩
  · by_cases running : ∀ straps role, c ≠ .powerOnReset straps role ∧ c ≠ .resetPin straps role
    · exact (exec_keeps running e).selection ⟨limit, distinct⟩
    · have empty : t.part.pnl.selection = [] := by
        push Not at running
        obtain ⟨straps, role, pin⟩ := running
        by_cases power : c = .powerOnReset straps role
        · subst power
          cases e
          rfl
        · obtain rfl := pin power
          cases e
          rfl
      exact Pnl.Selected.nothing empty

/-! ## Queries, emissions and the transmitter (R192 to R197) -/

theorem dropOldestMeter_at {before after : List Report} {m : Report} (hm : m.kind = .meter)
    (hb : ∀ y ∈ before, y.kind ≠ .meter) : dropOldestMeter (before ++ m :: after) = before ++ after := by
  induction before with
  | nil => simp [dropOldestMeter, hm]
  | cons y ys ih =>
    rw [List.cons_append, dropOldestMeter, if_neg (hb y List.mem_cons_self),
      ih fun z hz => hb z (List.mem_cons_of_mem _ hz)]
    rfl

/-- An emission at a full queue that cannot displace a METER is lost (R194). -/
theorem Pnl.emit_lost (q : Pnl) (r : Report) (full : 32 ≤ q.reports.length)
    (h : r.kind = .meter ∨ ∀ y ∈ q.reports, y.kind ≠ .meter) : q.emit r = { q with reportsLost := true } := by
  unfold Pnl.emit
  rw [if_neg (by exact Nat.not_lt.mpr full), if_neg]
  rintro ⟨notMeter, any⟩
  rcases h with h | h
  · exact notMeter h
  · obtain ⟨y, hy, hk⟩ := List.any_eq_true.mp any
    exact h y hy (by simpa using hk)

/-- An emission at a full queue displaces the oldest METER (R194). -/
theorem Pnl.emit_displaces (q : Pnl) (r : Report) {before after : List Report} {m : Report}
    (full : 32 ≤ q.reports.length) (hr : r.kind ≠ .meter) (e : q.reports = before ++ m :: after)
    (hm : m.kind = .meter) (hb : ∀ y ∈ before, y.kind ≠ .meter) :
    q.emit r = { q with reports := before ++ after ++ [r], reportsLost := true } := by
  unfold Pnl.emit
  rw [if_neg (by exact Nat.not_lt.mpr full), if_pos ⟨hr, by simp [e, hm]⟩, e, dropOldestMeter_at hm hb]

/-- Settles O16: what a QUERY emits joins the tail; the table of a full queue; the transmitter takes the head. -/
theorem queriesQueueTheirReports : Obligations.QueriesQueueTheirReports := by
  refine ⟨fun s room => ⟨?_, fun station x hx => ?_, ?_⟩, fun s r rest e => ?_, fun s e => ?_, fun q r =>
    ⟨q.emit_room r, q.emit_lost r, fun before after m full hr e hm hb => q.emit_displaces r full hr e hm hb⟩⟩
  · refine next_withPart s ?_
    rw [Part.message, Part.queryStatus, Part.emit, Pnl.emit_room _ _ (by exact room)]
    rfl
  · refine next_withPart s ?_
    rw [Part.message, Part.queryPeer, stationOf_eq station x hx]
    dsimp only
    rw [Part.emitPeer, Part.emit, Pnl.emit_room _ _ (by exact room)]
    rfl
  · refine next_withPart s ?_
    rw [Part.message, Part.queryFaults, Part.emit, Pnl.emit_room _ _ (by exact room)]
    rfl
  · refine next_withPart s ?_
    rw [Part.sendReport, e]
    rfl
  · refine next_withPart s (?_ : _ = s.part)
    rw [Part.sendReport, e]

end Sys2Proof.Machine

/-! # The fault list: what a raise and an end do to it (R178 to R183). -/

namespace Sys2Proof.Machine

/-! ## The list of records -/

/-- With one record for each key, an update by key is an update of its record. -/
theorem updateRecord_eq_map {list : List FaultRecord} (hd : (list.map (·.key)).Nodup) {r : FaultRecord} (hr : r ∈ list)
    (r' : FaultRecord) : updateRecord r.key (fun _ => r') list = list.map fun y => if y = r then r' else y := by
  refine List.map_congr_left fun y hy => if_congr ⟨fun same => ?_, fun same => by rw [same]⟩ rfl rfl
  exact List.inj_on_of_nodup_map hd hy hr same

theorem displace_eq (list : List FaultRecord) :
    displace list = if list.all (fun y => y.active) then list.drop 1 else list.eraseP (fun y => !y.active) := by
  have ended : list.any (fun y => !y.active) = !list.all fun y => y.active := by rw [List.all_eq_not_any_not, Bool.not_not]
  unfold displace
  rw [ended]
  cases list.all (fun y => y.active) <;> rfl

section
variable (block : Nat) {key : FaultKey} (detail : Option Verdict) (recurs : Bool) {list : List FaultRecord}

theorem raiseRecord_creates (new : ∀ r ∈ list, r.key ≠ key) (room : list.length < 32) :
    raiseRecord block key detail recurs list =
      (list ++ [⟨key, detail, true, block, 1⟩], [⟨key, detail, true, block, 1⟩]) := by
  rw [raiseRecord, findRecord_none.mpr new]
  exact if_pos room

theorem raiseRecord_changes (hd : (list.map (·.key)).Nodup) {r : FaultRecord} (hr : r ∈ list) (hk : r.key = key) :
    let r' := { r with
      active := true, detail := detail, count := if r.active && !recurs then r.count else satAdd 255 r.count 1 }
    raiseRecord block key detail recurs list =
      (list.map fun y => if y = r then r' else y, if r' = r then [] else [r']) := by
  subst hk
  rw [raiseRecord, findRecord_of_mem hd hr]
  simp only [updateRecord_eq_map hd hr]

theorem raiseRecord_counts (hd : (list.map (·.key)).Nodup) (new : ∀ y ∈ list, y.key ≠ key) (full : 32 ≤ list.length)
    {r : FaultRecord} (hr : r ∈ list) (hk : r.key = ⟨.overflow, .none⟩) :
    let r' := { r with count := min (r.count + 1) 255 }
    raiseRecord block key detail recurs list = (list.map fun y => if y = r then r' else y, [r']) := by
  have found : findRecord (FaultKey.plain .overflow) list = some r := by
    rw [← findRecord_of_mem hd hr, hk]
    rfl
  rw [raiseRecord, findRecord_none.mpr new]
  dsimp only
  rw [if_neg (Nat.not_lt.mpr full), overflowRaise, found]
  simp only [updateRecord_eq_map hd hr, satAdd]

theorem raiseRecord_displaces (new : ∀ y ∈ list, y.key ≠ key ∧ y.key ≠ ⟨.overflow, .none⟩) (full : 32 ≤ list.length) :
    raiseRecord block key detail recurs list =
      ((if list.all (fun y => y.active) then list.drop 1 else list.eraseP (fun y => !y.active)) ++
        [⟨⟨.overflow, .none⟩, none, false, block, 1⟩], [⟨⟨.overflow, .none⟩, none, false, block, 1⟩]) := by
  have absent : findRecord (FaultKey.plain .overflow) list = none := findRecord_none.mpr fun y hy => (new y hy).2
  rw [raiseRecord, findRecord_none.mpr fun y hy => (new y hy).1]
  dsimp only
  rw [if_neg (Nat.not_lt.mpr full), overflowRaise, absent, ← displace_eq]
  rfl

theorem endRecord_ends (hd : (list.map (·.key)).Nodup) {r : FaultRecord} (hr : r ∈ list) (hk : r.key = key)
    (active : r.active = true) {only : Option Verdict} (hdet : only = none ∨ r.detail = only) :
    endRecord key only list =
      (list.map fun y => if y = r then { r with active := false } else y, [{ r with active := false }]) := by
  subst hk
  rw [endRecord, findRecord_of_mem hd hr]
  simp only [updateRecord_eq_map hd hr, if_pos (And.intro active hdet)]

theorem endRecord_leaves {only : Option Verdict}
    (h : ∀ r ∈ list, r.key = key → ¬(r.active = true ∧ (only = none ∨ r.detail = only))) :
    endRecord key only list = (list, []) := by
  unfold endRecord
  split
  · next r hr => exact if_neg (h r (findRecord_some hr).1 (findRecord_some hr).2)
  · rfl

end

/-! ## Raises and ends of the part -/

section
variable {p : Part} {key : FaultKey}

theorem Part.raiseFault_held (h : key ∈ p.faults.marks) : p.raiseFault key = p := by
  simp [Part.raiseFault, Faults.isActive, h, Part.withList, Pnl.emitAll]

theorem Part.raiseFault_eq (h : key ∉ p.faults.marks) :
    p.raiseFault key = p.withList (p.faults.marks ++ [key]) p.faults.conflict
      (raiseRecord (p.tau.sc.toNat / 48) key none false p.faults.list) := by
  simp [Part.raiseFault, Faults.isActive, h, Part.localBlock, Machine.localBlock]

theorem Part.endFault_clear (h : key ∉ p.faults.marks) : p.endFault key = p := by
  have kept : (p.faults.marks.filter fun m => m != key) = p.faults.marks :=
    List.filter_eq_self.mpr fun m hm => bne_iff_ne.mpr fun e => h (e ▸ hm)
  simp [Part.endFault, Faults.isActive, h, kept, Part.withList, Pnl.emitAll]

theorem Part.endFault_eq (h : key ∈ p.faults.marks) :
    p.endFault key = p.withList (p.faults.marks.filter (· != key)) p.faults.conflict
      (endRecord key none p.faults.list) := by
  simp [Part.endFault, Faults.isActive, h]

theorem filter_bne (marks : List FaultKey) : marks.filter (· != key) = marks.filter fun m => m ≠ key := by
  exact List.filter_congr fun m _ => Bool.eq_iff_iff.mpr (by simp)

end

theorem Part.raiseConflict_eq (p : Part) (v : Verdict) :
    p.raiseConflict v = p.withList p.faults.marks (some v)
      (raiseRecord (p.tau.sc.toNat / 48) ⟨.numberConflict, .station p.sul.own⟩ (some v) (v == .won) p.faults.list) := rfl

theorem Part.endConflictWon_eq {p : Part} (h : p.faults.conflict = some .won) :
    p.endConflictWon = p.withList p.faults.marks none
      (endRecord ⟨.numberConflict, .station p.sul.own⟩ (some .won) p.faults.list) := by
  simp [Part.endConflictWon, h, Part.conflictKey]

theorem Part.endConflictWon_other {p : Part} (h : p.faults.conflict ≠ some .won) : p.endConflictWon = p := by
  simp [Part.endConflictWon, h, Part.withList, Pnl.emitAll]

/-- Settles O31: each row by the record that the raise or the end finds. -/
theorem faultListFollowsRaisesAndEnds : Obligations.FaultListFollowsRaisesAndEnds := by
  refine ⟨fun p key hd => ⟨Part.raiseFault_held, fun unmarked new room => ?_, fun r hr unmarked hk ended => ?_,
    fun r hr unmarked new full hk => ?_, fun unmarked new full => ?_, Part.endFault_clear,
    fun r hr marked hk active => ?_, fun marked ended => ?_⟩,
    fun p v hd => ⟨fun new room => ?_, fun r hr hk => ?_, fun new full => ?_, fun r hr new full hk => ?_,
    Part.endConflictWon_other, fun r hr won hk active hdet => ?_, fun won ended => ?_⟩⟩
  · rw [Part.raiseFault_eq unmarked, raiseRecord_creates _ _ _ new room]
    rfl
  · have changed : { r with
        active := true, detail := none, count := if r.active && !false then r.count else satAdd 255 r.count 1 } ≠ r :=
      fun e => by simpa [ended] using congrArg FaultRecord.active e
    rw [Part.raiseFault_eq unmarked, raiseRecord_changes _ _ _ hd hr hk, if_neg changed]
    simp only [ended, Bool.false_and, Bool.false_eq_true, if_false]
    rfl
  · rw [Part.raiseFault_eq unmarked, raiseRecord_counts _ _ _ hd new full hr hk]
    rfl
  · rw [Part.raiseFault_eq unmarked, raiseRecord_displaces _ _ _ new full]
    rfl
  · rw [Part.endFault_eq marked, endRecord_ends hd hr hk active (.inl rfl), filter_bne]
    rfl
  · rw [Part.endFault_eq marked, endRecord_leaves fun r hr hk h => by simp [ended r hr hk] at h, filter_bne]
    rfl
  · rw [Part.raiseConflict_eq, raiseRecord_creates _ _ _ new room]
    rfl
  · have recurs : (r.active && !(v == .won)) = true ↔ r.active = true ∧ v = .lost := by
      cases v <;> simp
    rw [Part.raiseConflict_eq, raiseRecord_changes _ _ _ hd hr hk]
    simp only [recurs, satAdd, Part.withList]
    rw [apply_ite (List.map faultReport), apply_ite p.pnl.emitAll]
    rfl
  · rw [Part.raiseConflict_eq, raiseRecord_displaces _ _ _ new full]
    rfl
  · rw [Part.raiseConflict_eq, raiseRecord_counts _ _ _ hd new full hr hk]
    rfl
  · rw [Part.endConflictWon_eq won, endRecord_ends hd hr hk active (.inr hdet)]
    rfl
  · rw [Part.endConflictWon_eq won, endRecord_leaves fun r hr hk h => ?_]
    · rfl
    · rcases ended r hr hk with e | e <;> simp_all

/-! ## ACK_FAULTS (R181) -/

theorem Part.ackFaults_acts {p : Part} (h : p.cap.station ≠ .loading) :
    p.ackFaults = { p with faults := { p.faults with list := p.faults.list.filter (·.active) } } := if_neg h

/-- A raise leaves its own record ACTIVE, where it has one. -/
theorem raiseRecord_active (block : Nat) {key : FaultKey} (detail : Option Verdict) (recurs : Bool)
    {list : List FaultRecord} (hk : key.kind ≠ .overflow) {r : FaultRecord}
    (hr : r ∈ (raiseRecord block key detail recurs list).1) (same : r.key = key) : r.active = true := by
  have notOverflow : FaultKey.plain .overflow ≠ key := fun e => hk (by rw [← e]; rfl)
  unfold raiseRecord at hr
  split at hr
  · obtain ⟨y, -, e⟩ := List.mem_map.mp hr
    split at e
    · rw [← e]
    · next other => exact absurd (by rw [e, same]) other
  · next none =>
    have new := findRecord_none.mp none
    split at hr
    · rcases List.mem_append.mp hr with old | added
      · exact absurd same (new r old)
      · rw [List.mem_singleton.mp added]
    · unfold overflowRaise at hr
      split at hr
      · next o found =>
        obtain ⟨y, hy, e⟩ := List.mem_map.mp hr
        split at e
        · rw [← e] at same
          exact absurd ((findRecord_some found).2.symm.trans same) notOverflow
        · exact absurd (e ▸ same) (new y hy)
      · rcases List.mem_append.mp hr with old | added
        · exact absurd same (new r ((displace_sublist list).mem old))
        · rw [List.mem_singleton.mp added] at same
          exact absurd same notOverflow

/-- An end leaves its own record ENDED, where it has one. -/
theorem endRecord_inactive {key : FaultKey} {list : List FaultRecord} (hd : (list.map (·.key)).Nodup) {r : FaultRecord}
    (hr : r ∈ (endRecord key none list).1) (same : r.key = key) : r.active = false := by
  unfold endRecord at hr
  split at hr
  · next x found =>
    obtain ⟨hx, kx⟩ := findRecord_some found
    split at hr
    · obtain ⟨y, -, e⟩ := List.mem_map.mp hr
      split at e
      · rw [← e]
      · next other => exact absurd (by rw [e, same]) other
    · next ended =>
      rw [List.inj_on_of_nodup_map hd hr hx (same.trans kx.symm)]
      simpa using ended
  · next none => exact absurd same (findRecord_none.mp none r hr)

/-- Settles O18: ACK_FAULTS keeps the ACTIVE records; a raise and an end by what `raiseRecord` and `endRecord` leave. -/
theorem ackFaultsRemovesEndedRecords : Obligations.AckFaultsRemovesEndedRecords := by
  refine ⟨fun s h => next_withPart s ?_, fun s h => ⟨_, next_withPart s (Part.message_refuse _ _ _
    (Part.ackFaults_loading s.part.framed h)), rfl⟩, fun p key inactive room new => ?_,
    fun p key r hr same unmarked _ hk => ?_, fun p key r hr same marked hd => ?_⟩
  · change (s.part.framed.ackFaults).emptySelection = _
    rw [Part.ackFaults_acts (by exact h)]
    rfl
  · rw [Part.raiseFault_eq (by simpa [Faults.isActive] using inactive), raiseRecord_creates _ _ _ new room]
    rfl
  · rw [Part.raiseFault_eq unmarked] at hr
    exact raiseRecord_active _ _ _ hk hr same
  · rw [Part.endFault_eq marked] at hr
    exact endRecord_inactive hd hr same

end Sys2Proof.Machine

/-! # The step, the resets and the load (R198 to R202, R207). -/

namespace Sys2Proof.Machine

/-- Settles O1: `step` by its equation at a queue that is not empty. -/
theorem stepTakesTheFrontCommand : Obligations.StepTakesTheFrontCommand := by
  intro s c rest h
  rw [step, h]

/-! ## The resets (R198, R199) -/

theorem stationOfStraps_number (straps : BitVec 4) : (stationOfStraps straps).number = straps.toNat + 1 := rfl

/-- Both resets are one operation. -/
theorem exec_hardReset {c : Instr} {straps : BitVec 4} {role : Role}
    (h : c = .powerOnReset straps role ∨ c = .resetPin straps role) (s : State) :
    exec c s = .next (s.withPart (s.part.hardReset straps role)) := by
  rcases h with rfl | rfl <;> rfl

/-- LINK ABORT pulses when a frame was in progress (R10). -/
theorem Part.hardReset_aborts (straps : BitVec 4) (role : Role) (p : Part) :
    (p.hardReset straps role).liu.aborts = if p.liu.tx = none then p.liu.aborts else p.liu.aborts + 1 := by
  cases h : p.liu.tx <;> simp [Part.hardReset, h]

/-- A bank at reset: groups 1 and 2 at unity, the others closed (R152). -/
theorem resetBank_get (o : OutputNo) (g : GroupIx) :
    Mxe.reset.active[o][g] = (if g.val < 2 then 32768 else 0) ∧
      Mxe.reset.pendingBank[o][g] = if g.val < 2 then 32768 else 0 := by
  decide +revert

/-- Settles O2: the values of `Part.powerOn`, block by block. -/
theorem resetsLeaveTheResetValues : Obligations.ResetsLeaveTheResetValues := by
  intro s straps role c h
  refine ⟨_, exec_hardReset h s, ⟨rfl, rfl, rfl, rfl⟩, ⟨rfl, rfl, rfl, rfl, rfl, rfl, rfl, rfl, rfl, rfl, rfl⟩,
    ⟨rfl, rfl, rfl, rfl, rfl, rfl, rfl, rfl, rfl, rfl, rfl, rfl, rfl, rfl, rfl, Part.hardReset_aborts straps role _⟩,
    ⟨fun x => ?_, rfl, rfl⟩, ⟨rfl, rfl, rfl, rfl, rfl, rfl, fun k => ?_, rfl, rfl⟩, ⟨rfl, rfl, rfl, rfl, rfl⟩,
    ⟨rfl, rfl, rfl, rfl, fun x k => ?_⟩, ⟨fun x k => ?_, fun g => ?_, resetBank_get, fun o => ?_, rfl, rfl, rfl, rfl,
      rfl, rfl, rfl⟩, fun x => ?_, ⟨rfl, rfl, rfl, rfl⟩, ⟨rfl, rfl, rfl, rfl, rfl⟩⟩
  · exact PeerTable.reset_records x
  · simp [Part.hardReset, Part.powerOn, Cap.reset]
  · simp [Part.hardReset, Part.powerOn, Plu.lane, Plu.reset]
  · simp [Part.hardReset, Part.powerOn, Mxe.reset, FallbackSwitch.reset]
  · simp [Part.hardReset, Part.powerOn, Mxe.reset, MixGroup.reset, unityGain]
  · simp [Part.hardReset, Part.powerOn, Mxe.reset]
  · simp [Part.hardReset, Part.powerOn, DigestRecord.reset]

/-! ## The load (R200 to R202) -/

section
variable {p : Part} (h : p.cap.station = .loading) {record : List Byte}
include h

theorem Part.endLoad_usable (usable : usableRecord record = true) : p.endLoad record = p.takeSettings record := by
  rw [Part.endLoad, if_pos h, if_pos usable]

theorem Part.endLoad_defaulted (bad : usableRecord record = false) :
    p.endLoad record = (p.takeSettings record).raiseConfigDefaulted := by
  rw [Part.endLoad, if_pos h, if_neg (by simp [bad])]

end

/-- Settles O3: the settings are those of the record's own bytes (`configBytes_eq`). -/
theorem loadEndTakesAUsableRecord : Obligations.LoadEndTakesAUsableRecord := by
  intro s record h length usable
  refine next_withPart s ?_
  rw [configBytes_eq record length, Part.endLoad_usable h usable, Part.takeSettings, loadedSettings, if_pos usable,
    if_pos usable]
  rfl

/-- CONFIG_DEFAULTED on an empty fault list: one ENDED record and its two FAULT reports (R179). -/
theorem Part.raiseConfigDefaulted_empty {p : Part} (list : p.faults.list = []) (marks : p.faults.marks = [])
    (room : p.pnl.reports.length ≤ 30) :
    let r : FaultRecord := ⟨⟨.configDefaulted, .none⟩, none, false, p.tau.sc.toNat / 48, 1⟩
    p.raiseConfigDefaulted = { p with
      faults := { p.faults with list := [r] }
      pnl := { p.pnl with reports := p.pnl.reports ++ [faultReport { r with active := true }, faultReport r] } } := by
  intro r
  have unmarked : FaultKey.plain .configDefaulted ∉ p.faults.marks := by simp [marks]
  have raised := raiseRecord_creates (p.tau.sc.toNat / 48) (key := FaultKey.plain .configDefaulted) none false
    (list := p.faults.list) (by simp [list]) (by simp [list])
  have ended := endRecord_ends (key := FaultKey.plain .configDefaulted) (only := none)
    (r := ⟨FaultKey.plain .configDefaulted, none, true, p.tau.sc.toNat / 48, 1⟩)
    (list := [⟨FaultKey.plain .configDefaulted, none, true, p.tau.sc.toNat / 48, 1⟩])
    (List.nodup_singleton _) (List.mem_singleton.mpr rfl) rfl rfl (.inl rfl)
  rw [Part.raiseConfigDefaulted, Part.raiseFault_eq unmarked, raised, Part.endFault_eq (by simp)]
  simp only [Part.withList, list, List.nil_append]
  rw [ended]
  simp [Pnl.emitAll, marks, FaultKey.plain, Pnl.emit_room, show p.pnl.reports.length < 32 by omega,
    show p.pnl.reports.length + 1 < 32 by omega, r]

/-- Settles O5: the defaults, and `Part.raiseConfigDefaulted_empty`. -/
theorem loadEndDefaultsABadRecord : Obligations.LoadEndDefaultsABadRecord := by
  intro s record h length bad list marks room r
  refine ⟨_, rfl, ?_⟩
  rw [configBytes_eq record length, Part.endLoad_defaulted h bad, Part.raiseConfigDefaulted_empty (by exact list)
    (by exact marks) (by exact room)]
  refine ⟨rfl, ?_⟩
  simp only [Part.takeSettings, loadedSettings, bad, readCommand, Bool.false_eq_true, if_false, r]

/-! ## The settings of a record (R201, R207) -/

/-- The bytes from an offset on, one by one. -/
theorem bytesAt_succ {off : Nat} (n : Nat) {bs : List Byte} (h : off < bs.length) :
    bytesAt off (n + 1) bs = byteAt off bs :: bytesAt (off + 1) n bs := by
  rw [bytesAt, List.drop_eq_getElem_cons h, List.take_succ_cons, byteAt, List.getD_eq_getElem _ _ h]
  rfl

theorem numAt_two {off : Nat} {bs : List Byte} (h : off + 1 < bs.length) :
    numAt off 2 bs = (byteAt off bs).toNat * 256 + (byteAt (off + 1) bs).toNat := by
  rw [numAt, bytesAt_succ 1 (by omega), bytesAt_succ 0 h]
  simp [bytesAt, beNat]

theorem numAt_three {off : Nat} {bs : List Byte} (h : off + 2 < bs.length) :
    numAt off 3 bs = (byteAt off bs).toNat * 65536 + numAt (off + 1) 2 bs := by
  rw [numAt_two (by omega), numAt, bytesAt_succ 2 (by omega), bytesAt_succ 1 (by omega), bytesAt_succ 0 h]
  simp only [bytesAt, beNat, List.take_zero, List.foldl_cons, List.foldl_nil, Nat.add_assoc, Nat.reduceAdd]
  omega

theorem beNat_lt (bs : List Byte) : beNat bs < 256 ^ bs.length := by
  induction bs using List.reverseRecOn with
  | nil => simp [beNat]
  | append_singleton bs b ih =>
    have := b.isLt
    have last : beNat (bs ++ [b]) = beNat bs * 256 + b.toNat := by rw [beNat, List.foldl_append]; rfl
    rw [last, List.length_append, List.length_singleton, Nat.pow_succ]
    omega

theorem numAt_lt (off n : Nat) (bs : List Byte) : numAt off n bs < 256 ^ n :=
  (beNat_lt _).trans_le (Nat.pow_le_pow_right (by decide) (by simp [bytesAt]))

theorem clampNat_le (lo hi x : Nat) (h : lo ≤ hi) : lo ≤ clampNat lo hi x ∧ clampNat lo hi x ≤ hi := by
  unfold clampNat
  omega

theorem enumField_mem {set : List Nat} {v default : Nat} (h : default ∈ set) : enumField set v default ∈ set := by
  unfold enumField
  split
  · next held => simpa using held
  · exact h

theorem switchField_eq (b : Byte) (default : Bool) :
    switchField b default = decide (b.toNat = 1 ∨ b.toNat ≠ 0 ∧ default = true) := by
  have zero : b = 0x00 ↔ b.toNat = 0 := BitVec.toNat_inj.symm
  have one : b = 0x01 ↔ b.toNat = 1 := BitVec.toNat_inj.symm
  unfold switchField
  by_cases h0 : b.toNat = 0
  · simp [zero.mpr h0]
  · rw [if_neg (mt zero.mp h0)]
    by_cases h1 : b.toNat = 1
    · simp [one.mpr h1]
    · rw [if_neg (mt one.mp h1)]
      simp [h0, h1]

theorem wordField_w24 (b : Byte) : wordField b .w24 = if b.toNat = 20 then .w20 else if b.toNat = 16 then .w16 else .w24 := by
  unfold wordField
  have e24 : b = 0x18 ↔ b.toNat = 24 := BitVec.toNat_inj.symm
  have e20 : b = 0x14 ↔ b.toNat = 20 := BitVec.toNat_inj.symm
  have e16 : b = 0x10 ↔ b.toNat = 16 := BitVec.toNat_inj.symm
  simp only [e24, e20, e16]
  split_ifs <;> grind

theorem slotRoleOfCode_getD (b : Byte) (d : SlotRole) :
    (slotRoleOfCode b).getD d = if b.toNat = 0 then .none else if b.toNat = 1 then .comm
      else if b.toNat = 2 then .crowd else if b.toNat = 3 then .aux else d := by
  have e0 : b = 0x00 ↔ b.toNat = 0 := BitVec.toNat_inj.symm
  have e1 : b = 0x01 ↔ b.toNat = 1 := BitVec.toNat_inj.symm
  have e2 : b = 0x02 ↔ b.toNat = 2 := BitVec.toNat_inj.symm
  have e3 : b = 0x03 ↔ b.toNat = 3 := BitVec.toNat_inj.symm
  simp only [slotRoleOfCode, e0, e1, e2, e3]
  split_ifs <;> rfl

theorem readSettings_ranges (role : Role) (record : List Byte) :
    let t := readSettings role record
    t.laneCount ≤ 8 ∧ (∀ k : ProgLane, t.laneCount ≤ k.val → t.roles[k] = .none) ∧
      (t.span = 1 ∨ t.span = 2 ∨ t.span = 4) ∧
      96 ≤ t.hmin ∧ t.hmin ≤ t.hmax ∧ t.hmax ≤ 48000 ∧ t.guardTime ≤ 4800 ∧
      (t.slipRate = 100 ∨ t.slipRate = 250 ∨ t.slipRate = 500 ∨ t.slipRate = 1000) ∧
      1 ≤ t.silenceThreshold ∧ t.silenceThreshold ≤ 8388607 ∧ 100 ≤ t.silenceTime ∧ t.silenceTime ≤ 30000 ∧
      t.duckGain ≤ 65535 := by
  intro t
  obtain ⟨hminLow, hminHigh⟩ := clampNat_le 96 48000 (numAt 10 2 record) (by decide)
  obtain ⟨hmaxLow, hmaxHigh⟩ := clampNat_le _ 48000 (numAt 12 2 record) hminHigh
  obtain ⟨thresholdLow, thresholdHigh⟩ := clampNat_le 1 8388607 (numAt 18 3 record) (by decide)
  obtain ⟨timeLow, timeHigh⟩ := clampNat_le 100 30000 (numAt 21 2 record) (by decide)
  have span : t.span ∈ [1, 2, 4] := enumField_mem (by simp [defaultSettings])
  have rate : t.slipRate ∈ [100, 250, 500, 1000] := enumField_mem (by simp [defaultSettings])
  have duck := numAt_lt 23 2 record
  refine ⟨(clampNat_le 0 8 _ (by decide)).2, fun k hk => ?_, by simpa using span, hminLow, hmaxLow, hmaxHigh,
    (clampNat_le 0 4800 _ (by decide)).2, by simpa using rate, thresholdLow, thresholdHigh, timeLow, timeHigh,
    Nat.le_of_lt_succ duck⟩
  have := Nat.not_lt.mpr hk
  simp only [t, readSettings] at this ⊢
  simp [this]

theorem enumField_eq (v default : Nat) (set : List Nat) : enumField set v default = if v ∈ set then v else default := by
  simp [enumField]

theorem defaultRoles_get (role : Role) (k : ProgLane) : (defaultSettings role).roles[k] =
    if role = .venue ∧ k.val = 0 then .comm else if role = .venue ∧ k.val = 1 then .crowd else .none := by
  cases role <;> decide +revert

/-- Settles O4: the ranges, and each setting from the bytes of its address. -/
theorem loadedSettingsStayInRange : Obligations.LoadedSettingsStayInRange := by
  refine ⟨readSettings_ranges, fun role record length => ?_⟩
  intro t b w
  have word (i : Nat) (h : i + 1 < 62) : numAt i 2 record = w i := numAt_two (length ▸ h)
  have threshold : numAt 18 3 record = b 18 * 65536 + w 19 := by
    rw [numAt_three (by omega), word 19 (by decide)]
    rfl
  refine ⟨?_, fun k hk => ?_, ?_, ?_, ?_, ?_, ?_, ?_, ?_, word 23 (by decide), fun o => ⟨?_, ?_, ?_, ?_⟩, ?_⟩
  · simp [t, b, readSettings, clampNat, byteAt, Nat.min_comm]
  · simp only [t, readSettings] at hk ⊢
    simp only [Fin.getElem_fin, Vector.getElem_ofFn, hk, if_true, slotRoleOfCode_getD]
    have default := defaultRoles_get role k
    simp only [Fin.getElem_fin] at default
    rw [default]
    rfl
  · simp only [t, readSettings, enumField_eq]
    simp [b, byteAt, defaultSettings]
  · simp only [t, readSettings, clampNat, word 10 (by decide)]
  · simp only [t, readSettings, clampNat, word 12 (by decide)]
  · simp only [t, readSettings, clampNat, word 14 (by decide)]
    omega
  · simp only [t, readSettings, enumField_eq, word 16 (by decide)]
    simp [defaultSettings]
  · simp only [t, readSettings, clampNat, threshold]
  · simp only [t, readSettings, clampNat, word 21 (by decide)]
  · simp [t, readSettings, outputField, defaultSettings, defaultOutput, wordField_w24, b, byteAt]
  · simp [t, readSettings, outputField, defaultSettings, defaultOutput, switchField_eq, b, byteAt, Nat.add_right_comm]
  · simp [t, readSettings, outputField, defaultSettings, defaultOutput, switchField_eq, b, byteAt, Nat.add_right_comm]
    omega
  · simp [t, readSettings, outputField, defaultSettings, defaultOutput, switchField_eq, b, byteAt, Nat.add_right_comm]
  · simp [t, readSettings, defaultSettings, switchField_eq, b, byteAt]

end Sys2Proof.Machine

/-! # Frames on the panel line (R185 to R187). -/

namespace Sys2Proof.Machine

/-! ## A complete frame -/

/-- What a complete frame does, it does on the part with the frame taken. -/
theorem Part.actMessage_congr {p q : Part} (h : p.framed = q.framed) (type : Byte) (payload : List Byte) :
    p.actMessage type payload = q.actMessage type payload := by
  have same (act : Part → Part) : p.message act = q.message act := congrArg (fun r => (act r).emptySelection) h
  have sameSelect (act : Part → Part) : p.messageSelect act = q.messageSelect act := congrArg act h
  simp only [Part.actMessage, same, sameSelect]

theorem Part.takeFrame_congr {p q : Part} (h : p.framed = q.framed) (type length : Byte) (payload : List Byte)
    (check : Byte) : p.takeFrame type length payload check = q.takeFrame type length payload check := by
  unfold Part.takeFrame
  split
  · next reason _ => exact congrArg (fun r : Part => r.refuse reason type) h
  · exact Part.actMessage_congr h type payload

theorem Part.takeFrame_refused {p : Part} {type length check : Byte} {payload : List Byte} {reason : RefusalReason}
    (h : frameRefusal type length payload check = some reason) :
    p.takeFrame type length payload check =
      { p with pnl := p.pnl.afterFrame.emit (refusedReport reason type) } := by
  rw [Part.takeFrame, h]
  rfl

theorem Part.takeFrame_acts {p : Part} {type length check : Byte} {payload : List Byte}
    (h : frameRefusal type length payload check = none) :
    p.takeFrame type length payload check = p.actMessage type payload := by
  rw [Part.takeFrame, h]

/-- The lengths of R205 by type. -/
theorem messageLength_eq (type : Byte) : messageLength type =
    if 1 ≤ type.toNat ∧ type.toNat ≤ 14 then some ([0, 3, 4, 2, 1, 1, 4, 0, 1, 0, 1, 1, 2, 0, 0].getD type.toNat 0)
    else none := by
  decide +revert

/-- Settles O19: tests 1 to 3 of R187 in their order. -/
theorem unknownMessagesAreRefused : Obligations.UnknownMessagesAreRefused := by
  intro s type check payload reason short sum lengths h
  refine next_withPart s (Part.takeFrame_refused ?_)
  have length : (BitVec.ofNat 8 payload.length).toNat = payload.length := by
    rw [BitVec.toNat_ofNat]
    omega
  rw [frameRefusal, messageLength_eq, length]
  rcases h with ⟨bad, rfl⟩ | ⟨good, unknown, rfl⟩ | ⟨good, low, high, other, rfl⟩
  · exact if_pos bad
  · rw [if_neg (not_not.mpr good), if_neg (by omega)]
  · rw [if_neg (not_not.mpr good), if_pos ⟨low, high⟩]
    exact if_neg other

/-! ## The framer (R186) -/

section
variable {p : Part} (b : Byte)

theorem Part.takePanelByte_waitType (h : p.pnl.framer = .waitType) (clear : p.pnl.discard = false) :
    p.takePanelByte true b = { p with pnl := { p.pnl with framer := .waitLength, msgType := b, idle := 0 } } := by
  simp [Part.takePanelByte, h, clear]

theorem Part.takePanelByte_dropped (h : p.pnl.framer = .waitType) (mark : p.pnl.discard = true) (stop : Bool) :
    p.takePanelByte stop b = { p with pnl := { p.pnl with idle := 0 } } := by
  simp only [Part.takePanelByte, h, mark, Part.frame, if_true]

theorem Part.takePanelByte_waitLength (h : p.pnl.framer = .waitLength) :
    p.takePanelByte true b = p.takeLength b := by
  simp [Part.takePanelByte, h]

theorem Part.takePanelByte_payload (h : p.pnl.framer = .payload) : p.takePanelByte true b = p.takePayload b := by
  simp [Part.takePanelByte, h]

theorem Part.takePanelByte_waitCheck (h : p.pnl.framer = .waitCheck) :
    p.takePanelByte true b = p.takeFrame p.pnl.msgType p.pnl.msgLength p.pnl.msgPayload b := by
  simp [Part.takePanelByte, h]

/-- A low stop bit refuses the message in progress. -/
theorem Part.takePanelByte_broken (h : p.pnl.framer ≠ .waitType) :
    p.takePanelByte false b = p.refuseByte p.pnl.msgType := by
  cases e : p.pnl.framer <;> simp_all [Part.takePanelByte]

theorem Part.takePanelByte_broken_waitType (h : p.pnl.framer = .waitType) (clear : p.pnl.discard = false) :
    p.takePanelByte false b = p.refuseByte 0 := by
  simp [Part.takePanelByte, h, clear]

end

/-- Settles O20: the table of R186, by the framer's state. -/
theorem panelBytesMoveTheFramer : Obligations.PanelBytesMoveTheFramer := by
  intro s b stop q t bad
  have broken (h : q.framer ≠ .waitType) : exec (.panelFramingError false b) s = .next (t (bad q.msgType)) :=
    next_withPart s (Part.takePanelByte_broken b h)
  refine ⟨fun h mark => ⟨?_, ?_⟩, fun h clear => ⟨?_, ?_⟩, fun h => ⟨fun low => ?_, fun high => ⟨?_, ?_⟩, ?_⟩,
    fun h => ⟨?_, ?_⟩, fun h => ?_, ?_⟩
  · exact next_withPart s (Part.takePanelByte_dropped b h mark true)
  · exact next_withPart s (Part.takePanelByte_dropped b h mark stop)
  · exact next_withPart s (Part.takePanelByte_waitType b h clear)
  · exact next_withPart s (Part.takePanelByte_broken_waitType b h clear)
  · exact next_withPart s ((Part.takePanelByte_waitLength b h).trans (if_neg (Nat.not_lt.mpr low)))
  · exact next_withPart s ((Part.takePanelByte_waitLength b h).trans (if_pos high))
  · exact next_withPart s ((Part.takePanelByte_waitLength b h).trans (if_pos high))
  · exact broken (by simp [h])
  · refine next_withPart s ((Part.takePanelByte_payload b h).trans ?_)
    simp only [Part.takePayload, List.length_append, List.length_singleton]
    rfl
  · exact broken (by simp [h])
  · exact broken (by simp [h])
  · refine next_withPart s ?_
    by_cases h : q.framer = .waitType
    · rw [Part.idleReset, if_pos h, if_pos h]
      simp only [← h]
      rfl
    · rw [Part.idleReset, if_neg h, if_neg h]
      rfl

/-! ## A message byte by byte (R185) -/

/-- The Panel Line with a frame of type and length received up to some payload bytes. -/
def Pnl.receiving (type length : Byte) (payload : List Byte) (q : Pnl) : Pnl :=
  { q with
    framer := if length.toNat ≤ payload.length then .waitCheck else .payload
    msgType := type, msgLength := length, msgPayload := payload, idle := 0 }

/-- A byte of the payload joins it. -/
theorem Part.takePanelByte_receiving (p : Part) (q : Pnl) (type length b : Byte) (payload : List Byte)
    (more : payload.length < length.toNat) :
    ({ p with pnl := q.receiving type length payload } : Part).takePanelByte true b =
      { p with pnl := q.receiving type length (payload ++ [b]) } := by
  rw [Part.takePanelByte_payload b (by exact if_neg (Nat.not_le.mpr more))]
  rfl

/-- A type and a length begin a frame. -/
theorem Part.takePanelByte_begins {p : Part} (h : p.pnl.framer = .waitType) (clear : p.pnl.discard = false)
    (type length : Byte) (short : length.toNat ≤ 32) :
    (p.takePanelByte true type).takePanelByte true length = { p with pnl := p.pnl.receiving type length [] } := by
  have zero : length = 0 ↔ length.toNat ≤ 0 := by
    rw [← BitVec.toNat_inj]
    exact Nat.le_zero.symm
  rw [Part.takePanelByte_waitType type h clear, Part.takePanelByte_waitLength length rfl, Part.takeLength,
    if_neg (Nat.not_lt.mpr short)]
  simp only [zero]
  rfl

/-- A check byte completes the frame. -/
theorem Part.takePanelByte_completes (p : Part) (type length check : Byte) (payload : List Byte)
    (whole : length.toNat ≤ payload.length) :
    ({ p with pnl := p.pnl.receiving type length payload } : Part).takePanelByte true check =
      Part.takeFrame type length payload check
        { p with pnl := { p.pnl with msgType := type, msgLength := length } } := by
  rw [Part.takePanelByte_waitCheck check (by exact if_pos whole)]
  exact Part.takeFrame_congr rfl type length payload check

/-- A byte at the front of the queue. -/
theorem run_panelByte (k : Nat) (p : Part) (b : Byte) (rest : List Instr) :
    core.run (k + 1) { pending := .panelByte b :: rest, part := p } =
      core.run k { pending := rest, part := p.takePanelByte true b } := rfl

/-- The bytes of a payload, one after another. -/
theorem run_payload (k : Nat) (p : Part) (q : Pnl) (type length : Byte) (rest : List Instr)
    (ys xs : List Byte) (whole : xs.length + ys.length = length.toNat) :
    core.run (ys.length + k)
        { pending := ys.map .panelByte ++ rest, part := { p with pnl := q.receiving type length xs } } =
      core.run k { pending := rest, part := { p with pnl := q.receiving type length (xs ++ ys) } } := by
  induction ys generalizing xs with
  | nil => rw [List.length_nil, Nat.zero_add, List.append_nil]; rfl
  | cons y ys ih =>
    rw [List.length_cons] at whole
    rw [List.length_cons, Nat.add_right_comm, List.map_cons, List.cons_append, run_panelByte,
      Part.takePanelByte_receiving _ _ _ _ _ _ (by omega), ih _ (by simp; omega), List.append_assoc,
      List.singleton_append]

/-- A frame of at most 32 payload bytes, byte by byte, is taken as a complete frame. -/
theorem run_frame (s : State) (h : s.part.pnl.framer = .waitType) (clear : s.part.pnl.discard = false)
    (type check : Byte) (payload : List Byte) (short : payload.length ≤ 32) :
    core.run (payload.length + 3)
        { s with pending := (type :: BitVec.ofNat 8 payload.length :: payload ++ [check]).map Instr.panelByte } =
      .next { s with
        pending := []
        part := Part.takeFrame type (BitVec.ofNat 8 payload.length) payload check
          { s.part with pnl := { s.part.pnl with
            msgType := type, msgLength := BitVec.ofNat 8 payload.length } } } := by
  have length : (BitVec.ofNat 8 payload.length).toNat = payload.length := by
    rw [BitVec.toNat_ofNat]
    omega
  rw [← Part.takePanelByte_completes s.part type _ check payload length.le, List.cons_append, List.cons_append,
    List.map_cons, List.map_cons, List.map_append]
  refine (run_panelByte (payload.length + 2) s.part type _).trans ?_
  refine (run_panelByte (payload.length + 1) _ _ _).trans ?_
  rw [Part.takePanelByte_begins h clear type _ (length.trans_le short),
    run_payload 1 s.part s.part.pnl type _ _ payload [] (by rw [length]; simp)]
  rfl

/-- Two bytes spell a word (R203). -/
theorem word_of_bytes (hi lo : Byte) : BitVec.ofNat 16 (hi.toNat * 256 + lo.toNat) = hi ++ lo := by
  have := hi.isLt
  have := lo.isLt
  apply BitVec.eq_of_toNat_eq
  rw [BitVec.toNat_ofNat, BitVec.toNat_append, ← Nat.shiftLeft_add_eq_or_of_lt lo.isLt, Nat.shiftLeft_eq]
  omega

theorem Part.actMessage_fader (g hi lo : Byte) (p : Part) :
    p.actMessage 0x01 [g, hi, lo] = p.message (Part.fader g (hi ++ lo)) := by
  have word : BitVec.ofNat 16 (numAt 1 2 [g, hi, lo]) = hi ++ lo := by
    rw [numAt_two (by simp), ← word_of_bytes]
    rfl
  rw [← word]
  rfl

theorem Part.actMessage_slope (g hi lo sh : Byte) (p : Part) :
    p.actMessage 0x02 [g, hi, lo, sh] = p.message (Part.slope g (hi ++ lo) sh) := by
  have word : BitVec.ofNat 16 (numAt 1 2 [g, hi, lo, sh]) = hi ++ lo := by
    rw [numAt_two (by simp), ← word_of_bytes]
    rfl
  rw [← word]
  rfl

theorem Part.actMessage_matrix (o g hi lo : Byte) (p : Part) :
    p.actMessage 0x06 [o, g, hi, lo] = p.message (Part.matrix o g (hi ++ lo)) := by
  have word : BitVec.ofNat 16 (numAt 2 2 [o, g, hi, lo]) = hi ++ lo := by
    rw [numAt_two (by simp), ← word_of_bytes]
    rfl
  rw [← word]
  rfl

/-- Settles O21: a frame by `run_frame`, and each type and payload as the row of its message. -/
theorem panelBytesSpellTheirMessage : Obligations.PanelBytesSpellTheirMessage := by
  refine ⟨fun s h clear => ⟨fun g hi lo check sum => ?_, fun type check payload short refused => ?_⟩,
    fun s h clear type check payload short good => ?_, fun s a b c d => ?_⟩
  · have good : frameRefusal 0x01 (BitVec.ofNat 8 3) [g, hi, lo] check = none := by
      rw [frameRefusal, if_neg (not_not.mpr (by exact sum))]
      rfl
    refine (run_frame s h clear 0x01 check [g, hi, lo] (by simp)).trans (next_withPart { s with pending := [] } ?_)
    exact (Part.takeFrame_acts good).trans (Part.actMessage_fader g hi lo _)
  · exact run_frame s h clear type check payload short
  · exact (run_frame s h clear type check payload short).trans
      (next_withPart { s with pending := [] } (Part.takeFrame_acts good))
  · refine ⟨?_, ?_, rfl, rfl, rfl, ?_, rfl, rfl, rfl, rfl, rfl, rfl, rfl, rfl, rfl, rfl, fun other => ?_⟩
    · exact next_withPart s (Part.actMessage_fader a b c s.part).symm
    · exact next_withPart s (Part.actMessage_slope a b c d s.part).symm
    · exact next_withPart s (Part.actMessage_matrix a b c d s.part).symm
    · refine next_withPart s (Part.message_refuse (act := Part.query a b) _ _ ?_)
      rw [Part.query, if_neg, if_neg, if_neg] <;> rintro rfl <;> simp at other

end Sys2Proof.Machine

/-! # The commands of a block tick: counts that reach their limit, and commands that are not due. -/

namespace Sys2Proof.Machine

/-! ## Commands that are not due -/

theorem Part.controlTurn_not_due {p : Part} (h : p.moment.controlDue = false) : p.controlTurn = p := by
  simp [Part.controlTurn, h]

theorem Part.startTurn_not_due {p : Part} (h : p.moment.pluDue = false) : p.startTurn = p := by
  simp [Part.startTurn, h]

theorem Part.agreementWork_not_due {p : Part} (h : p.moment.trimDue = false) (o : InstantOrder) :
    p.agreementWork o = p := by
  simp [Part.agreementWork, h]

theorem Part.tickWork_not_due {p : Part} (h : p.moment.tick = false) : p.tickWork = p := by
  simp [Part.tickWork, h]

/-- Settles O43: a job not due by `Part.expire_not_due`, a turn not due by its own guard. -/
theorem commandsNotDueChangeNothing : Obligations.CommandsNotDueChangeNothing := by
  intro s x k o r
  have notDue (j : TickJob) (outcome : Bool) (h : ¬s.part.moment.due j) :
      (.next (s.withPart (s.part.expire j outcome)) : Host.Outcome State Fault Refusal) = .next s :=
    next_withPart s (Part.expire_not_due j outcome s.part h)
  refine ⟨notDue _ _, notDue _ _, notDue _ _, notDue _ _, notDue _ _, notDue _ _, notDue _ _,
    fun h => ⟨notDue _ _ h, notDue _ _ h⟩, notDue _ _, notDue _ _, notDue _ _, notDue _ _,
    fun h => ⟨notDue _ _ h, notDue _ _ h, notDue _ _ h, notDue _ _ h, notDue _ _ h⟩, fun h => ?_, fun h => ?_,
    fun h => ⟨?_, ?_, ?_⟩, fun h => ?_, fun h => ?_, fun h => ?_⟩
  · exact next_withPart s (Part.tickWork_not_due h)
  · exact next_withPart s (Part.agreementWork_not_due h o)
  · exact next_withPart s (if_neg (by simp [Part.foundingDue, h]))
  · exact next_withPart s (if_neg (by simp [Part.emptyRunDue, h]))
  · exact next_withPart s (if_neg (by simp [Part.largeRunDue, h]))
  · exact next_withPart s (Part.startTurn_not_due h)
  · exact next_withPart s (Part.controlTurn_not_due h)
  · exact next_withPart s (if_neg h)

/-! ## Counts that reach their limit (R7, R15, R20, R44, R97) -/

/-- A job due, taken by the command of its outcome. -/
theorem next_expire {s : State} {j : TickJob} {outcome : Bool} {q : Part} (due : s.part.moment.due j)
    (falls : outcome = true) (work : Part.jobWork j { s.part with moment := s.part.moment.took j } = q) :
    (.next (s.withPart (s.part.expire j outcome)) : Host.Outcome State Fault Refusal) = .next (s.withPart q) :=
  next_withPart s ((Part.expire_due j outcome s.part due falls).trans work)

theorem Part.running_of {p : Part} (h : p.cap.station ≠ .loading) : p.running = true := bne_iff_ne.mpr h

theorem StationState.hands_of {x : StationState} (h : x ≠ .loading) (h' : x ≠ .conflict) : x.hands = true := by
  cases x <;> simp_all [StationState.hands]

theorem satAdd_full {limit a : Nat} (h : limit ≤ a + 1) : satAdd limit a 1 = limit := Nat.min_eq_right h

section
variable {p : Part} (h : p.cap.station ≠ .loading)
include h

theorem Part.txQuietTick_ends (active : FaultKey.plain .txOverrun ∈ p.faults.marks) (full : 999 ≤ p.liu.txQuiet) :
    p.txQuietTick = { p.endFault (FaultKey.plain .txOverrun) with liu := { p.liu with txQuiet := 1000 } } := by
  have on : p.faults.isActive (FaultKey.plain .txOverrun) = true := List.contains_iff_mem.mpr active
  rw [Part.txQuietTick, if_pos ⟨Part.running_of h, on⟩, satAdd_full (by omega), if_pos (by omega)]
  rfl

theorem Part.cleanTick_ends (full : p.liu.cleanBlocks = 999) :
    p.cleanTick = { p.endFault (FaultKey.plain .linkErrors) with liu := { p.liu with cleanBlocks := 1000 } } := by
  rw [Part.cleanTick, if_pos ⟨Part.running_of h, by omega⟩, full, if_pos rfl]
  rfl

theorem Part.storeQuietTick_ends (active : FaultKey.plain .storeFull ∈ p.faults.marks) (full : 999 ≤ p.ast.quiet) :
    p.storeQuietTick = { p.endFault (FaultKey.plain .storeFull) with ast := { p.ast with quiet := 1000 } } := by
  have on : p.faults.isActive (FaultKey.plain .storeFull) = true := List.contains_iff_mem.mpr active
  rw [Part.storeQuietTick, if_pos ⟨Part.running_of h, on⟩, satAdd_full (by omega), if_pos (by omega)]
  rfl

theorem Part.winTick_ends (won : p.faults.conflict = some .won) (full : 4999 ≤ p.ptb.winCount) :
    p.winTick = { p.endConflictWon with ptb := { p.ptb with winCount := 5000 } } := by
  rw [Part.winTick, if_pos ⟨Part.running_of h, won⟩, satAdd_full (by omega), if_pos (by omega)]
  rfl

theorem Part.echoTick_expires (outside : p.cap.station ≠ .conflict) (full : p.liu.echoLostCount = 499) :
    p.echoTick = { p.raiseFault (FaultKey.plain .echoLost) with
      liu := { p.liu with echoDelay := none, echoCount := 0, echoLostCount := 500 } } := by
  rw [Part.echoTick, if_pos (StationState.hands_of h outside), full, if_pos rfl]
  rfl

end

/-- Settles O30: each count one short of its limit. -/
theorem quietCountsEndTheirFaults : Obligations.QuietCountsEndTheirFaults := by
  intro s h
  have running := Part.running_of h
  refine ⟨fun due active full => ?_, fun due full => ?_, fun due active full => ?_, fun due won full => ?_,
    fun due outside full => ?_⟩
  · have on : s.part.faults.isActive (FaultKey.plain .txOverrun) = true := List.contains_iff_mem.mpr active
    exact next_expire due (by simp [Part.txQuietEnds, running, on, full]) (Part.txQuietTick_ends (by exact h) active full)
  · exact next_expire due (by simp [Part.cleanEnds, running, full]) (Part.cleanTick_ends (by exact h) full)
  · have on : s.part.faults.isActive (FaultKey.plain .storeFull) = true := List.contains_iff_mem.mpr active
    exact next_expire due (by simp [Part.storeQuietEnds, running, on, full])
      (Part.storeQuietTick_ends (by exact h) active full)
  · exact next_expire due (by simp [Part.winEnds, running, won, full]) (Part.winTick_ends (by exact h) won full)
  · exact next_expire due (by simp [Part.echoExpires, StationState.hands_of h outside, full])
      (Part.echoTick_expires (by exact h) outside full)

/-! ## NOTICE_DUE, and what joins the queue (R6, R7, R11) -/

theorem noticePeriod_eq (m : ClockMode) :
    noticePeriod m = if m = .tracking ∨ m = .holdover then 100 else 20 := by
  cases m <;> rfl

theorem not_notice_eq (x : Parcel) : (x.kind != .notice) = !decide (x.kind = .notice) := by
  cases x.kind <;> rfl

theorem notice_eq (x : Parcel) : (x.kind == .notice) = decide (x.kind = .notice) := by
  cases x.kind <;> rfl

theorem placeNotice_eq (x : Parcel) (q : List Parcel) : placeNotice x q =
    (q.takeWhile fun x => decide (x.kind = .notice)) ++ [x] ++ q.dropWhile fun x => decide (x.kind = .notice) := by
  simp only [placeNotice, notice_eq]

theorem any_not_notice (q : List Parcel) :
    q.any (fun x => x.kind != .notice) = !q.all fun x => decide (x.kind = .notice) := by
  rw [List.all_eq_not_any_not, Bool.not_not]
  simp only [not_notice_eq]

/-- Room made in a full queue for a NOTICE (R7). -/
theorem placeFull_notice {x : Parcel} (hx : x.kind = .notice) (q : List Parcel) :
    placeFull x q = placeNotice x (if q.all fun x => decide (x.kind = .notice) then q.drop 1
      else q.eraseP fun x => !decide (x.kind = .notice)) := by
  rw [placeFull, any_not_notice]
  simp only [placeParcel, hx, if_true, not_notice_eq]
  cases q.all fun x => decide (x.kind = .notice) <;> rfl

/-- Room made in a full queue for an AUDIO or TALK (R7). -/
theorem placeFull_other {x : Parcel} (hx : x.kind ≠ .notice) (q : List Parcel) :
    placeFull x q = if ∀ y ∈ q, y.kind = .notice then q else (q.eraseP fun y => decide (y.kind ≠ .notice)) ++ [x] := by
  have all : (q.all fun x => decide (x.kind = .notice)) = true ↔ ∀ y ∈ q, y.kind = .notice := by simp
  rw [placeFull, any_not_notice]
  simp only [placeParcel, if_neg hx, not_notice_eq, ← all, ← decide_not]
  cases q.all fun x => decide (x.kind = .notice) <;> rfl

section
variable {p : Part} (hands : p.cap.station.hands = true) (falls : noticePeriod p.tau.mode ≤ p.liu.noticeCount + 1)
include hands falls

theorem Part.noticeTick_falls :
    p.noticeTick = ({ p with liu := { p.liu with noticeCount := 0 } } : Part).enqueue waitingNotice := by
  rw [Part.noticeTick, if_pos hands, if_pos falls]

theorem Part.noticeTick_room (room : p.liu.queue.length < 8) :
    p.noticeTick = { p with
      liu := { p.liu with noticeCount := 0, queue := placeNotice waitingNotice p.liu.queue } } :=
  (Part.noticeTick_falls hands falls).trans (Part.enqueue_room _ _ room)

theorem Part.noticeTick_full (full : 8 ≤ p.liu.queue.length) :
    p.noticeTick = ({ p with
      liu := { p.liu with
        noticeCount := 0
        queue := placeFull waitingNotice p.liu.queue
        txDropped := satAdd max32 p.liu.txDropped 1
        txQuiet := 0 }
      moment := p.moment.took .txQuiet } : Part).raiseFault (FaultKey.plain .txOverrun) :=
  (Part.noticeTick_falls hands falls).trans (Part.enqueue_full _ _ full)

end

/-- Settles O29: the NOTICE created at the tick, and every parcel created, by the room in the queue. -/
theorem noticeDueQueuesANotice : Obligations.NoticeDueQueuesANotice := by
  refine ⟨fun s due outside full => ?_, fun p x hx => ⟨fun room => ?_, fun full => ?_⟩⟩
  · intro isNotice placed
    have hands : s.part.cap.station.hands = true := by rcases outside with h | h <;> rw [h] <;> rfl
    rw [← noticePeriod_eq] at full
    have falls : s.part.noticeFalls = true := by simp [Part.noticeFalls, hands, full]
    refine ⟨fun room => next_expire due falls ?_, fun packed => next_expire due falls ?_⟩
    · refine (Part.noticeTick_room (by exact hands) (by exact full) (by exact room)).trans ?_
      rw [placeNotice_eq]
    · refine (Part.noticeTick_full (by exact hands) (by exact full) (by exact packed)).trans ?_
      rw [placeFull_notice rfl, placeNotice_eq]
      rfl
  · rw [p.enqueue_room x room, placeParcel, if_neg hx]
  · rw [p.enqueue_full x full, placeFull_other hx]
    rfl

end Sys2Proof.Machine

/-! # The expiries of the Peer Table and the timers of a block tick (R28 to R31, R36, R42, R58). -/

namespace Sys2Proof.Machine

/-! ## What only reports -/

/-- A part after an event that changes the fault list and queues reports, and nothing else. -/
structure Part.OnlyReports (p q : Part) : Prop where
  sul : q.sul = p.sul
  settings : q.settings = p.settings
  liu : q.liu = p.liu
  ptb : q.ptb = p.ptb
  tau : q.tau = p.tau
  cap : q.cap = p.cap
  ast : q.ast = p.ast
  plu : q.plu = p.plu
  mxe : q.mxe = p.mxe
  imn : q.imn = p.imn
  pnl : q.pnl = p.pnl.withReports q.pnl
  moment : q.moment = p.moment

namespace Part.OnlyReports

theorem of_eq {p q : Part} {f : Faults} {r : Pnl} (h : q = { p with faults := f, pnl := p.pnl.withReports r }) :
    p.OnlyReports q := by
  subst h
  exact ⟨rfl, rfl, rfl, rfl, rfl, rfl, rfl, rfl, rfl, rfl, rfl, rfl⟩

theorem eq {p q : Part} (h : p.OnlyReports q) : q = { p with faults := q.faults, pnl := p.pnl.withReports q.pnl } :=
  Part.eq_of_fields h.sul h.settings h.liu h.ptb h.tau h.cap h.ast h.plu h.mxe h.imn rfl h.pnl h.moment

theorem refl (p : Part) : p.OnlyReports p := of_eq rfl

theorem trans {p q r : Part} (h : p.OnlyReports q) (h' : q.OnlyReports r) : p.OnlyReports r :=
  ⟨h'.sul.trans h.sul, h'.settings.trans h.settings, h'.liu.trans h.liu, h'.ptb.trans h.ptb, h'.tau.trans h.tau,
    h'.cap.trans h.cap, h'.ast.trans h.ast, h'.plu.trans h.plu, h'.mxe.trans h.mxe, h'.imn.trans h.imn,
    h'.pnl.trans (by rw [h.pnl]; rfl), h'.moment.trans h.moment⟩

theorem emit (r : Report) (p : Part) : p.OnlyReports (p.emit r) :=
  of_eq (by rw [Part.emit, ← Pnl.emit_frame])

theorem emitPeer (s : Station) (p : Part) : p.OnlyReports (p.emitPeer s) := emit _ p

theorem raiseFault (key : FaultKey) (p : Part) : p.OnlyReports (p.raiseFault key) := of_eq (p.raiseFault_frame key)

theorem endFault (key : FaultKey) (p : Part) : p.OnlyReports (p.endFault key) := of_eq (p.endFault_frame key)

theorem endFaults (keys : List FaultKey) (p : Part) : p.OnlyReports (p.endFaults keys) := of_eq (p.endFaults_frame keys)

/-- A PEER report reads neither the fault list nor the report queue. -/
theorem peerReport {p q : Part} (h : p.OnlyReports q) (s : Station) : peerReport q s = peerReport p s := by
  rw [h.eq]
  rfl

end Part.OnlyReports

/-! ## What a raise and an end read -/

theorem Part.endFaults_faults_congr {p q : Part} (h : p.faults = q.faults) (keys : List FaultKey) :
    (p.endFaults keys).faults = (q.endFaults keys).faults := by
  induction keys generalizing p q with
  | nil => exact h
  | cons k ks ih =>
    refine ih (p := p.endFault k) (q := q.endFault k) ?_
    simp only [Part.endFault, Part.withList, h]

theorem Part.endFaults_pnl_congr {p q : Part} (h : p.faults = q.faults) (hp : p.pnl = q.pnl) (keys : List FaultKey) :
    (p.endFaults keys).pnl = (q.endFaults keys).pnl := by
  induction keys generalizing p q with
  | nil => exact hp
  | cons k ks ih =>
    refine ih (p := p.endFault k) (q := q.endFault k) ?_ ?_
    · simp only [Part.endFault, Part.withList, h]
    · simp only [Part.endFault, Part.withList, h, hp]

/-! ## Removal (R31) -/

section
variable (p : Part) (x : Station)

/-- A removal clears what the blocks hold of the station, and then only reports. -/
theorem Part.removePeer_reports : (p.clearStation x).OnlyReports (p.removePeer x) :=
  (Part.OnlyReports.emitPeer x _).trans (Part.OnlyReports.endFaults _ _)

theorem Part.clearStation_peer (y : Station) :
    (p.clearStation x).peer y = if y = x then PeerRecord.cleared else p.peer y := by
  by_cases h : y = x
  · subst h
    simp [Part.clearStation, Part.clearDigest, Part.mapDigest, Part.peer]
  · have : x.val ≠ y.val := fun e => h (Fin.ext e.symm)
    simp [Part.clearStation, Part.clearDigest, Part.mapDigest, Part.peer, h, this]

theorem Part.clearStation_others {y : Station} (h : y ≠ x) :
    (p.clearStation x).plu.lanes[y] = p.plu.lanes[y] ∧ (p.clearStation x).mxe.switches[y] = p.mxe.switches[y] ∧
      (p.clearStation x).imn[y] = p.imn[y] := by
  have : x.val ≠ y.val := fun e => h (Fin.ext e.symm)
  simp [Part.clearStation, Part.clearDigest, Part.mapDigest, vmodify, this]

theorem Part.clearStation_rest :
    (∀ k : LaneNo, (p.clearStation x).plu.lane x k = LaneRecord.reset) ∧
      (∀ k : ProgLane, (p.clearStation x).mxe.switches[x][k] = ⟨.onPrimary, none, 0⟩) := by
  refine ⟨fun k => ?_, fun k => ?_⟩
  · simp [Part.clearStation, Part.clearDigest, Part.mapDigest, Plu.lane]
  · simp [Part.clearStation, Part.clearDigest, Part.mapDigest, FallbackSwitch.reset]

/-- The digest record of a removed station: no entry while playout is stopped, a fresh one for each window in range
while it is started (R176). -/
theorem Part.clearStation_digest : (p.clearStation x).imn[x] =
    { mismatchRun := 0, suspect := false, outcome := none
      entries := match p.plu.position with
        | none => []
        | some pos =>
          (List.range (if (blockOf pos).toNat % 64 = 0 then 16 else 17)).map fun i =>
            { window := ((blockOf pos).toNat / 64 + i) % 67108864, expected := none, sum := 0
              fills := 0, spoiled := false } } := by
  have cleared : (p.clearStation x).imn[x] = { DigestRecord.reset with
      entries := match p.playBlock with | some pb => freshEntries pb | none => [] } := vmodify_get_self ..
  rw [cleared, Part.playBlock]
  cases p.plu.position with
  | none => rfl
  | some pos => simp [DigestRecord.reset, freshEntries, windowsFrom, windowOf, WindowEntry.fresh]

theorem Ast.releasePeer_buffers (a : Ast) : (a.releasePeer x).buffers = a.buffers.filter fun b => b.peer ≠ x := by
  refine List.filter_congr fun b _ => ?_
  by_cases h : b.peer = x <;> simp [h]

theorem Ast.release_total (a : Ast) (gone : Buffer → Bool) :
    (a.release gone).free + (a.release gone).buffers.length = a.free + a.buffers.length := by
  have := List.length_eq_length_filter_add (l := a.buffers) gone
  simp only [Ast.release]
  omega

theorem Part.removePeer_marks : (p.removePeer x).faults.marks = p.faults.marks.filter fun m =>
    !decide (m ∈ ⟨.peerLapsed, .station x⟩ :: ⟨.digestSuspect, .station x⟩ ::
      allProgLanes.map fun k => (⟨.laneLoss, .lane x k⟩ : FaultKey)) := by
  refine (Part.endFaults_marks _ _).trans (List.filter_congr fun m _ => congrArg (! ·) (Bool.eq_iff_iff.mpr ?_))
  have lanes : laneLossKey x = fun k => (⟨.laneLoss, .lane x k⟩ : FaultKey) := rfl
  simp only [removalFaults, lanes, peerLapsedKey, digestSuspectKey, List.contains_iff_mem, List.mem_append,
    List.mem_cons, List.not_mem_nil, or_false, decide_eq_true_eq]
  tauto

end

theorem Part.joinTick_expires {p : Part} {x : Station} (h : p.cap.station ≠ .loading)
    (joining : (p.peer x).state = .joining) (full : 999 ≤ (p.peer x).joinCount) : p.joinTick x = p.removePeer x := by
  rw [Part.joinTick, if_pos (by simp [Part.running_of h, joining]), if_pos (by omega)]

theorem Part.quietTick_expires {p : Part} {x : Station} (h : p.cap.station ≠ .loading)
    (lapsed : (p.peer x).state = .lapsed) (full : 5199 ≤ (p.peer x).quietCount) : p.quietTick x = p.removePeer x := by
  rw [Part.quietTick, if_neg (by simp [Part.running_of h]), lapsed]
  exact if_pos (by omega)

/-- Settles O32: both expiries remove the record. -/
theorem expiriesRemoveTheRecord : Obligations.ExpiriesRemoveTheRecord := by
  intro s x c job h expiry due
  have taken : exec c s = .next (s.withPart
      (Part.removePeer x { s.part with moment := s.part.moment.took job })) := by
    have running := Part.running_of h
    rcases expiry with ⟨rfl, rfl, joining, full⟩ | ⟨rfl, rfl, lapsed, full⟩
    · exact next_expire due (by simp [Part.joinExpires, running, joining, full])
        (Part.joinTick_expires (by exact h) joining full)
    · exact next_expire due (by simp [Part.lapseExpires, running, lapsed, full])
        (Part.quietTick_expires (by exact h) lapsed full)
  obtain ⟨q, hq⟩ : ∃ q : Part, q = { s.part with moment := s.part.moment.took job } := ⟨_, rfl⟩
  rw [← hq] at taken
  have reports := Part.removePeer_reports q x
  have others (y : Station) (hy : y ≠ x) := Part.clearStation_others q x hy
  have rest := Part.clearStation_rest q x
  refine ⟨_, taken, ?_, fun y hy => ⟨?_, ?_, ?_, ?_⟩, ?_, ?_, fun k => ?_, fun k => ?_, ?_, ?_, ?_, ?_, ?_⟩
  · rw [Part.peer, reports.ptb]
    exact (Part.clearStation_peer q x x).trans (if_pos rfl)
  · rw [Part.peer, reports.ptb]
    refine (Part.clearStation_peer q x y).trans ((if_neg hy).trans ?_)
    rw [hq]
    rfl
  · rw [reports.plu, (others y hy).1, hq]
  · rw [reports.mxe, (others y hy).2.1, hq]
  · rw [reports.imn, (others y hy).2.2, hq]
  · rw [reports.ast, ← Ast.releasePeer_buffers, hq]
    rfl
  · rw [reports.ast]
    refine (Ast.release_total q.ast _).trans ?_
    rw [hq]
  · rw [reports.plu]
    exact rest.1 k
  · rw [reports.mxe]
    exact rest.2 k
  · rw [reports.imn]
    have digest := Part.clearStation_digest q x
    subst hq
    exact digest
  · rw [Part.removePeer_marks, hq]
  · refine Part.endFaults_faults_congr ?_ _
    rw [hq]
    rfl
  · refine Part.endFaults_pnl_congr ?_ ?_ _
    · rw [hq]
      rfl
    · change (q.clearStation x).pnl.emit _ = s.part.pnl.emit _
      rw [reports.peerReport, hq]
      rfl
  · refine Part.eq_of_fields (reports.sul.trans ?_) (reports.settings.trans ?_) (reports.liu.trans ?_) ?_
      (reports.tau.trans ?_) (reports.cap.trans ?_) ?_ ?_ ?_ rfl rfl (reports.pnl.trans ?_) (reports.moment.trans ?_)
    case refine_4 => rw [reports.ptb, hq]; rfl
    case refine_7 => rw [reports.ast, hq]; rfl
    case refine_8 => rw [reports.plu, hq]; rfl
    case refine_9 => rw [reports.mxe, hq]; rfl
    all_goals rw [hq]; rfl

/-! ## Lapse (R29) -/

theorem Part.lapsePeer_reports (p : Part) (x : Station) :
    (p.mapPeer x fun r => { r with state := .lapsed, quietCount := satAdd 5200 r.quietCount 1 }).OnlyReports
      (p.lapsePeer x) :=
  (Part.OnlyReports.emitPeer x _).trans (Part.OnlyReports.raiseFault _ _)

theorem Part.quietTick_lapses {p : Part} {x : Station} (h : p.cap.station ≠ .loading)
    (present : (p.peer x).state = .present) (full : (p.peer x).quietCount = 199) : p.quietTick x = p.lapsePeer x := by
  rw [Part.quietTick, if_neg (by simp [Part.running_of h]), present]
  exact if_pos (by omega)

section
variable (p : Part) (x : Station)

theorem Part.lapsePeer_peer (full : (p.peer x).quietCount = 199) (y : Station) :
    (p.lapsePeer x).peer y =
      if x = y then { p.peer y with state := .lapsed, quietCount := 200 } else p.peer y := by
  have capped : satAdd 5200 (p.peer x).quietCount 1 = 200 := by rw [full]; rfl
  rw [Part.peer, (p.lapsePeer_reports x).ptb]
  refine (Part.mapPeer_peer x y _ p).trans ?_
  by_cases h : x = y
  · subst h
    rw [if_pos rfl, if_pos rfl, capped]
  · rw [if_neg h, if_neg h]

theorem Part.lapsePeer_pnl : (p.lapsePeer x).pnl =
    (({ p with pnl := p.pnl.emit (peerReport (p.lapsePeer x) x) } : Part).raiseFault (peerLapsedKey x)).pnl := by
  rw [(p.lapsePeer_reports x).peerReport]
  rfl

theorem Part.lapsePeer_frame : p.lapsePeer x = { p with
    ptb := { p.ptb with records := (p.lapsePeer x).ptb.records }
    faults := (p.lapsePeer x).faults, pnl := p.pnl.withReports (p.lapsePeer x).pnl } := by
  have ptb := (p.lapsePeer_reports x).ptb
  rw [ptb]
  exact (p.lapsePeer_reports x).eq

end

/-- Settles O33: the record lapses, and the rest only reports. -/
theorem lapseKeepsTheRecord : Obligations.LapseKeepsTheRecord := by
  intro s x h due present full
  have taken : exec (.peerLapse x) s = .next (s.withPart
      (Part.lapsePeer x { s.part with moment := s.part.moment.took (.quiet x) })) :=
    next_expire due (by simp [Part.lapses, Part.running_of h, present, full])
      (Part.quietTick_lapses (by exact h) present full)
  have peer := Part.lapsePeer_peer { s.part with moment := s.part.moment.took (.quiet x) } x (by exact full)
  have own := (peer x).trans (if_pos rfl)
  refine ⟨_, taken, own, ?_, fun y hy => (peer y).trans (if_neg hy.symm), rfl, Part.lapsePeer_pnl _ x,
    Part.lapsePeer_frame _ x⟩
  rw [own]
  rfl

/-! ## Timers (R36, R42, R58) -/

section
variable {p : Part} (h : p.cap.station ≠ .loading)
include h

theorem Part.resyncSeenTick_ends {x : Station} (last : (p.peer x).resyncSeen = 1) :
    p.resyncSeenTick x = { p with ptb := { p.ptb with
      records := p.ptb.records.set x.val { p.peer x with resyncSeen := 0 } x.isLt } } := by
  have zero : ({ p.peer x with resyncSeen := (p.peer x).resyncSeen - 1 } : PeerRecord) =
      { p.peer x with resyncSeen := 0 } := by rw [last]
  rw [Part.resyncSeenTick, if_pos (Part.running_of h), ← zero]
  rfl

theorem Part.lagWindowTick_ends (full : 999 ≤ p.ptb.lagWindow) :
    p.lagWindowTick = { p with ptb := { p.ptb with
      lagWindow := 0, records := Vector.ofFn fun s : Station => (p.peer s).endLagWindow } } := by
  rw [Part.lagWindowTick, if_pos (Part.running_of h), if_pos (by omega)]

theorem Part.resyncTick_ends (unstepped : p.moment.stepped = false) (last : p.tau.resyncTimer = 1) :
    p.resyncTick = { p with tau := { p.tau with resyncTimer := 0 } } := by
  rw [Part.resyncTick, if_pos (by simp [Part.running_of h, unstepped]), Part.mapTau, last]

end

/-- Settles O34: each timer at its last tick. -/
theorem timersExpireAtABlockTick : Obligations.TimersExpireAtABlockTick := by
  intro s h
  have running := Part.running_of h
  refine ⟨fun x due last => ?_, fun due full => ⟨_, next_expire due ?_ (Part.lagWindowTick_ends (by exact h) full),
    rfl, fun x => ?_, rfl⟩, fun due unstepped last => ?_⟩
  · exact next_expire due (by simp [Part.resyncSeenEnds, running, last]) (Part.resyncSeenTick_ends (by exact h) last)
  · simp [Part.lagWindowEnds, running, full]
  · simp [Part.peer, PeerRecord.endLagWindow]
  · exact next_expire due (by simp [Part.resyncTimerEnds, running, unstepped, last])
      (Part.resyncTick_ends (by exact h) unstepped last)

end Sys2Proof.Machine

/-! # What an event of playout and the mode work of an agreement instant leave unchanged. -/

namespace Sys2Proof.Machine

/-! ## Events of playout -/

/-- A part after an event of the store, playout, the mix and the Integrity Monitor: every other block is the same. -/
structure Part.PlaysOn (p q : Part) : Prop where
  sul : q.sul = p.sul
  settings : q.settings = p.settings
  liu : q.liu = p.liu
  ptb : q.ptb = p.ptb
  tau : q.tau = p.tau
  cap : q.cap = p.cap
  pnl : q.pnl = p.pnl.withReports q.pnl
  moment : q.moment = p.moment

namespace Part.PlaysOn

theorem of_eq {p q : Part} {a : Ast} {u : Plu} {m : Mxe} {i : Vector DigestRecord 16} {f : Faults} {r : Pnl}
    (h : q = { p with ast := a, plu := u, mxe := m, imn := i, faults := f, pnl := p.pnl.withReports r }) :
    p.PlaysOn q := by
  subst h
  exact ⟨rfl, rfl, rfl, rfl, rfl, rfl, rfl, rfl⟩

theorem refl (p : Part) : p.PlaysOn p := of_eq rfl

theorem trans {p q r : Part} (h : p.PlaysOn q) (h' : q.PlaysOn r) : p.PlaysOn r :=
  ⟨h'.sul.trans h.sul, h'.settings.trans h.settings, h'.liu.trans h.liu, h'.ptb.trans h.ptb, h'.tau.trans h.tau,
    h'.cap.trans h.cap, h'.pnl.trans (by rw [h.pnl]; rfl), h'.moment.trans h.moment⟩

theorem reports {p q : Part} (h : p.OnlyReports q) : p.PlaysOn q :=
  ⟨h.sul, h.settings, h.liu, h.ptb, h.tau, h.cap, h.pnl, h.moment⟩

theorem playout (p : Part) (a : Ast) (u : Plu) (m : Mxe) :
    p.PlaysOn { p with ast := a, plu := u, mxe := m } := of_eq rfl

theorem mapDigests (f : DigestRecord → DigestRecord) (p : Part) : p.PlaysOn (p.mapDigests f) := of_eq rfl

theorem digestStart (pb : BlockNo) (p : Part) : p.PlaysOn (p.digestStart pb) := mapDigests _ p

theorem digestReanchor (pb : BlockNo) (p : Part) : p.PlaysOn (p.digestReanchor pb) := mapDigests _ p

theorem digestCrossing (pb pb' : BlockNo) (p : Part) : p.PlaysOn (p.digestCrossing pb pb') :=
  of_eq (p.digestCrossing_frame pb pb')

theorem enterBlock (pb : BlockNo) (p : Part) : p.PlaysOn (p.enterBlock pb) := of_eq (p.enterBlock_frame pb)

theorem drive (p : Part) : p.PlaysOn p.drive := of_eq p.drive_frame

theorem crossTo (order : CrossOrder) (old pos : SampleCount) (p : Part) : p.PlaysOn (p.crossTo order old pos) := by
  unfold Part.crossTo
  cases order with
  | evaluationFirst => exact ((playout p _ _ _).trans (digestCrossing _ _ _)).trans (enterBlock _ _)
  | readersFirst => exact ((playout p _ _ _).trans (enterBlock _ _)).trans (digestCrossing _ _ _)

theorem reanchorTo (pos : SampleCount) (p : Part) : p.PlaysOn (p.reanchorTo pos) :=
  ((playout p _ _ _).trans (digestReanchor _ _)).trans (enterBlock _ _)

theorem moveBy (order : CrossOrder) (old : SampleCount) (step : Nat) (p : Part) :
    p.PlaysOn (p.moveBy order old step) := by
  unfold Part.moveBy
  dsimp only
  split
  · exact reanchorTo _ p
  · split
    · exact playout p _ _ _
    · exact crossTo _ _ _ p

theorem takeMove (order : CrossOrder) (p : Part) : p.PlaysOn (p.takeMove order) := by
  unfold Part.takeMove
  split
  · refine trans ?_ ((moveBy _ _ _ _).trans (drive _))
    exact playout p p.ast _ p.mxe
  · exact refl p

theorem formTarget (p : Part) : p.PlaysOn p.formTarget := by
  unfold Part.formTarget
  split
  · exact refl p
  · dsimp only
    split
    · exact (playout p _ _ _).trans (reports (.raiseFault _ _))
    · exact (playout p _ _ _).trans (reports (.endFault _ _))

theorem beginPlayout (p : Part) : p.PlaysOn p.beginPlayout := by
  unfold Part.beginPlayout
  refine trans ?_ (drive _)
  refine trans ?_ (enterBlock _ _)
  refine trans ?_ (digestStart _ _)
  refine (formTarget p).trans ?_
  exact playout _ _ _ _

theorem stepPlayout (p : Part) : p.PlaysOn p.stepPlayout := by
  unfold Part.stepPlayout
  split
  · dsimp only
    split
    · exact ((playout p _ _ _).trans (reanchorTo _ _)).trans (drive _)
    · exact (playout p _ _ _).trans (reanchorTo _ _)
  · exact refl p

theorem completeStep (p : Part) : p.PlaysOn p.completeStep := by
  unfold Part.completeStep
  split
  · exact takeMove _ p
  · exact refl p

end Part.PlaysOn

/-! ## The mode work (R50) -/

/-- A part after mode work: the device, the settings, the link, SC and what the Capture Unit holds but for the digests
are the same. -/
structure Part.WorksTime (p q : Part) : Prop where
  sul : q.sul = p.sul
  settings : q.settings = p.settings
  liu : q.liu = p.liu
  sc : q.tau.sc = p.tau.sc
  cap : q.cap = { p.cap with audio := q.cap.audio, digest := q.cap.digest }
  pnl : q.pnl = p.pnl.withReports q.pnl
  moment : q.moment = { p.moment with stepped := q.moment.stepped }

namespace Part.WorksTime

theorem refl (p : Part) : p.WorksTime p := ⟨rfl, rfl, rfl, rfl, rfl, rfl, rfl⟩

theorem trans {p q r : Part} (h : p.WorksTime q) (h' : q.WorksTime r) : p.WorksTime r :=
  ⟨h'.sul.trans h.sul, h'.settings.trans h.settings, h'.liu.trans h.liu, h'.sc.trans h.sc,
    h'.cap.trans (by rw [h.cap]), h'.pnl.trans (by rw [h.pnl]; rfl), h'.moment.trans (by rw [h.moment])⟩

theorem plays {p q : Part} (h : p.PlaysOn q) : p.WorksTime q :=
  ⟨h.sul, h.settings, h.liu, congrArg Tau.sc h.tau, by rw [h.cap], h.pnl, by rw [h.moment]⟩

theorem mapTau {f : Tau → Tau} {p : Part} (h : (f p.tau).sc = p.tau.sc) : p.WorksTime (p.mapTau f) :=
  ⟨rfl, rfl, rfl, h, rfl, rfl, rfl⟩

theorem takeStep (m : Int) (p : Part) : p.WorksTime (p.takeStep m) := by
  have begun : p.WorksTime ((({ p with
      tau := p.tau.stepped m, moment := { p.moment with stepped := true } } : Part).stepPeers
        (p.tau.stepDelta m)).stepCapture) :=
    ⟨by simp, by simp, by simp, by simp [Tau.stepped], by simp [Part.stepCapture], by simp [Pnl.withReports], by simp⟩
  exact begun.trans (plays (Part.PlaysOn.stepPlayout _))

theorem acquiringWork (p : Part) : p.WorksTime p.acquiringWork := by
  unfold Part.acquiringWork
  split
  · exact mapTau rfl
  · split
    · split
      · exact mapTau rfl
      · exact mapTau rfl
    · dsimp only
      split
      · exact (mapTau (p := p) (f := Tau.enterTracking) rfl).trans (takeStep _ _)
      · exact mapTau rfl

theorem consensusWork (p : Part) : p.WorksTime p.consensusWork := by
  unfold Part.consensusWork
  dsimp only
  split
  · split
    · exact (mapTau (p := p) (f := fun t => { t with largeRun := 0 }) rfl).trans (takeStep _ _)
    · exact mapTau rfl
  · exact mapTau rfl

theorem trackingWork (p : Part) : p.WorksTime p.trackingWork := by
  unfold Part.trackingWork
  split
  · exact mapTau rfl
  · split
    · split
      · exact mapTau rfl
      · exact (mapTau (p := p) (f := fun t => { t with emptyRun := t.emptyRun + 1 }) rfl).trans (consensusWork _)
    · exact (mapTau (p := p) (f := fun t => { t with emptyRun := 0 }) rfl).trans (consensusWork _)

theorem modeWork (p : Part) : p.WorksTime p.modeWork := by
  unfold Part.modeWork
  split
  · unfold Part.freeWork
    split
    · exact mapTau rfl
    · exact refl p
  · exact acquiringWork p
  · exact trackingWork p
  · unfold Part.holdoverWork
    split
    · exact mapTau rfl
    · exact refl p

end Part.WorksTime

/-- The part as the mode work of a due instant finds it. -/
def Part.tauTurn (p : Part) : Part := { p with moment := { p.moment with tauDue := false } }

/-- The mode work of a due instant keeps what `Part.WorksTime` names. -/
theorem Part.tauWork_worksTime {p : Part} (due : p.moment.tauDue = true) : p.tauTurn.WorksTime p.tauWork := by
  unfold Part.tauWork
  rw [if_pos due]
  dsimp only
  split
  · exact Part.WorksTime.modeWork p.tauTurn
  · exact Part.WorksTime.refl p.tauTurn

section
variable {p : Part} (due : p.moment.tauDue = true)
include due

theorem Part.tauWork_tauDue : p.tauWork.moment.tauDue = false := by
  rw [(Part.tauWork_worksTime due).moment]
  rfl

theorem Part.tauWork_liu : p.tauWork.liu = p.liu := (Part.tauWork_worksTime due).liu

theorem Part.tauWork_station : p.tauWork.cap.station = p.cap.station := by
  rw [(Part.tauWork_worksTime due).cap]
  rfl

theorem Part.tauWork_running (h : p.cap.station ≠ .loading) : p.tauWork = p.tauTurn.modeWork := by
  rw [Part.tauWork, if_pos due]
  exact if_pos (Part.running_of h)

end

end Sys2Proof.Machine

/-! # Handovers, and the frames a station receives of itself or drops (R8 to R20, R43, R44). -/

namespace Sys2Proof.Machine

/-! ## Handover (R8, R9, R17) -/

theorem dropEcho_absent {seq : SeqNo} {t : List EchoEntry} (h : ∀ e ∈ t, e.sequence ≠ seq) : dropEcho seq t = t :=
  List.filter_eq_self.mpr fun e he => bne_iff_ne.mpr (h e he)

theorem joinEcho_new {x : EchoEntry} {t : List EchoEntry} (h : ∀ e ∈ t, e.sequence ≠ x.sequence) :
    joinEcho x t = (if t.length < 16 then t else t.drop 1) ++ [x] := by
  rw [joinEcho, dropEcho_absent h]

theorem StationState.hands_iff (x : StationState) : x.hands = true ↔ x = .listening ∨ x = .onAir := by
  cases x <;> simp [StationState.hands]

theorem Part.canHandOver_iff (p : Part) : p.canHandOver = true ↔
    p.liu.tx = none ∧ p.liu.queue ≠ [] ∧ (p.cap.station = .listening ∨ p.cap.station = .onAir) := by
  simp [Part.canHandOver, StationState.hands_iff, and_assoc]

theorem Part.handOver_cons {p : Part} {x : Parcel} {rest : List Parcel} (h : p.liu.queue = x :: rest) :
    p.handOver = { p with liu := { p.liu with
      queue := rest, tx := some (p.frameOf x), sequence := p.liu.sequence + 1
      echoTable := joinEcho ⟨p.liu.sequence, p.tau.sc⟩ p.liu.echoTable } } := by
  rw [Part.handOver, h]

/-- Settles O22: a handover that can begin, at an instant or not, and one that cannot. -/
theorem handoverNumbersAndStampsTheHead : Obligations.HandoverNumbersAndStampsTheHead := by
  refine ⟨fun s x rest queue idle outside taken => ⟨s.part.frameOf x, joinEcho ⟨s.part.liu.sequence, s.part.tau.sc⟩ s.part.liu.echoTable, ?_, rfl, rfl,
    rfl, ?_, rfl, fun new => joinEcho_new (by exact new)⟩, fun s queue idle outside due => ⟨Part.tauWork_tauDue due, ?_, ?_⟩, fun s blocked => ?_,
    fun s => rfl⟩
  · have hand := (Part.canHandOver_iff s.part).mpr ⟨idle, by simp [queue], outside⟩
    exact next_withPart s ((Part.handOverNow_taken _ taken hand).trans (Part.handOver_cons queue))
  · exact Bool.eq_iff_iff.mpr (by simp [Part.frameOf])
  · rw [Part.tauWork_liu due]
  · have hand := (Part.canHandOver_iff s.part).mpr ⟨idle, queue, outside⟩
    have same : s.part.tauWork.canHandOver = true := by
      rw [Part.canHandOver_iff, Part.tauWork_liu due, Part.tauWork_station due]
      exact ⟨idle, queue, outside⟩
    have again := Part.handOverNow_taken _ (Part.tauWork_tauDue due) same
    exact next_withPart s ((if_pos hand).trans again.symm)
  · have refused : ¬s.part.canHandOver = true := by
      rw [Part.canHandOver_iff]
      rintro ⟨idle, queue, outside⟩
      rcases blocked with h | h | h | h <;> simp_all
    exact next_withPart s (if_neg refused)

/-! ## The checks of a frame (R14) -/

theorem parcelKindOfCode_iff (b : Byte) (k : ParcelKind) :
    parcelKindOfCode b = some k ↔ b.toNat = match k with | .audio => 1 | .talk => 2 | .notice => 3 := by
  have one : b = 0x01 ↔ b.toNat = 1 := BitVec.toNat_inj.symm
  have two : b = 0x02 ↔ b.toNat = 2 := BitVec.toNat_inj.symm
  have three : b = 0x03 ↔ b.toNat = 3 := BitVec.toNat_inj.symm
  simp only [parcelKindOfCode, one, two, three]
  cases k <;> grind

/-- What a frame that passes every check satisfies, and no other. -/
theorem checkFrame_iff (bs : List Byte) (kind : ParcelKind) : checkFrame false bs = some kind ↔
    22 ≤ bs.length ∧ crcAgrees bs = true ∧ parcelKindOfCode (byteAt 0 bs) = some kind ∧
      (1 ≤ (byteAt 1 bs).toNat ∧ (byteAt 1 bs).toNat ≤ 16) ∧
      (kind ≠ .notice → 1 ≤ (byteAt 15 bs).toNat ∧ (byteAt 15 bs).toNat ≤ 4) ∧
      (kind = .audio → 1 ≤ (byteAt 16 bs).toNat ∧ (byteAt 16 bs).toNat ≤ 8) ∧
      (kind = .talk → (byteAt 16 bs).toNat = 1) ∧
      bs.length = requiredFrameLength kind (byteAt 15 bs).toNat (byteAt 16 bs).toNat (flagDigest bs) := by
  simp only [checkFrame, Bool.false_eq_true, if_false, Option.ite_none_left_eq_some]
  cases parcelKindOfCode (byteAt 0 bs) with
  | none => simp
  | some k =>
    simp only [Option.ite_none_left_eq_some, Option.some.injEq]
    by_cases same : k = kind
    · subst same
      grind
    · grind

/-- The conditions that a dropped frame fails one of (R14). -/
theorem checkFrame_fails (bs : List Byte)
    (h : bs.length < 22 ∨ crcAgrees bs = false ∨ (byteAt 0 bs).toNat = 0 ∨ 3 < (byteAt 0 bs).toNat ∨
      (byteAt 1 bs).toNat = 0 ∨ 16 < (byteAt 1 bs).toNat ∨
      ((byteAt 0 bs).toNat ≤ 2 ∧ ((byteAt 15 bs).toNat = 0 ∨ 4 < (byteAt 15 bs).toNat)) ∨
      ((byteAt 0 bs).toNat = 1 ∧ ((byteAt 16 bs).toNat = 0 ∨ 8 < (byteAt 16 bs).toNat)) ∨
      ((byteAt 0 bs).toNat = 2 ∧ (byteAt 16 bs).toNat ≠ 1) ∨
      ((byteAt 0 bs).toNat = 1 ∧ bs.length ≠ 22 + (byteAt 16 bs).toNat +
        144 * (byteAt 15 bs).toNat * (byteAt 16 bs).toNat + (if (byteAt 2 bs).getLsbD 1 then 3 else 0)) ∨
      ((byteAt 0 bs).toNat = 2 ∧ bs.length ≠ 23 + 144 * (byteAt 15 bs).toNat) ∨
      ((byteAt 0 bs).toNat = 3 ∧ bs.length ≠ 46)) : checkFrame false bs = none := by
  refine Option.eq_none_iff_forall_ne_some.mpr fun kind good => ?_
  obtain ⟨long, crc, code, ⟨low, high⟩, span, lanes, talk, length⟩ := (checkFrame_iff bs kind).mp good
  rw [parcelKindOfCode_iff] at code
  simp only [crc, Bool.true_eq_false, false_or] at h
  cases kind with
  | audio =>
    have span := span (by decide)
    have lanes := lanes rfl
    simp only [requiredFrameLength] at length code
    simp only [code] at h
    cases flag : (byteAt 2 bs).getLsbD 1 <;> simp only [flagDigest, flag] at length h <;> omega
  | talk =>
    have span := span (by decide)
    have talk := talk rfl
    simp only [requiredFrameLength] at length code
    simp only [code] at h
    omega
  | notice =>
    simp only [requiredFrameLength] at length code
    simp only [code] at h
    omega

/-! ## The end of a frame (R12, R14, R15) -/

section
variable {p : Part} {st : ArrivalStamp} {bytes : List Byte}

theorem Part.releaseFrame_idle (h : p.liu.rx = none) : p.releaseFrame bytes = p := by
  rw [Part.releaseFrame, h]

theorem Part.releaseFrame_loading (h : p.liu.rx = some st) (loading : p.cap.station = .loading) :
    p.releaseFrame bytes = { p with liu := p.liu.collect bytes } := by
  rw [Part.releaseFrame, h]
  exact if_pos loading

theorem Part.releaseFrame_dropped (h : p.liu.rx = some st) (outside : p.cap.station ≠ .loading)
    (bad : goodFrame (decide (4641 < bytes.length)) (bytes.take 4641) = none) :
    p.releaseFrame bytes = ({ p with liu := p.liu.collect bytes } : Part).dropFrame st := by
  rw [Part.releaseFrame, h]
  refine (if_neg outside).trans ?_
  change (match goodFrame (decide (4641 < bytes.length)) (bytes.take 4641) with | none => _ | some x => _) = _
  rw [bad]

theorem Part.releaseFrame_good (h : p.liu.rx = some st) (outside : p.cap.station ≠ .loading) {x : RxParcel}
    (good : goodFrame (decide (4641 < bytes.length)) (bytes.take 4641) = some x) :
    p.releaseFrame bytes = ({ p with liu := p.liu.collect bytes } : Part).classify x st := by
  rw [Part.releaseFrame, h]
  refine (if_neg outside).trans ?_
  change (match goodFrame (decide (4641 < bytes.length)) (bytes.take 4641) with | none => _ | some x => _) = _
  rw [good]

end

/-- What the frame store and the transmitter hold of a frame after its bytes (R12). -/
theorem Liu.collect_eq (bytes : List Byte) (l : Liu) : l.collect bytes =
    { l with rx := none, frameStore := bytes.take 4641, overlength := decide (4641 < bytes.length) } := rfl

/-- A frame that fails a check of R14, whether it fills the store or not. -/
theorem goodFrame_fails {bytes : List Byte}
    (h : 4641 < bytes.length ∨ checkFrame false bytes = none) :
    goodFrame (decide (4641 < bytes.length)) (bytes.take 4641) = none := by
  by_cases long : 4641 < bytes.length
  · simp [goodFrame, checkFrame, long]
  · have bad := h.resolve_left long
    rw [List.take_of_length_le (by omega), goodFrame, decide_eq_false long, bad]
    rfl

/-- A frame dropped, with the record of bad frames it joins (R15). -/
theorem Part.dropFrame_eq (p : Part) (st : ArrivalStamp) :
    let joined := p.liu.badFrames ++ [st.sc.toNat / 48]
    let record := if 10 < joined.length then joined.drop 1 else joined
    let q := { p with liu := { p.liu with
      linkErrors := min (p.liu.linkErrors + 1) 4294967295, badFrames := record, cleanBlocks := 0 } }
    p.dropFrame st = if record.length = 10 ∧ record.getLastD 0 < record.headD 0 + 1000 then
      q.raiseFault ⟨.linkErrors, .none⟩ else q := by
  intro joined record q
  refine if_congr (and_congr_right fun _ => ?_) rfl rfl
  change ((record.getLastD 0 : Nat) : Int) - ((record.headD 0 : Nat) : Int) < 1000 ↔ _
  omega

/-- Settles O23: a frame that begins, and one released that fails a check. -/
theorem failingFramesAreDroppedAndCounted : Obligations.FailingFramesAreDroppedAndCounted := by
  refine ⟨fun s taken => ?_, fun s due => ⟨Part.tauWork_tauDue due, ?_⟩, fun s st bytes rx => ?_, fun s bytes idle => ?_⟩
  · exact next_withPart s (Part.arrive_taken _ taken)
  · refine next_withPart s ?_
    exact (Part.arrive_taken _ (Part.tauWork_tauDue due)).symm
  · intro n at_ l
    refine ⟨fun loading => next_withPart s (Part.releaseFrame_loading rx loading), fun outside bad => ?_⟩
    intro joined record p
    refine next_withPart s ((Part.releaseFrame_dropped rx outside (goodFrame_fails ?_)).trans (Part.dropFrame_eq _ st))
    exact bad.imp_right fun bad => checkFrame_fails bytes bad
  · exact next_withPart s (Part.releaseFrame_idle idle)

/-! ## Own frames (R16 to R20) -/

/-- With distinct numbers, the entry found is the entry of the number (R17). -/
theorem findEcho_of_mem {t : List EchoEntry} (hd : (t.map (·.sequence)).Nodup) {y : EchoEntry} (hy : y ∈ t) :
    t.find? (·.sequence == y.sequence) = some y := by
  cases h : t.find? (·.sequence == y.sequence) with
  | none => simpa using List.find?_eq_none.mp h y hy
  | some z =>
    have same : z.sequence = y.sequence := by simpa using List.find?_some h
    rw [List.inj_on_of_nodup_map hd (List.mem_of_find?_eq_some h) hy same]

theorem dropEcho_eq (seq : SeqNo) (t : List EchoEntry) :
    dropEcho seq t = t.filter fun y => y.sequence ≠ seq :=
  List.filter_congr fun y _ => Bool.eq_iff_iff.mpr (by simp)

section
variable {p : Part} {seq : SeqNo} (st : ArrivalStamp)

theorem Part.takeOwnFrame_stray (h : ∀ y ∈ p.liu.echoTable, y.sequence ≠ seq) :
    p.takeOwnFrame seq st = { p with liu := { p.liu with strays := satAdd max32 p.liu.strays 1 } } := by
  have absent : p.liu.echoTable.find? (·.sequence == seq) = none := List.find?_eq_none.mpr (by simpa using h)
  rw [Part.takeOwnFrame, absent]

variable (hd : (p.liu.echoTable.map (·.sequence)).Nodup) {y : EchoEntry} (hy : y ∈ p.liu.echoTable)
  (same : y.sequence = seq)
include hd hy same

theorem Part.takeOwnFrame_far (far : 65535 < (st.sc - y.sc).toNat) :
    p.takeOwnFrame seq st = { p with liu := { p.liu with echoTable := dropEcho seq p.liu.echoTable } } := by
  subst same
  rw [Part.takeOwnFrame, findEcho_of_mem hd hy]
  exact if_pos far

theorem Part.takeOwnFrame_echo {e : Nat} (he : (st.sc - y.sc).toNat = e) (near : e ≤ 65535) :
    p.takeOwnFrame seq st =
      ({ p with liu := { p.liu with echoTable := dropEcho seq p.liu.echoTable }.takeEcho e } : Part).endFault
        (FaultKey.plain .echoLost) := by
  subst same he
  rw [Part.takeOwnFrame, findEcho_of_mem hd hy]
  exact if_neg (Nat.not_lt.mpr near)

end

/-- The filter of E (R19), by the echo count and E held. -/
theorem Liu.takeEcho_delay (e : Nat) (l : Liu) : (l.takeEcho e).echoDelay =
    some (match l.echoCount, l.echoDelay with
      | 0, _ => e
      | _, none => e
      | _, some held => ((held : Int) + Int.fdiv ((e : Int) - held) 8).toNat) := by
  unfold Liu.takeEcho
  cases count : l.echoCount with
  | zero => rfl
  | succ n =>
    cases held : l.echoDelay with
    | none => simp [floorDiv]
    | some h => rfl

theorem Liu.takeEcho_eq (e : Nat) (l : Liu) : l.takeEcho e =
    { l with
      echoDelay := some (match l.echoCount, l.echoDelay with
        | 0, _ => e
        | _, none => e
        | _, some held => ((held : Int) + Int.fdiv ((e : Int) - held) 8).toNat)
      echoCount := min (l.echoCount + 1) 4
      echoLostCount := 0 } := by
  rw [← Liu.takeEcho_delay]
  rfl

/-- A good frame of the own number that is no foreign NOTICE is an echo or a stray. -/
theorem Part.classify_own {p : Part} {x : RxParcel} (own : x.source = p.sul.own)
    (h : x.kind ≠ .notice ∨ noticeSerial x.notice = p.sul.serial) (st : ArrivalStamp) :
    p.classify x st = p.takeOwnFrame x.sequence st := by
  rw [Part.classify, if_neg (not_not.mpr own), if_neg]
  rintro ⟨notice, foreign⟩
  exact h.elim (· notice) (foreign ·)

/-- Settles O24: a stray, a measurement too large, and one taken into E. -/
theorem ownFramesMeasureTheEcho : Obligations.OwnFramesMeasureTheEcho := by
  intro s st bytes x rx outside good own mine hd l kept
  have own' : Part.releaseFrame bytes s.part = Part.takeOwnFrame x.sequence st { s.part with liu := s.part.liu.collect bytes } :=
    (Part.releaseFrame_good rx outside good).trans (Part.classify_own (by exact own) (by exact mine) st)
  refine ⟨fun new => ?_, fun y hy same far => ?_, fun y hy e same he near => ?_⟩
  · exact next_withPart s (own'.trans (Part.takeOwnFrame_stray st (by exact new)))
  · refine next_withPart s (own'.trans ((Part.takeOwnFrame_far st (by exact hd) (by exact hy) same far).trans ?_))
    rw [dropEcho_eq]
    rfl
  · refine next_withPart s
      (own'.trans ((Part.takeOwnFrame_echo st (by exact hd) (by exact hy) same he near).trans ?_))
    rw [Liu.takeEcho_eq, dropEcho_eq]
    rfl

/-! ## A station-number conflict (R43, R44, R79) -/

theorem goodNotice_serial {body : List Byte} {v : NoticeValues} (h : goodNotice body = some v) :
    v.serial = noticeSerial body := by
  unfold goodNotice at h
  dsimp only at h
  split at h
  · simp only [Option.ite_none_left_eq_some, Option.some.injEq] at h
    obtain ⟨-, -, -, -, -, rfl⟩ := h
    rfl
  · exact absurd h (by simp)

section
variable {p : Part} {x : RxParcel} (own : x.source = p.sul.own) (notice : x.kind = .notice) (st : ArrivalStamp)
include own notice

theorem Part.classify_foreign (foreign : noticeSerial x.notice ≠ p.sul.serial) :
    p.classify x st = p.takeConflict x.notice := by
  rw [Part.classify, if_neg (not_not.mpr own), if_pos ⟨notice, foreign⟩]

end

section
variable {p : Part} {body : List Byte} {v : NoticeValues}

theorem Part.takeConflict_bad (h : goodNotice body = none) : p.takeConflict body = p := by
  rw [Part.takeConflict, h]

variable (h : goodNotice body = some v)
include h

theorem Part.takeConflict_held (held : p.cap.station = .conflict) : p.takeConflict body = p := by
  rw [Part.takeConflict, h]
  exact if_pos held

theorem Part.takeConflict_lost (outside : p.cap.station ≠ .conflict) (below : v.serial.toNat < p.sul.serial.toNat) :
    p.takeConflict body = (p.raiseConflict .lost).enterConflict := by
  rw [Part.takeConflict, h]
  exact (if_neg outside).trans (if_pos below)

theorem Part.takeConflict_won (outside : p.cap.station ≠ .conflict) (above : p.sul.serial.toNat < v.serial.toNat) :
    p.takeConflict body = { p.raiseConflict .won with ptb := { p.ptb with winCount := 0 } } := by
  rw [Part.takeConflict, h]
  exact (if_neg outside).trans (if_neg (by omega))

end

/-- An abort, with a frame in progress or none (R10). -/
theorem Liu.abort_eq (l : Liu) : l.abort = { l with
    queue := [], tx := none
    echoTable := match l.tx with
      | some f => l.echoTable.filter fun e => e.sequence ≠ f.sequence
      | none => l.echoTable
    aborts := if l.tx = none then l.aborts else l.aborts + 1 } := by
  unfold Liu.abort
  cases h : l.tx with
  | none => simp only [if_true, ← h]
  | some f =>
    simp only [← dropEcho_eq]
    rfl

/-- Settles O26: lost, won, already in CONFLICT, and a body that is not good. -/
theorem conflictIsLostOrWonBySerial : Obligations.ConflictIsLostOrWonBySerial := by
  refine ⟨fun s st bytes x v rx outside good notice value own => ?_, fun s st bytes x rx outside good notice bad own
    foreign => ?_⟩
  · intro l
    have serial := goodNotice_serial value
    have taken (foreign : noticeSerial x.notice ≠ s.part.sul.serial) : Part.releaseFrame bytes s.part =
        Part.takeConflict x.notice { s.part with liu := s.part.liu.collect bytes } :=
      (Part.releaseFrame_good rx outside good).trans (Part.classify_foreign (by exact own) notice st (by exact foreign))
    refine ⟨fun calm below => ⟨_, next_withPart s ((taken ?_).trans
      (Part.takeConflict_lost value (by exact calm) (by exact below))), rfl, ?_⟩, fun calm above => ⟨_, next_withPart s
      ((taken ?_).trans (Part.takeConflict_won value (by exact calm) (by exact above))), rfl, rfl⟩,
      fun held foreign => next_withPart s ((taken ?_).trans (Part.takeConflict_held value (by exact held)))⟩
    · rintro same
      rw [serial, same] at below
      exact Nat.lt_irrefl _ below
    · rw [Part.enterConflict, Part.raiseConflict_liu, Liu.abort_eq]
      rfl
    · rintro same
      rw [serial, same] at above
      exact Nat.lt_irrefl _ above
    · exact serial ▸ foreign
  · have foreign : noticeSerial x.notice ≠ s.part.sul.serial := foreign
    have taken : Part.releaseFrame bytes s.part =
        Part.takeConflict x.notice { s.part with liu := s.part.liu.collect bytes } :=
      (Part.releaseFrame_good rx outside good).trans (Part.classify_foreign (by exact own) notice st (by exact foreign))
    exact next_withPart s (taken.trans (Part.takeConflict_bad bad))

end Sys2Proof.Machine

/-! # The agreement instant in TRACKING, founding and the empty run (R50, R55, R60 to R64). -/

namespace Sys2Proof.Machine

/-! ## The Playout Unit's turn -/

/-- The Playout Unit's turn at the instant changes the target, its fault and what is due at the unit. -/
theorem Part.targetTurn_playsOn (p : Part) :
    ({ p with moment := p.targetTurn.moment } : Part).PlaysOn p.targetTurn := by
  unfold Part.targetTurn
  split
  · have plays := Part.PlaysOn.formTarget { p with moment := { p.moment with pluDue := false } }
    rw [plays.moment]
    exact plays
  · exact Part.PlaysOn.refl p

theorem Part.targetTurn_moment (p : Part) :
    p.targetTurn.moment = { p.moment with pluDue := p.targetTurn.moment.pluDue } := by
  unfold Part.targetTurn
  split
  · rw [(Part.PlaysOn.formTarget _).moment]
  · rfl

/-! ## The orders of an instant (R50, R64, R115) -/

section
variable {p : Part} (due : p.moment.trimDue = true)
include due

theorem Part.agreementWork_timeFirst : p.agreementWork .timeFirst = p.tauWork.trimTurn.targetTurn.completeStep := by
  rw [Part.agreementWork, if_pos due]

theorem Part.agreementWork_playoutFirst :
    p.agreementWork .playoutFirst = p.targetTurn.tauWork.trimTurn.completeStep := by
  rw [Part.agreementWork, if_pos due]

theorem Part.agreementWork_targetOnly : p.agreementWork .targetOnly = p.targetTurn := by
  rw [Part.agreementWork, if_pos due]

end

/-- What the mode work at an instant reads of the part. -/
structure Part.SameInstant (p q : Part) : Prop where
  sul : q.sul = p.sul
  liu : q.liu = p.liu
  ptb : q.ptb = p.ptb
  tau : q.tau = p.tau
  cap : q.cap = p.cap
  tauDue : q.moment.tauDue = p.moment.tauDue
  trimDue : q.moment.trimDue = p.moment.trimDue

theorem Part.targetTurn_sameInstant (p : Part) : p.SameInstant p.targetTurn := by
  have plays := p.targetTurn_playsOn
  refine ⟨plays.sul, plays.liu, plays.ptb, plays.tau, plays.cap, ?_, ?_⟩ <;> rw [p.targetTurn_moment]

/-- The Time Agreement Unit after an instant that takes its work: the mode work and the trim word, in each order. -/
theorem Part.agreementWork_tau_eq {p : Part} (due : p.moment.trimDue = true) {o : InstantOrder} (ho : o ≠ .targetOnly)
    {t : Tau} (work : ∀ q, p.SameInstant q → q.tauWork.tau = t) :
    (p.agreementWork o).tau = t.sendTrim := by
  cases o with
  | timeFirst =>
    rw [Part.agreementWork_timeFirst due, Part.completeStep_tau, Part.targetTurn_tau]
    exact congrArg Tau.sendTrim (work p ⟨rfl, rfl, rfl, rfl, rfl, rfl, rfl⟩)
  | playoutFirst =>
    rw [Part.agreementWork_playoutFirst due, Part.completeStep_tau]
    exact congrArg Tau.sendTrim (work _ p.targetTurn_sameInstant)
  | targetOnly => exact absurd rfl ho

/-- After an instant that takes the Time Agreement Unit's work, neither the work nor the trim word is due. -/
theorem Part.agreementWork_done {p : Part} (due : p.moment.trimDue = true) (hwork : p.moment.tauDue = true)
    {o : InstantOrder} (ho : o ≠ .targetOnly) :
    (p.agreementWork o).moment.trimDue = false ∧ (p.agreementWork o).moment.tauDue = false := by
  cases o with
  | timeFirst =>
    rw [Part.agreementWork_timeFirst due, (Part.PlaysOn.completeStep _).moment, Part.targetTurn_moment]
    exact ⟨rfl, Part.tauWork_tauDue hwork⟩
  | playoutFirst =>
    rw [Part.agreementWork_playoutFirst due, (Part.PlaysOn.completeStep _).moment]
    refine ⟨rfl, Part.tauWork_tauDue ?_⟩
    rw [p.targetTurn_moment]
    exact hwork
  | targetOnly => exact absurd rfl ho

/-! ## TRACKING with a settled peer (R61, R62) -/

theorem Part.settledPeers_isEmpty {p : Part} (h : p.settledPeers ≠ []) : p.settledPeers.isEmpty = false := by
  simpa using h

/-- TRACKING's work with a settled peer, short of the third large error in a run. -/
theorem Part.trackingWork_updates {p : Part} (echo : p.liu.echoCount = 4) (peers : p.settledPeers ≠ [])
    (short : p.trackingError.natAbs < 7680 ∨ p.tau.largeRun + 1 < 3) :
    p.trackingWork = p.mapTau fun t =>
      ({ t with
        emptyRun := 0
        largeRun := if p.trackingError.natAbs < 7680 then 0 else t.largeRun + 1 } : Tau).trimUpdate
          p.trackingError := by
  have valid : p.liu.echoValid = true := by simp [Liu.echoValid, echo]
  rw [Part.trackingWork, if_neg (by simp [valid]), if_neg (by simp [Part.settledPeers_isEmpty peers])]
  by_cases small : p.trackingError.natAbs < 7680
  · refine (if_neg (by exact Nat.not_le.mpr small)).trans ?_
    simp only [small, if_true]
    rfl
  · refine (if_pos (by exact Nat.not_lt.mp small)).trans ((if_neg ?_).trans ?_)
    · exact Nat.not_le.mpr (short.resolve_left small)
    · simp only [small, if_false]
      rfl

theorem Part.SameInstant.trackingError {p q : Part} (h : p.SameInstant q) : q.trackingError = p.trackingError := by
  simp only [Part.trackingError, Part.settledOffsets, Part.settledPeers, Part.peer, h.ptb]

theorem Part.SameInstant.settledPeers {p q : Part} (h : p.SameInstant q) : q.settledPeers = p.settledPeers := by
  simp only [Part.settledPeers, Part.peer, h.ptb]

/-- Settles O48: the update by `Part.trackingWork_updates`, in each order that takes it. -/
theorem trimUpdateAndTrimWord : Obligations.TrimUpdateAndTrimWord := by
  intro s o ho trimDue tauDue outside tracking echo peers short m i trim
  have work (q : Part) (h : s.part.SameInstant q) : q.tauWork.tau = { s.part.tau with
      integral := i, trim := trim, emptyRun := 0
      largeRun := if m.natAbs < 7680 then 0 else s.part.tau.largeRun + 1 } := by
    have mode : q.tauTurn.tau.mode = .tracking := (congrArg Tau.mode h.tau).trans tracking
    have error : q.tauTurn.trackingError = m := h.trackingError
    have echo : q.tauTurn.liu.echoCount = 4 := (congrArg Liu.echoCount h.liu).trans echo
    have peers : q.tauTurn.settledPeers ≠ [] := h.settledPeers.trans_ne peers
    have short : q.tauTurn.trackingError.natAbs < 7680 ∨ q.tauTurn.tau.largeRun + 1 < 3 := by
      rw [error, show q.tauTurn.tau = s.part.tau from h.tau]
      exact short
    rw [Part.tauWork_running (h.tauDue.trans tauDue) (by rw [h.cap]; exact outside), Part.modeWork, mode]
    dsimp only
    rw [Part.trackingWork_updates echo peers short, error]
    change Tau.trimUpdate m { q.tau with
      emptyRun := 0, largeRun := if m.natAbs < 7680 then 0 else q.tau.largeRun + 1 } = _
    rw [h.tau]
    rfl
  exact ⟨_, rfl, Part.agreementWork_tau_eq trimDue ho work, Part.agreementWork_done trimDue tauDue ho⟩

/-! ## Founding and the empty run (R55, R60) -/

/-- Settles O50: both limits are reached with no settled peer. -/
theorem foundingAndEmptyRunMoveTheMode : Obligations.FoundingAndEmptyRunMoveTheMode := by
  intro s due outside echo alone
  have valid : s.part.liu.echoValid = true := by simp [Liu.echoValid, echo]
  have running := Part.running_of outside
  have empty : s.part.settledPeers.isEmpty = true := by simp [alone]
  refine ⟨fun mode limit => next_withPart s ?_, fun mode limit => next_withPart s ?_⟩
  · have falls : s.part.foundingDue = true := by
      simp [Part.foundingDue, due, running, mode, valid, empty, Part.foundingLimit, limit]
    have work : s.part.tauTurn.acquiringWork = s.part.tauTurn.mapTau Tau.enterTracking := by
      rw [Part.acquiringWork, if_neg (by simp [Part.tauTurn, valid]), if_pos (by exact empty), if_pos (by exact limit)]
    rw [if_pos falls, Part.tauWork_running due outside, Part.modeWork, show s.part.tauTurn.tau.mode = .acquiring from mode]
    exact work
  · have falls : s.part.emptyRunDue = true := by
      simp [Part.emptyRunDue, due, running, mode, valid, empty, limit]
    have work : s.part.tauTurn.trackingWork = s.part.tauTurn.mapTau Tau.enterHoldover := by
      rw [Part.trackingWork, if_neg (by simp [Part.tauTurn, valid]), if_pos (by exact empty),
        if_pos (by exact Nat.succ_le_succ limit)]
    rw [if_pos falls, Part.tauWork_running due outside, Part.modeWork, show s.part.tauTurn.tau.mode = .tracking from mode]
    exact work

end Sys2Proof.Machine

/-! # Output values and lane entries (R126, R127, R132, R160, R161). -/

namespace Sys2Proof.Machine

/-! ## The word length of an output (R160, R161) -/

/-- The quantum of an output: the step between the values it can carry (R160). -/
def WordLength.quantum (w : WordLength) : Int := if w = .w24 then 1 else if w = .w20 then 16 else 256

theorem WordLength.quantum_eq (w : WordLength) : (2 : Int) ^ w.dropped = w.quantum := by
  cases w <;> rfl

theorem WordLength.quantum_cases (w : WordLength) : w.quantum = 1 ∨ w.quantum = 16 ∨ w.quantum = 256 := by
  cases w <;> simp [WordLength.quantum]

theorem floorTo_eq {q : Int} (h : 0 ≤ q) (x : Int) : floorTo q x = x - x % q := by
  rw [floorTo, floorDiv, Int.fdiv_eq_ediv_of_nonneg _ h]
  have := Int.ediv_mul_add_emod x q
  omega

/-- An output that draws no dither floors its value. -/
theorem reduceWord_plain {o : OutputSetting} (h : o.draws = false) (register : BitVec 32) (x : Int) :
    reduceWord o register x = x - x % o.word.quantum := by
  have q := o.word.quantum_cases
  rw [reduceWord, h, o.word.quantum_eq]
  exact floorTo_eq (by omega) x

/-- An output that draws dither adds two triangular draws, floors and saturates. -/
theorem reduceWord_drawn {o : OutputSetting} (h : o.draws = true) (register : BitVec 32) (x : Int) :
    let q := o.word.quantum
    let z := x + ((ditherAdvance register).toNat : Int) % q +
      ((ditherAdvance (ditherAdvance register)).toNat : Int) % q - (q - 1)
    reduceWord o register x = max (-8388608) (min (8388608 - q) (z - z % q)) := by
  intro q z
  have cases := o.word.quantum_cases
  have low (n : Nat) : ((n % 2 ^ o.word.dropped : Nat) : Int) = (n : Int) % q := by
    rw [Int.natCast_emod, Int.natCast_pow, Nat.cast_ofNat, o.word.quantum_eq]
  rw [reduceWord, h]
  dsimp only
  rw [if_pos rfl, clampInt, o.word.quantum_eq, floorTo_eq (by omega), low, low]

/-- Settles O41: an output that draws, and one that does not. -/
theorem outputsKeepTheirWordLength : Obligations.OutputsKeepTheirWordLength := by
  intro o register x low high y q lowBits z
  have cases : q = 1 ∨ q = 16 ∨ q = 256 := o.word.quantum_cases
  cases draws : o.draws with
  | false =>
    have value : y = x - x % q := reduceWord_plain draws register x
    have full : o.word ≠ .w24 → o.dither = false := by
      intro short
      simpa [OutputSetting.draws, short] using draws
    have exact24 : o.word = .w24 → q = 1 := fun w => if_pos w
    clear_value y q
    have bounds : y ≤ 8388607 ∧ -8388608 ≤ y ∧ q ∣ y ∧ y ≤ x ∧ x < y + q ∧ (q = 1 → y = x) := by
      rcases cases with rfl | rfl | rfl <;> omega
    obtain ⟨most, least, multiple, below, near, whole⟩ := bounds
    exact ⟨most, least, multiple, fun w => whole (exact24 w), fun _ => ⟨below, near⟩,
      fun short dithered => absurd (full short) (by simp [dithered])⟩
  | true =>
    have value : y = max (-8388608) (min (8388608 - q) (z - z % q)) := reduceWord_drawn draws register x
    obtain ⟨dithered, short⟩ : o.dither = true ∧ o.word ≠ .w24 := by simpa [OutputSetting.draws] using draws
    clear_value y q z
    have bounds : y ≤ 8388607 ∧ -8388608 ≤ y ∧ q ∣ y := by
      rcases cases with rfl | rfl | rfl <;> omega
    obtain ⟨most, least, multiple⟩ := bounds
    exact ⟨most, least, multiple, fun w => absurd w short, fun plain => absurd plain (by simp [dithered]),
      fun _ _ => value⟩

/-! ## Lane entries (R125 to R127, R132) -/

theorem LaneRecord.enter_some {r : LaneRecord} {k : LaneNo} (expected : Bool) (x : StoredLane)
    (live : ¬(k = talkLane ∧ r.endSeen = true ∧ (r.state = .playing ∨ r.state = .recovering))) :
    r.enter k expected (some x) = LaneRecord.enterPresent expected x
      { r with silent := x.silent, stuck := x.stuck, endSeen := decide (k = talkLane) && x.endMark } := by
  rw [LaneRecord.enter, LaneRecord.endTalk, if_neg live]
  rfl

theorem LaneRecord.enter_none {r : LaneRecord} {k : LaneNo} (expected : Bool)
    (live : ¬(k = talkLane ∧ r.endSeen = true ∧ (r.state = .playing ∨ r.state = .recovering))) :
    r.enter k expected none = LaneRecord.enterAbsent k expected
      { r with silent := false, stuck := false, endSeen := false } := by
  rw [LaneRecord.enter, LaneRecord.endTalk, if_neg live]
  rfl

/-- END seen takes a playing talk lane to IDLE before it reads its block: the same entry as of a lane at rest. -/
theorem LaneRecord.enter_ended {r : LaneRecord} (expected : Bool) (found : Option StoredLane) (ended : r.endSeen = true)
    (live : r.state = .playing ∨ r.state = .recovering) :
    r.enter talkLane expected found =
      ({ r with state := .idle, copy := List.replicate 48 0, mutedCount := 0 } : LaneRecord).enter talkLane
        expected found := by
  have rest : ({ r with state := .idle, copy := List.replicate 48 0, mutedCount := 0 } : LaneRecord).endTalk talkLane =
      { r with state := .idle, copy := List.replicate 48 0, mutedCount := 0 } := if_neg (by simp)
  have stopped : r.endTalk talkLane = { r with state := .idle, copy := List.replicate 48 0, mutedCount := 0 } :=
    if_pos ⟨rfl, ended, live⟩
  simp only [LaneRecord.enter, stopped, rest]

/-- Settles O37: the two tables by the lane's state, and END seen by `LaneRecord.enter_ended`. -/
theorem lanesFollowTheEntryTables : Obligations.LanesFollowTheEntryTables := by
  refine ⟨fun r k expected x live => ?_, fun r k expected live => ?_, fun r expected found => r.enter_ended expected found⟩
  · intro t
    obtain ⟨y, hy⟩ : ∃ y : LaneRecord, y = LaneRecord.enterPresent expected x
      { r with silent := x.silent, stuck := x.stuck, endSeen := decide (k = talkLane) && x.endMark } := ⟨_, rfl⟩
    have entered : t = y := (r.enter_some expected x live).trans hy.symm
    clear_value t
    subst entered
    rw [LaneRecord.enterPresent] at hy
    cases h : r.state <;> simp_all
    cases expected <;> simp_all
  · intro t
    obtain ⟨y, hy⟩ : ∃ y : LaneRecord, y = LaneRecord.enterAbsent k expected
      { r with silent := false, stuck := false, endSeen := false } := ⟨_, rfl⟩
    have entered : t = y := (r.enter_none expected live).trans hy.symm
    clear_value t
    subst entered
    rw [LaneRecord.enterAbsent] at hy
    cases h : r.state with
    | playing => simp_all
    | recovering => simp_all
    | idle => simp_all
    | concealing n =>
      rw [h] at hy
      dsimp only at hy
      by_cases last : n.val < 3
      · rw [dif_pos last] at hy
        have notLast : n ≠ 3 := fun e => by simp [e] at last
        subst hy
        simp only [reduceCtorEq, LaneState.concealing.injEq, notLast, or_self, false_imp_iff, and_true, true_and]
        rintro _ n' rfl next
        exact Fin.ext next.symm
      · rw [dif_neg last] at hy
        have top : n = 3 := Fin.ext (by have := n.isLt; simp; omega)
        have notNext : ∀ m n' : Fin 4, n = m → n'.val = m.val + 1 → False := by
          rintro m n' rfl next
          omega
        cases expected <;> simp_all [LaneRecord.toIdle, silentBlock]
    | muted =>
      cases expected <;> by_cases talk : k = talkLane <;> by_cases full : r.mutedCount < 100 <;>
        simp_all [LaneRecord.toIdle, silentBlock]

end Sys2Proof.Machine

/-! # A parcel from a peer: the steps of R26 on the peer's record. -/

namespace Sys2Proof.Machine

/-! ## A part with one record replaced -/

/-- The part with the record of a station replaced. -/
def Part.withPeer (s : Station) (r : PeerRecord) (p : Part) : Part :=
  { p with ptb := { p.ptb with records := p.ptb.records.set s.val r s.isLt } }

section
variable (p : Part) (s : Station) (r : PeerRecord)

@[simp] theorem Part.withPeer_peer_self : (p.withPeer s r).peer s = r := by
  simp [Part.withPeer, Part.peer]

theorem Part.withPeer_peer_other {y : Station} (h : y ≠ s) : (p.withPeer s r).peer y = p.peer y := by
  have : s.val ≠ y.val := fun e => h (Fin.ext e.symm)
  simp [Part.withPeer, Part.peer, this]

theorem Part.withPeer_withPeer (r' : PeerRecord) : (p.withPeer s r).withPeer s r' = p.withPeer s r' := by
  simp [Part.withPeer]

theorem Part.mapPeer_eq (f : PeerRecord → PeerRecord) : p.mapPeer s f = p.withPeer s (f (p.peer s)) := rfl

theorem Part.withPeer_mapPeer (f : PeerRecord → PeerRecord) : (p.withPeer s r).mapPeer s f = p.withPeer s (f r) := by
  rw [Part.mapPeer_eq, Part.withPeer_peer_self, Part.withPeer_withPeer]

theorem Part.withPeer_self : p.withPeer s (p.peer s) = p := by
  simp [Part.withPeer, Part.peer]

end

/-! ## Presence, sequence and RESYNC (R27, R30, R35, R36) -/

section
variable {p : Part} {s : Station}

theorem Part.takePresence_absent (h : (p.peer s).state = .absent) (seq : SeqNo) (sc : SampleCount) :
    p.takePresence s seq sc =
      ({ p with pnl := p.pnl.emit (peerReport (p.withPeer s (.created seq sc)) s) } : Part).withPeer s
        (.created seq sc) := by
  rw [Part.takePresence, h]
  rfl

/-- A known record after its presence (R26 step 1, R30). -/
def PeerRecord.present (sc : SampleCount) (r : PeerRecord) : PeerRecord :=
  { r with state := if r.state = .lapsed then .present else r.state, lastHeard := sc, quietCount := 0 }

/-- The part as presence leaves it, its record apart: a LAPSED record that returns is reported, and its fault ends. -/
def Part.returned (s : Station) (sc : SampleCount) (p : Part) : Part :=
  if (p.peer s).state = .lapsed then
    ({ p with pnl := p.pnl.emit (peerReport (p.withPeer s ((p.peer s).present sc)) s) } : Part).endFault
      (peerLapsedKey s)
  else p

theorem Part.takePresence_known (h : (p.peer s).state ≠ .absent) (seq : SeqNo) (sc : SampleCount) :
    p.takePresence s seq sc = (p.returned s sc).withPeer s ((p.peer s).present sc) := by
  unfold Part.takePresence Part.returned
  cases state : (p.peer s).state with
  | absent => exact absurd state h
  | lapsed =>
    have present : (p.peer s).present sc = { p.peer s with state := .present, lastHeard := sc, quietCount := 0 } := by
      rw [PeerRecord.present, if_pos state]
    rw [if_pos rfl, present]
    rfl
  | joining =>
    have present : (p.peer s).present sc = { p.peer s with lastHeard := sc, quietCount := 0 } := by
      rw [PeerRecord.present, if_neg (by simp [state])]
    rw [if_neg (by simp), present]
    rfl
  | present =>
    have present : (p.peer s).present sc = { p.peer s with lastHeard := sc, quietCount := 0 } := by
      rw [PeerRecord.present, if_neg (by simp [state])]
    rw [if_neg (by simp), present]
    rfl

/-- The moment after a RESYNC parcel: a tick that would have ended the timer has nothing left to count (R36). -/
def Moment.overtaken (s : Station) (r : PeerRecord) (m : Moment) : Moment :=
  if r.resyncSeen = 1 ∧ m.due (.resyncSeen s) then m.took (.resyncSeen s) else m

theorem Moment.jobDue_iff (m : Moment) (j : TickJob) : m.jobDue j = true ↔ m.due j := by
  simp [Moment.jobDue, Moment.due]

theorem Part.takeResync_withPeer (p : Part) (s : Station) (r : PeerRecord) :
    (p.withPeer s r).takeResync s =
      ({ p with moment := p.moment.overtaken s r } : Part).withPeer s r.hearResync := by
  have falls : (p.withPeer s r).resyncSeenFalling s = true ↔ r.resyncSeen = 1 ∧ p.moment.due (.resyncSeen s) := by
    rw [Part.resyncSeenFalling, Bool.and_eq_true, Moment.jobDue_iff, Part.withPeer_peer_self, and_comm, beq_iff_eq]
    rfl
  unfold Part.takeResync
  rw [Part.withPeer_mapPeer]
  simp only [falls, Moment.overtaken]
  split <;> rfl

end

/-- A count of sequence numbers, modulo 2^16 (R35). -/
theorem sequence_difference (seq last : SeqNo) :
    (seq - last - 1).toNat = (seq.toNat + 65535 - last.toNat) % 65536 := by
  bv_omega

/-- Presence, sequence accounting and RESYNC together are what `PeerRecord.heard` says. -/
theorem PeerRecord.heard_eq (sc : SampleCount) (seq : SeqNo) (resync : Bool) (r : PeerRecord) :
    r.heard sc seq resync =
      if resync then ((r.present sc).account seq).hearResync else (r.present sc).account seq := by
  have last : (r.present sc).lastSequence = r.lastSequence := rfl
  unfold PeerRecord.account PeerRecord.heard
  simp only [last, sequence_difference]
  generalize (seq.toNat + 65535 - r.lastSequence.toNat) % 65536 = d
  by_cases none : d = 0
  · cases resync <;> simp [none, PeerRecord.present, PeerRecord.hearResync]
  · by_cases gap : d ≤ 32767
    · have inOrder : ¬32768 ≤ d := by omega
      have some : 1 ≤ d := by omega
      cases resync <;> simp [none, gap, inOrder, some, PeerRecord.present, PeerRecord.hearResync, satAdd, max16]
    · have behind : 32768 ≤ d := by omega
      cases resync <;> simp [none, gap, behind, PeerRecord.present, PeerRecord.hearResync, satAdd, max16]

/-! ## The body of a NOTICE, the talk-active flag and the offset (R33, R34, R38, R39) -/

theorem PeerRecord.measure_eq (theta : Int) (r : PeerRecord) : r.measure theta = r.filtered (16 * theta) := by
  unfold PeerRecord.measure PeerRecord.filtered
  cases r.offset with
  | none => rfl
  | some f =>
    cases reseed : r.reseed with
    | true => simp [satAdd]
    | false =>
      by_cases far : 8 ≤ r.measurements ∧ 7680 < (16 * theta - f).natAbs
      · by_cases run : r.outlierRun < 3
        · simp [far, run, Nat.not_le.mpr run]
        · simp [far, run, Nat.not_lt.mp run, satAdd]
      · simp [far, satAdd, floorDiv]

/-- The offset measurement of a parcel (R26 step 6). -/
theorem Part.takeOffset_withPeer (p : Part) (s : Station) (r : PeerRecord) (st : ArrivalStamp) (stamp : SampleCount) :
    (p.withPeer s r).takeOffset s st stamp = p.withPeer s (r.measuredAt p st.sc stamp) := by
  have echo : (p.withPeer s r).liu.validEcho = if p.liu.echoCount = 4 then p.liu.echoDelay else none := by
    simp [Part.withPeer, Liu.validEcho, Liu.echoValid]
  unfold Part.takeOffset PeerRecord.measuredAt
  rw [echo, Part.withPeer_peer_self]
  cases p.liu.echoDelay with
  | none => simp
  | some e =>
    cases r.echoDelay with
    | none => simp
    | some eb =>
      by_cases valid : p.liu.echoCount = 4
      · by_cases free : p.tau.mode = .free
        · simp [valid, free, Part.withPeer]
        · have unfree : (p.withPeer s r).tau.mode ≠ .free := free
          simp only [valid, if_true, unfree, if_false, Part.withPeer_mapPeer, PeerRecord.measure_eq, ne_eq, free,
            not_false_eq_true, and_self]
          rfl
      · simp [valid]

theorem Part.takeNotice_bad (p : Part) (s : Station) (r : PeerRecord) :
    (p.withPeer s r).takeNotice s none = p.withPeer s { r with format := satAdd max16 r.format 1 } :=
  Part.withPeer_mapPeer ..

/-- The digest entries as a NOTICE leaves them: spoiled where it changes C_B (R173). -/
def Part.announcing (s : Station) (held : Option Announced) (v : NoticeValues) (p : Part) : Part :=
  if laneCountChanges held v then p.spoilDigest s else p

/-- A good NOTICE replaces the announced values; a JOINING record becomes PRESENT (R28, R33). -/
theorem Part.takeNotice_good (p : Part) (s : Station) (r : PeerRecord) (v : NoticeValues) :
    (p.withPeer s r).takeNotice s (some v) =
      if r.state = .joining then
        ({ p.announcing s r.announced v with
          pnl := p.pnl.emit (peerReport ((p.announcing s r.announced v).withPeer s
            { r.announce v with state := .present }) s) } : Part).withPeer s { r.announce v with state := .present }
      else (p.announcing s r.announced v).withPeer s (r.announce v) := by
  have spoiled : (if laneCountChanges r.announced v then (p.withPeer s r).spoilDigest s else p.withPeer s r) =
      (p.announcing s r.announced v).withPeer s r := by
    unfold Part.announcing
    split <;> rfl
  have pnl : (p.announcing s r.announced v).pnl = p.pnl := by
    unfold Part.announcing
    split <;> rfl
  unfold Part.takeNotice
  dsimp only
  rw [Part.withPeer_peer_self, spoiled, Part.withPeer_mapPeer]
  split
  · rw [Part.withPeer_mapPeer, ← pnl]
    rfl
  · rfl

theorem Part.takeTalkFlag_bad {x : RxParcel} (notice : x.kind = .notice) (p : Part) (s : Station) :
    p.takeTalkFlag s x none = p := by
  simp [Part.takeTalkFlag, notice]

theorem Part.takeTalkFlag_good {x : RxParcel} (notice : x.kind = .notice) (v : NoticeValues) (p : Part) (s : Station)
    (r : PeerRecord) : (p.withPeer s r).takeTalkFlag s x (some v) =
      p.withPeer s { r with talkActive := match v.announced.talkDestination with
        | some d => decide (d = 0 ∨ d = p.sul.own.number)
        | none => false } := by
  have flag : (p.withPeer s r).talkFlagAnnounced v = match v.announced.talkDestination with
      | some d => decide (d = 0 ∨ d = p.sul.own.number)
      | none => false := by
    unfold Part.talkFlagAnnounced
    cases v.announced.talkDestination with
    | none => rfl
    | some d => exact Bool.eq_iff_iff.mpr (by simp [Part.addressed, Part.withPeer, or_comm])
  simp only [Part.takeTalkFlag, notice, Part.withPeer_mapPeer, flag]

/-! ## A NOTICE as a whole (R26) -/

theorem Part.takeParcel_notice {x : RxParcel} (notice : x.kind = .notice) {p : Part} {v : Option NoticeValues}
    (value : goodNotice x.notice = v) (same : p.serialChange x.source v = p) (st : ArrivalStamp) :
    p.takeParcel x st =
      let q := p.takePresence x.source x.sequence st.sc
      let q := if (p.peer x.source).state = .absent then q else q.mapPeer x.source (PeerRecord.account x.sequence)
      let q := if x.resync then q.takeResync x.source else q
      ((q.takeNotice x.source v).takeTalkFlag x.source x v).takeOffset x.source st x.stamp := by
  have lag (q : Part) : q.takeLag x.source x st = q := if_neg (by simp [notice])
  have blocks (q : Part) : q.takeBlocks x.source x = q := if_pos notice
  simp only [Part.takeParcel, notice, if_true, value, same, lag, blocks, decide_eq_true_eq]

section
variable {p : Part} (s : Station) (sc : SampleCount)

theorem Part.returned_reports : p.OnlyReports (p.returned s sc) := by
  unfold Part.returned
  split
  · exact (Part.OnlyReports.emit _ p).trans (.endFault _ _)
  · exact .refl p

theorem Part.returned_faults : (p.returned s sc).faults =
    if (p.peer s).state = .lapsed then (p.endFault (peerLapsedKey s)).faults else p.faults := by
  unfold Part.returned
  split <;> rfl

/-- The part as presence, sequence and RESYNC leave it, the record of the station apart. -/
def Part.heardFrom (resync : Bool) (p : Part) : Part :=
  { p.returned s sc with moment := if resync then p.moment.overtaken s (p.peer s) else p.moment }

/-- Steps 1 to 3 of R26 on a known record. -/
theorem Part.hear_known (known : (p.peer s).state ≠ .absent) (seq : SeqNo) (resync : Bool) :
    (let q := (p.takePresence s seq sc).mapPeer s (PeerRecord.account seq)
      if resync then q.takeResync s else q) =
      (p.heardFrom s sc resync).withPeer s ((p.peer s).heard sc seq resync) := by
  have moment := (p.returned_reports s sc).moment
  have seen : (((p.peer s).present sc).account seq).resyncSeen = (p.peer s).resyncSeen := by
    simp only [PeerRecord.account]
    split_ifs <;> rfl
  rw [Part.takePresence_known known, Part.withPeer_mapPeer, PeerRecord.heard_eq]
  cases resync with
  | false =>
    simp only [Part.heardFrom, Bool.false_eq_true, if_false, ← moment]
  | true =>
    simp only [Part.heardFrom, if_true, Part.takeResync_withPeer, Moment.overtaken, seen, moment]

end

theorem PeerRecord.measuredAt_congr {p q : Part} (liu : q.liu = p.liu) (tau : q.tau = p.tau) (sc stamp : SampleCount)
    (r : PeerRecord) : r.measuredAt q sc stamp = r.measuredAt p sc stamp := by
  simp only [PeerRecord.measuredAt, liu, tau]

theorem PeerRecord.heard_format (sc : SampleCount) (seq : SeqNo) (resync : Bool) (r : PeerRecord) :
    (r.heard sc seq resync).format = r.format := by
  rw [PeerRecord.heard_eq, PeerRecord.account]
  split_ifs <;> rfl

/-- What a good NOTICE leaves of a record, the offset apart (R28, R33, R34). -/
def PeerRecord.noticed (p : Part) (v : NoticeValues) (r : PeerRecord) : PeerRecord :=
  { r with
    state := if r.state = .joining then .present else r.state
    serial := some v.serial, announced := some v.announced, echoDelay := v.echoDelay
    talkActive := match v.announced.talkDestination with
      | some d => decide (d = 0 ∨ d = p.sul.own.number)
      | none => false }

/-- Steps 5 and 6 of R26 for a good NOTICE. -/
theorem Part.takeTalkFlag_takeOffset {x : RxParcel} (notice : x.kind = .notice) {p q : Part} (sul : q.sul = p.sul)
    (liu : q.liu = p.liu) (tau : q.tau = p.tau) (v : NoticeValues) (s : Station) (r : PeerRecord) (st : ArrivalStamp) :
    ((q.withPeer s r).takeTalkFlag s x (some v)).takeOffset s st x.stamp =
      q.withPeer s (PeerRecord.measuredAt p st.sc x.stamp { r with talkActive := match v.announced.talkDestination with
        | some d => decide (d = 0 ∨ d = p.sul.own.number)
        | none => false }) := by
  rw [Part.takeTalkFlag_good notice, Part.takeOffset_withPeer, PeerRecord.measuredAt_congr liu tau, sul]

section
variable {p : Part} {x : RxParcel} (notice : x.kind = .notice) (known : (p.peer x.source).state ≠ .absent)
  (st : ArrivalStamp)
include notice known

/-- The steps of a NOTICE after the first three. -/
theorem Part.takeParcel_knownNotice {v : Option NoticeValues} (value : goodNotice x.notice = v)
    (same : p.serialChange x.source v = p) :
    p.takeParcel x st =
      ((((p.heardFrom x.source st.sc x.resync).withPeer x.source
        ((p.peer x.source).heard st.sc x.sequence x.resync)).takeNotice x.source v).takeTalkFlag x.source x
          v).takeOffset x.source st x.stamp := by
  rw [← p.hear_known x.source st.sc known, Part.takeParcel_notice notice value same]
  simp only [known, if_false]

/-- A NOTICE of a known station that is not good. -/
theorem Part.takeParcel_badNotice (bad : goodNotice x.notice = none) :
    p.takeParcel x st = (p.heardFrom x.source st.sc x.resync).withPeer x.source
      (PeerRecord.measuredAt p st.sc x.stamp { (p.peer x.source).heard st.sc x.sequence x.resync with
        format := min ((p.peer x.source).format + 1) 65535 }) := by
  have reports := p.returned_reports x.source st.sc
  have measured := PeerRecord.measuredAt_congr (q := p.heardFrom x.source st.sc x.resync) reports.liu reports.tau
  rw [Part.takeParcel_knownNotice notice known st bad rfl, Part.takeNotice_bad, Part.takeTalkFlag_bad notice,
    Part.takeOffset_withPeer, measured, PeerRecord.heard_format]
  rfl

/-- A good NOTICE of a known station of the same serial. -/
theorem Part.takeParcel_goodNotice {v : NoticeValues} (good : goodNotice x.notice = some v)
    (same : p.serialChange x.source (some v) = p) :
    let q := p.heardFrom x.source st.sc x.resync
    let r := (p.peer x.source).heard st.sc x.sequence x.resync
    p.takeParcel x st = ({ q.announcing x.source r.announced v with
        pnl := if r.state = .joining then
            q.pnl.emit (peerReport ((q.announcing x.source r.announced v).withPeer x.source
              { r.announce v with state := .present }) x.source)
          else q.pnl } : Part).withPeer x.source (PeerRecord.measuredAt p st.sc x.stamp (r.noticed p v)) := by
  intro q r
  have reports := p.returned_reports x.source st.sc
  have sul : (q.announcing x.source r.announced v).sul = p.sul := by
    unfold Part.announcing
    split <;> exact reports.sul
  have liu : (q.announcing x.source r.announced v).liu = p.liu := by
    unfold Part.announcing
    split <;> exact reports.liu
  have tau : (q.announcing x.source r.announced v).tau = p.tau := by
    unfold Part.announcing
    split <;> exact reports.tau
  have pnl : (q.announcing x.source r.announced v).pnl = q.pnl := by
    unfold Part.announcing
    split <;> rfl
  rw [Part.takeParcel_knownNotice notice known st good same, Part.takeNotice_good]
  by_cases joining : r.state = .joining
  · rw [if_pos joining, if_pos joining, PeerRecord.noticed, if_pos joining]
    exact (Part.takeTalkFlag_takeOffset (p := p) notice (by exact sul) (by exact liu) (by exact tau) v x.source _
      st).trans rfl
  · rw [if_neg joining, if_neg joining, PeerRecord.noticed, if_neg joining, ← pnl]
    exact Part.takeTalkFlag_takeOffset notice sul liu tau v x.source _ st

end

/-! ## What the receiver's frame store does not touch -/

section
variable (p : Part) (l : Liu)

theorem Part.endFault_withLiu (k : FaultKey) :
    ({ p with liu := l } : Part).endFault k = { p.endFault k with liu := l } := by
  unfold Part.endFault
  split <;> rfl

theorem Part.endFaults_withLiu (ks : List FaultKey) :
    ({ p with liu := l } : Part).endFaults ks = { p.endFaults ks with liu := l } := by
  induction ks generalizing p with
  | nil => rfl
  | cons k ks ih =>
    change (({ p with liu := l } : Part).endFault k).endFaults ks = _
    rw [Part.endFault_withLiu, ih]
    rfl

variable {s : Station} (peer : s ≠ p.sul.own)
include peer

theorem peerReport_of_peer : peerReport p s = ⟨.peer, [peerPayload p s]⟩ := by
  rw [peerReport, if_neg peer]

theorem Part.returned_withLiu (sc : SampleCount) :
    ({ p with liu := l } : Part).returned s sc = { p.returned s sc with liu := l } := by
  have report (r : PeerRecord) : peerReport (({ p with liu := l } : Part).withPeer s r) s =
      peerReport (p.withPeer s r) s :=
    (peerReport_of_peer (({ p with liu := l } : Part).withPeer s r) peer).trans
      (peerReport_of_peer (p.withPeer s r) peer).symm
  unfold Part.returned
  simp only [report]
  by_cases lapsed : (p.peer s).state = .lapsed
  · rw [if_pos lapsed, ← Part.endFault_withLiu]
    exact if_pos lapsed
  · rw [if_neg lapsed]
    exact if_neg lapsed

theorem Part.heardFrom_withLiu (sc : SampleCount) (resync : Bool) :
    ({ p with liu := l } : Part).heardFrom s sc resync = { p.heardFrom s sc resync with liu := l } := by
  rw [Part.heardFrom, Part.returned_withLiu p l peer]
  rfl

theorem Part.removePeer_withLiu :
    ({ p with liu := l } : Part).removePeer s = { p.removePeer s with liu := l } := by
  have report : peerReport (({ p with liu := l } : Part).clearStation s) s = peerReport (p.clearStation s) s :=
    (peerReport_of_peer (({ p with liu := l } : Part).clearStation s) (by exact peer)).trans
      (peerReport_of_peer (p.clearStation s) (by exact peer)).symm
  rw [Part.removePeer, Part.emitPeer, report]
  exact Part.endFaults_withLiu ((p.clearStation s).emit (peerReport (p.clearStation s) s)) l _

end

/-! ## A NOTICE of an ABSENT station (R27) -/

section
variable {p : Part} (s : Station) (absent : (p.peer s).state = .absent)
include absent

/-- The part as the first parcel of a station leaves it, the record apart. -/
def Part.joinReported (s : Station) (r : PeerRecord) (p : Part) : Part :=
  { p with pnl := p.pnl.emit (peerReport (p.withPeer s r) s) }

/-- Steps 1 to 3 of R26 on an ABSENT record. -/
theorem Part.hear_absent (seq : SeqNo) (sc : SampleCount) (resync : Bool) :
    (if resync then (p.takePresence s seq sc).takeResync s else p.takePresence s seq sc) =
      (p.joinReported s (.created seq sc)).withPeer s { PeerRecord.created seq sc with
        resyncSeen := if resync then 200 else 0, reseed := resync } := by
  rw [Part.takePresence_absent absent]
  cases resync with
  | false => rfl
  | true => rw [if_pos rfl, Part.takeResync_withPeer]; rfl

end

theorem Part.takeParcel_absentNotice {p : Part} {x : RxParcel} (notice : x.kind = .notice) {v : Option NoticeValues}
    (value : goodNotice x.notice = v) (same : p.serialChange x.source v = p) (absent : (p.peer x.source).state = .absent)
    (st : ArrivalStamp) :
    p.takeParcel x st =
      ((((p.joinReported x.source (.created x.sequence st.sc)).withPeer x.source
        { PeerRecord.created x.sequence st.sc with
          resyncSeen := if x.resync then 200 else 0, reseed := x.resync }).takeNotice x.source v).takeTalkFlag x.source
            x v).takeOffset x.source st x.stamp := by
  rw [← Part.hear_absent x.source absent, Part.takeParcel_notice notice value same]
  simp only [absent, if_true]

/-- The first measurement of a record with no F (R38, R39). -/
theorem PeerRecord.measuredAt_first (p : Part) (sc stamp : SampleCount) {r : PeerRecord} (unmeasured : r.offset = none)
    (fresh : r.measurements = 0) (run : r.outlierRun = 0) :
    let measured := decide (p.liu.echoCount = 4 ∧ p.liu.echoDelay ≠ none ∧ r.echoDelay ≠ none ∧ p.tau.mode ≠ .free)
    let path := (p.liu.echoDelay.getD 0 + r.echoDelay.getD 0) / 2
    let raw := (sc + BitVec.ofInt 48 p.tau.correction - BitVec.ofNat 48 path - stamp).toInt
    r.measuredAt p sc stamp = { r with
      reseed := r.reseed && !measured
      offset := if measured then some (16 * max (-8388608) (min 8388607 raw)) else none
      measurements := if measured then 1 else 0 } := by
  intro measured path raw
  by_cases yes : measured = true
  · obtain ⟨valid, own, theirs, mode⟩ := of_decide_eq_true yes
    obtain ⟨e, own⟩ := Option.ne_none_iff_exists'.mp own
    obtain ⟨eb, theirs⟩ := Option.ne_none_iff_exists'.mp theirs
    have same : path = (e + eb) / 2 := by simp [path, own, theirs]
    have filtered : r.measuredAt p sc stamp = r.filtered (16 * max (-8388608) (min 8388607 raw)) := by
      rw [PeerRecord.measuredAt, own, theirs]
      exact (if_pos ⟨valid, mode⟩).trans (by rw [← same])
    simp only [filtered, PeerRecord.filtered, unmeasured, yes, if_true, Bool.not_true, Bool.and_false, ← run]
  · have unchanged : r.measuredAt p sc stamp = r := by
      unfold PeerRecord.measuredAt
      split
      next own theirs =>
        exact if_neg fun h => yes (decide_eq_true ⟨h.1, by simp [own], by simp [theirs], h.2⟩)
      next => rfl
    simp [unchanged, yes, ← unmeasured, ← fresh]

theorem Part.classify_peer {p : Part} {x : RxParcel} (peer : x.source ≠ p.sul.own) (st : ArrivalStamp) :
    p.classify x st = p.takeParcel x st := if_pos peer

theorem exec_linkRxframeRelease (bytes : List Byte) (s : State) :
    exec (.linkRxframeRelease bytes) s = .next (s.withPart (s.part.releaseFrame bytes)) := rfl

/-- A good frame of a peer, released. -/
theorem Part.releaseFrame_peer {p : Part} {st : ArrivalStamp} {bytes : List Byte} {x : RxParcel}
    (rx : p.liu.rx = some st) (outside : p.cap.station ≠ .loading)
    (good : goodFrame (decide (4641 < bytes.length)) (bytes.take 4641) = some x) (peer : x.source ≠ p.sul.own) :
    p.releaseFrame bytes = ({ p with liu := p.liu.collect bytes } : Part).takeParcel x st :=
  (Part.releaseFrame_good rx outside good).trans (Part.classify_peer (by exact peer) st)

/-- A record as a good NOTICE that is the station's first parcel leaves it, the flag and the offset apart. -/
def PeerRecord.entered (x : RxParcel) (v : NoticeValues) (sc : SampleCount) : PeerRecord :=
  { PeerRecord.created x.sequence sc with
    state := .present, serial := some v.serial, announced := some v.announced, echoDelay := v.echoDelay
    resyncSeen := if x.resync then 200 else 0, reseed := x.resync }

theorem Part.takeParcel_joins {p : Part} {x : RxParcel} (notice : x.kind = .notice) {v : NoticeValues}
    (value : goodNotice x.notice = some v) (cleared : p.peer x.source = PeerRecord.cleared) (st : ArrivalStamp) :
    p.takeParcel x st = ({ p with
      pnl := (p.pnl.emit (peerReport (p.withPeer x.source (.created x.sequence st.sc)) x.source)).emit
        (peerReport (p.withPeer x.source (.entered x v st.sc)) x.source) } : Part).withPeer x.source
      (PeerRecord.measuredAt p st.sc x.stamp { PeerRecord.entered x v st.sc with
        talkActive := match v.announced.talkDestination with
          | some d => decide (d = 0 ∨ d = p.sul.own.number)
          | none => false }) := by
  have same : p.serialChange x.source (some v) = p := by simp [Part.serialChange, cleared, PeerRecord.cleared]
  have absent : (p.peer x.source).state = .absent := by rw [cleared]; rfl
  rw [Part.takeParcel_absentNotice notice value same absent, Part.takeNotice_good, if_pos (by rfl)]
  exact (Part.takeTalkFlag_takeOffset (p := p) notice (by rfl) (by rfl) (by rfl) v x.source _ st).trans rfl

theorem Part.takeParcel_badJoins {p : Part} {x : RxParcel} (notice : x.kind = .notice)
    (bad : goodNotice x.notice = none) (absent : (p.peer x.source).state = .absent) (st : ArrivalStamp) :
    p.takeParcel x st = (p.joinReported x.source (.created x.sequence st.sc)).withPeer x.source
      { PeerRecord.created x.sequence st.sc with
        format := 1, resyncSeen := if x.resync then 200 else 0, reseed := x.resync } := by
  rw [Part.takeParcel_absentNotice notice bad rfl absent, Part.takeNotice_bad, Part.takeTalkFlag_bad notice,
    Part.takeOffset_withPeer]
  have unmeasured (q : Part) (r : PeerRecord) (h : r.echoDelay = none) : r.measuredAt q st.sc x.stamp = r := by
    rw [PeerRecord.measuredAt, h]
    split <;> simp_all
  rw [unmeasured _ _ (by rfl)]
  rfl

section
variable (p : Part) (s : Station) (sc : SampleCount)

/-- Steps 1 to 3 of R26 on a known record, the record apart: the return of a LAPSED one and the tick overtaken. -/
theorem Part.heardFrom_eq (resync : Bool) :
    p.heardFrom s sc resync = { p with
      faults := if (p.peer s).state = .lapsed then (p.endFault ⟨.peerLapsed, .station s⟩).faults else p.faults
      pnl := (p.returned s sc).pnl
      moment := if resync = true ∧ (p.peer s).resyncSeen = 1 ∧ p.moment.due (.resyncSeen s) then
          p.moment.took (.resyncSeen s)
        else p.moment } := by
  have reports := p.returned_reports s sc
  have moment : (if resync then p.moment.overtaken s (p.peer s) else p.moment) =
      if resync = true ∧ (p.peer s).resyncSeen = 1 ∧ p.moment.due (.resyncSeen s) then p.moment.took (.resyncSeen s)
      else p.moment := by
    cases resync <;> simp [Moment.overtaken]
  exact Part.eq_of_fields reports.sul reports.settings reports.liu reports.ptb reports.tau reports.cap reports.ast
    reports.plu reports.mxe reports.imn (p.returned_faults s sc) rfl moment

theorem Part.returned_eq (peer : s ≠ p.sul.own) : p.returned s sc = if (p.peer s).state = .lapsed then
    ({ p with pnl := p.pnl.emit ⟨.peer, [peerPayload (p.withPeer s
      { p.peer s with state := .present, lastHeard := sc, quietCount := 0 }) s]⟩ } : Part).endFault
      ⟨.peerLapsed, .station s⟩ else p := by
  unfold Part.returned
  by_cases lapsed : (p.peer s).state = .lapsed
  · rw [if_pos lapsed, if_pos lapsed, PeerRecord.present, if_pos lapsed, peerReport_of_peer _ (by exact peer)]
    rfl
  · rw [if_neg lapsed, if_neg lapsed]

end

/-- The digest entries of a station after a good NOTICE (R173). -/
theorem Part.announcing_digest (p : Part) (s : Station) (held : Option Announced) (v : NoticeValues) :
    (p.announcing s held v).imn[s] = (match held with
      | some a => if a.laneCount = v.announced.laneCount then p.imn[s] else
          { p.imn[s] with entries := p.imn[s].entries.map fun e => { e with spoiled := true } }
      | none => p.imn[s]) ∧
    (∀ y : Station, y ≠ s → (p.announcing s held v).imn[y] = p.imn[y]) := by
  cases held with
  | none => exact ⟨rfl, fun _ _ => rfl⟩
  | some a =>
    by_cases same : a.laneCount = v.announced.laneCount
    · simp [Part.announcing, laneCountChanges, same]
    · have changed : p.announcing s (some a) v = p.spoilDigest s := if_pos (by simp [laneCountChanges, same])
      rw [changed]
      refine ⟨?_, fun y hy => (vmodify_get ..).trans (if_neg hy.symm)⟩
      exact (vmodify_get_self ..).trans (if_neg same).symm

theorem Part.announcing_eq (p : Part) (s : Station) (held : Option Announced) (v : NoticeValues) :
    p.announcing s held v = { p with imn := (p.announcing s held v).imn } := by
  unfold Part.announcing
  split <;> rfl

/-- A NOTICE of the serial held, or of one not yet heard, removes nothing (R32). -/
theorem Part.serialChange_same {p : Part} {s : Station} {v : NoticeValues}
    (h : (p.peer s).serial = none ∨ (p.peer s).serial = some v.serial) : p.serialChange s (some v) = p := by
  rcases h with h | h <;> simp [Part.serialChange, h]

theorem Part.serialChange_new {p : Part} {s : Station} {v : NoticeValues} {held : Serial}
    (h : (p.peer s).serial = some held) (new : held ≠ v.serial) : p.serialChange s (some v) = p.removePeer s := by
  simp [Part.serialChange, h, new.symm]

/-- A NOTICE of a new serial is taken on the record removed (R32). -/
theorem Part.takeParcel_replaces {p : Part} {x : RxParcel} (notice : x.kind = .notice) {v : NoticeValues}
    (value : goodNotice x.notice = some v) {held : Serial} (h : (p.peer x.source).serial = some held)
    (new : held ≠ v.serial) (st : ArrivalStamp) : p.takeParcel x st = (p.removePeer x.source).takeParcel x st := by
  have removed : ((p.removePeer x.source).peer x.source).serial = none := by
    rw [Part.peer, (p.removePeer_reports x.source).ptb]
    exact congrArg PeerRecord.serial ((p.clearStation_peer x.source x.source).trans (if_pos rfl))
  have once : (p.removePeer x.source).serialChange x.source (some v) = p.removePeer x.source :=
    Part.serialChange_same (.inl removed)
  simp only [Part.takeParcel, notice, if_true, value, Part.serialChange_new h new, once]

theorem peerPayload_congr {p q : Part} {s : Station} (peer : q.peer s = p.peer s) (plu : q.plu = p.plu)
    (mxe : q.mxe = p.mxe) (run : q.imn[s].mismatchRun = p.imn[s].mismatchRun)
    (suspect : q.imn[s].suspect = p.imn[s].suspect) (outcome : q.imn[s].outcome = p.imn[s].outcome) :
    peerPayload q s = peerPayload p s := by
  unfold peerPayload
  rw [peer, plu, mxe]
  dsimp only
  rw [run, suspect, outcome]

/-- Spoiling entries shows in no PEER report: a report carries the run, the flag and the outcome (R196). -/
theorem peerReport_announcing (p : Part) {s : Station} (peer : s ≠ p.sul.own) (held : Option Announced)
    (v : NoticeValues) (r : PeerRecord) :
    peerReport ((p.announcing s held v).withPeer s r) s = ⟨.peer, [peerPayload (p.withPeer s r) s]⟩ := by
  have sul : (p.announcing s held v).sul = p.sul := by rw [Part.announcing_eq]
  have digest : (p.announcing s held v).imn[s].mismatchRun = p.imn[s].mismatchRun ∧
      (p.announcing s held v).imn[s].suspect = p.imn[s].suspect ∧
      (p.announcing s held v).imn[s].outcome = p.imn[s].outcome := by
    rw [(p.announcing_digest s held v).1]
    split
    · split <;> exact ⟨rfl, rfl, rfl⟩
    · exact ⟨rfl, rfl, rfl⟩
  obtain ⟨run, suspect, outcome⟩ := digest
  rw [peerReport_of_peer ((p.announcing s held v).withPeer s r) (by rw [← sul] at peer; exact peer)]
  refine congrArg (fun b => (⟨.peer, [b]⟩ : Report)) (peerPayload_congr ?_ ?_ ?_ run suspect outcome)
  · rw [Part.withPeer_peer_self, Part.withPeer_peer_self]
  · rw [Part.announcing_eq]; rfl
  · rw [Part.announcing_eq]; rfl

theorem PeerRecord.heard_state (sc : SampleCount) (seq : SeqNo) (resync : Bool) (r : PeerRecord) :
    (r.heard sc seq resync).state = .joining ↔ r.state = .joining := by
  cases state : r.state <;> simp [PeerRecord.heard, state]

/-- Settles O25: a NOTICE of an unknown, a known, a replaced station, good or not. -/
theorem noticeArrivalsUpdateTheRecord : Obligations.NoticeArrivalsUpdateTheRecord := by
  refine ⟨?_, ?_, ?_⟩
  · intro s st bytes x v rx outside good notice value peer cleared measured path raw talk joined entered withRecord
    let p : Part := { s.part with liu := s.part.liu.collect bytes }
    have whole := (Part.releaseFrame_peer rx outside good peer).trans
      (Part.takeParcel_joins (p := p) notice value (by exact cleared) st)
    have report (r : PeerRecord) : peerReport (p.withPeer x.source r) x.source =
        ⟨.peer, [peerPayload (withRecord r) x.source]⟩ := peerReport_of_peer (p.withPeer x.source r) peer
    rw [report, report] at whole
    refine ⟨_, next_withPart s whole, ?_, fun y hy => Part.withPeer_peer_other _ _ _ hy, rfl, rfl⟩
    rw [Part.withPeer_peer_self]
    exact PeerRecord.measuredAt_first p st.sc x.stamp rfl rfl rfl
  · intro s st bytes x rx outside good notice peer known r heard overtaken report returned frame
    let p : Part := { s.part with liu := s.part.liu.collect bytes }
    have start := Part.releaseFrame_peer rx outside good peer
    have from_ : p.heardFrom x.source st.sc x.resync = { s.part.heardFrom x.source st.sc x.resync with
        liu := s.part.liu.collect bytes } := Part.heardFrom_withLiu s.part _ peer st.sc x.resync
    have reports : returned.pnl = (s.part.returned x.source st.sc).pnl := by
      rw [s.part.returned_eq x.source st.sc peer]
      rfl
    rw [s.part.heardFrom_eq] at from_
    refine ⟨fun bad => ?_, fun v value serial => ?_, fun v value serial => ?_, fun v held value serial new => ?_⟩
    · have whole := start.trans (Part.takeParcel_badNotice (p := p) notice (by exact known) st bad)
      rw [from_] at whole
      refine ⟨_, next_withPart s whole, rfl, Part.withPeer_peer_self _ _ _,
        fun y hy => Part.withPeer_peer_other _ _ _ hy, rfl, reports.symm⟩
    · have whole := start.trans (Part.takeParcel_goodNotice (p := p) notice (by exact known) st value
        (Part.serialChange_same (by exact serial)))
      rw [from_, Part.announcing_eq] at whole
      have digest := Part.announcing_digest { p.heardFrom x.source st.sc x.resync with imn := s.part.imn } x.source
        r.announced v
      rw [from_] at digest
      exact ⟨_, next_withPart s whole, rfl, Part.withPeer_peer_self _ _ _,
        fun y hy => ⟨Part.withPeer_peer_other _ _ _ hy, digest.2 y hy⟩, digest.1⟩
    · have whole := start.trans (Part.takeParcel_goodNotice (p := p) notice (by exact known) st value
        (Part.serialChange_same (by exact serial)))
      refine ⟨_, next_withPart s whole, ?_⟩
      by_cases joining : r.state = .joining
      · have present : ¬(p.peer x.source).state = .lapsed := by
          change ¬r.state = .lapsed
          simp [joining]
        rw [if_pos joining]
        refine (if_pos ((PeerRecord.heard_state ..).mpr joining)).trans ?_
        rw [peerReport_announcing _ (by rw [from_]; exact peer), from_, ← reports]
        exact congrArg (fun q : Part => q.pnl.emit _) (if_neg present)
      · rw [if_neg joining, reports]
        refine (if_neg fun h => joining ((PeerRecord.heard_state ..).mp h)).trans ?_
        rw [from_]
    · rw [exec_linkRxframeRelease, exec_linkRxframeRelease, State.withPart_part, State.withPart_withPart]
      refine next_withPart s (start.trans ?_)
      rw [Part.takeParcel_replaces (p := p) notice value serial new]
      have reports := s.part.removePeer_reports x.source
      refine .trans ?_ (Part.releaseFrame_peer (p := s.part.removePeer x.source) (st := st) (by rw [reports.liu]; exact rx)
        (by rw [reports.cap]; exact outside) good (by rw [reports.sul]; exact peer)).symm
      refine congrArg (Part.takeParcel x st) ((Part.removePeer_withLiu s.part _ peer).trans ?_)
      rw [reports.liu]
      rfl
  · intro s st bytes x rx outside good notice bad peer absent joined withRecord
    let p : Part := { s.part with liu := s.part.liu.collect bytes }
    have whole := (Part.releaseFrame_peer rx outside good peer).trans
      (Part.takeParcel_badJoins (p := p) notice bad (by exact absent) st)
    refine next_withPart s (whole.trans ?_)
    rw [Part.joinReported, peerReport_of_peer _ (by exact peer)]
    rfl

end Sys2Proof.Machine

/-! # Admission to the Alignment Store, block by block. -/

namespace Sys2Proof.Machine

/-! ## Look-ups after a fill and after a buffer taken -/

/-- What the store holds of a lane, through the look-up of its buffer. -/
theorem Ast.lane_eq (a : Ast) (s : Station) (b : BlockNo) (k : LaneNo) :
    a.lane s b k = (a.find s b).bind fun x => x.lanes[k] := by
  unfold Ast.lane
  cases a.find s b <;> rfl

theorem Ast.find_key {a : Ast} {s : Station} {b : BlockNo} {x : Buffer} (h : a.find s b = some x) :
    x.key = bufferKey s b := by
  simpa using List.find?_some h

theorem Ast.lane_fill_self {a : Ast} {s : Station} {b : BlockNo} {k : LaneNo} (held : a.find s b ≠ none)
    (absent : a.lane s b k = none) (x : StoredLane) : (a.fill s b k x).lane s b k = some x := by
  obtain ⟨y, hy⟩ := Option.ne_none_iff_exists'.mp held
  rw [Ast.lane_eq, hy] at absent
  rw [Ast.lane_eq, Ast.find_fill, hy]
  simp only [Option.map_some, Option.bind_some, Ast.find_key hy, if_true, Buffer.fill, vmodify_get_self] at absent ⊢
  rw [absent]
  rfl

theorem Ast.lane_fill_other {a : Ast} {s : Station} {b : BlockNo} {k : LaneNo} (x : StoredLane) {z : Station}
    {n : BlockNo} {j : LaneNo} (other : z = s → n = b → j ≠ k) : (a.fill s b k x).lane z n j = a.lane z n j := by
  rw [Ast.lane_eq, Ast.lane_eq, Ast.find_fill]
  cases hy : a.find z n with
  | none => rfl
  | some y =>
    simp only [Option.map_some, Option.bind_some, Ast.find_key hy, bufferKey_inj]
    split
    · next same =>
      simp only [Buffer.fill]
      rw [vmodify_get, if_neg (other same.1 same.2).symm]
    · rfl

/-- Filing puts the buffer somewhere among the others. -/
theorem fileBuffer_eq_append (x : Buffer) (ys : List Buffer) :
    ∃ l r, ys = l ++ r ∧ fileBuffer x ys = l ++ x :: r := by
  induction ys with
  | nil => exact ⟨[], [], rfl, rfl⟩
  | cons y ys ih =>
    unfold fileBuffer
    split
    · exact ⟨[], y :: ys, rfl, rfl⟩
    · obtain ⟨l, r, rfl, filed⟩ := ih
      exact ⟨y :: l, r, rfl, congrArg (y :: ·) filed⟩

/-- A look-up in a list with one entry put in finds that entry, or what it found before. -/
theorem find?_insert {α : Type} {p : α → Bool} {x : α} {l r : List α} (new : p x = true → ∀ y ∈ l ++ r, p y = false) :
    (l ++ x :: r).find? p = if p x = true then some x else (l ++ r).find? p := by
  rw [List.find?_append, List.find?_append, List.find?_cons]
  cases hx : p x with
  | false => simp
  | true =>
    have none : l.find? p = Option.none := List.find?_eq_none.mpr fun y hy => by
      rw [new hx y (List.mem_append_left _ hy)]
      exact Bool.false_ne_true
    rw [none]
    rfl

theorem Ast.find_take {a : Ast} {s : Station} {b : BlockNo} (new : a.find s b = none) (z : Station) (n : BlockNo) :
    (a.take s b).find z n = if z = s ∧ n = b then some (Buffer.empty s b) else a.find z n := by
  have keys := (a.find_eq_none s b).mp new
  obtain ⟨l, r, before, filed⟩ := fileBuffer_eq_append (Buffer.empty s b) a.buffers
  have hit : ((Buffer.empty s b).key == bufferKey z n) = true ↔ z = s ∧ n = b := by
    rw [beq_iff_eq, Buffer.key_empty, bufferKey_inj, eq_comm (a := s), eq_comm (a := b)]
  unfold Ast.find Ast.take
  rw [filed, before, find?_insert fun found y hy => ?_]
  · exact if_congr hit rfl rfl
  · obtain ⟨rfl, rfl⟩ := hit.mp found
    exact beq_eq_false_iff_ne.mpr (keys y (before ▸ hy))

/-- A buffer as taken holds nothing, as none held nothing. -/
theorem Ast.lane_take {a : Ast} {s : Station} {b : BlockNo} (new : a.find s b = none) (z : Station) (n : BlockNo)
    (k : LaneNo) : (a.take s b).lane z n k = a.lane z n k := by
  rw [Ast.lane_eq, Ast.lane_eq, Ast.find_take new]
  split
  · next same =>
    rw [same.1, same.2, new]
    simp [Buffer.empty]
  · rfl

theorem Ast.find_of_lane {a : Ast} {s : Station} {b : BlockNo} {k : LaneNo} (h : (a.lane s b k).isSome = true) :
    a.find s b ≠ none := by
  intro none
  simp [Ast.lane_eq, none] at h

/-! ## What the Integrity Monitor is told -/

theorem vmodify_vmodify {α : Type} {n : Nat} (v : Vector α n) (i : Fin n) (f g : α → α) :
    vmodify (vmodify v i f) i g = vmodify v i (fun x => g (f x)) := by
  simp [vmodify]

theorem Part.mapDigest_mapDigest (s : Station) (f g : DigestRecord → DigestRecord) (p : Part) :
    (p.mapDigest s f).mapDigest s g = p.mapDigest s fun d => g (f d) := by
  simp only [Part.mapDigest, vmodify_vmodify]

theorem Part.mapDigest_id (s : Station) (p : Part) : p.mapDigest s (fun d => d) = p := by
  simp [Part.mapDigest, vmodify]

theorem DigestRecord.atBlock_id (b : BlockNo) (d : DigestRecord) : d.atBlock b (fun e => e) = d := by
  simp [DigestRecord.atBlock]

theorem DigestRecord.atBlock_atBlock (b : BlockNo) (f g : WindowEntry → WindowEntry) (d : DigestRecord)
    (same : ∀ e, (f e).window = e.window) : (d.atBlock b f).atBlock b g = d.atBlock b fun e => g (f e) := by
  simp only [DigestRecord.atBlock, List.map_map, DigestRecord.mk.injEq, and_true]
  refine List.map_congr_left fun e _ => ?_
  by_cases h : e.window = windowOf b
  · simp [h, same]
  · simp [h]

/-- An entry after the first fills of lanes of its blocks (R170). -/
def WindowEntry.filled (lanes : List (LaneNo × StoredLane)) (e : WindowEntry) : WindowEntry :=
  { e with
    sum := lanes.foldl (fun acc f => acc + sampleSum f.2.samples) e.sum
    fills := e.fills + lanes.length
    spoiled := e.spoiled || lanes.any fun f => f.2.resync }

/-- The lanes of a list that the digest counts: all but the talk lane. -/
def programmeOf (fs : List (LaneNo × StoredLane)) : List (LaneNo × StoredLane) := fs.filter fun f => f.1 ≠ talkLane

theorem WindowEntry.filled_nil (e : WindowEntry) : e.filled [] = e := by simp [WindowEntry.filled]

theorem WindowEntry.filled_cons (f : LaneNo × StoredLane) (fs : List (LaneNo × StoredLane)) (e : WindowEntry) :
    WindowEntry.filled (f :: fs) e = (e.filled [f]).filled fs := by
  simp [WindowEntry.filled, Bool.or_assoc]
  omega

/-- What a fill tells is the entry filled with the lane, if the lane is a programme lane. -/
theorem Part.tellFill_eq (s : Station) (b : BlockNo) (f : LaneNo × StoredLane) (p : Part) :
    p.tellFill s b f.1 f.2 = p.mapDigest s fun d => d.atBlock b (WindowEntry.filled (programmeOf [f])) := by
  unfold Part.tellFill
  by_cases talk : f.1 = talkLane
  · simp only [talk, if_true, programmeOf]
    congr 1
    funext d
    rw [List.filter_cons_of_neg (by simp [talk]), List.filter_nil]
    exact (congrArg (d.atBlock b) (funext WindowEntry.filled_nil)).trans (d.atBlock_id b) |>.symm
  · have one : programmeOf [f] = [f] := by simp [programmeOf, talk]
    simp only [talk, if_false, one]
    congr 1
    funext d
    congr 1
    funext e
    simp [WindowEntry.filled]

/-! ## The lanes of a block filled (R93, R95, R98) -/

/-- The lanes of a list that a peer's block does not hold yet. -/
def Ast.absentLanes (a : Ast) (s : Station) (b : BlockNo) (fs : List (LaneNo × StoredLane)) :
    List (LaneNo × StoredLane) := fs.filter fun f => (a.lane s b f.1).isNone

/-- A part after a block's lanes are filled: the store holds those it lacked, the digest entry of the window counts
them, and everything else stays. -/
structure Part.Filled (s : Station) (b : BlockNo) (fs : List (LaneNo × StoredLane)) (p t : Part) : Prop where
  frame : t = { p with
    ast := { p.ast with
      buffers := t.ast.buffers, free := if p.ast.find s b = none then p.ast.free - 1 else p.ast.free }
    imn := (p.mapDigest s fun d => d.atBlock b (.filled (programmeOf (p.ast.absentLanes s b fs)))).imn }
  total : t.ast.free + t.ast.buffers.length = p.ast.free + p.ast.buffers.length
  lanes : ∀ k : LaneNo, t.ast.lane s b k = match p.ast.lane s b k with
    | some held => some held
    | none => (fs.find? fun f => f.1 == k).map fun f => f.2
  others : ∀ (z : Station) (n : BlockNo) (k : LaneNo), z ≠ s ∨ n ≠ b → t.ast.lane z n k = p.ast.lane z n k

section
variable {s : Station} {b : BlockNo} {f : LaneNo × StoredLane} {p : Part}

theorem Part.fillLane_present (h : (p.ast.lane s b f.1).isSome = true) : p.fillLane s b f = p := if_pos h

theorem Part.fillLane_absent (h : p.ast.lane s b f.1 = none) : p.fillLane s b f =
    ({ p with ast := p.ast.fill s b f.1 f.2 } : Part).mapDigest s fun d => d.atBlock b (.filled (programmeOf [f])) := by
  rw [Part.fillLane, if_neg (by simp [h]), Part.tellFill_eq]

theorem Part.Filled.nil (held : p.ast.find s b ≠ none) : Part.Filled s b [] p p where
  frame := by
    have same : (p.mapDigest s fun d => d.atBlock b (.filled [])).imn = p.imn := by
      have unfilled : WindowEntry.filled [] = fun e => e := funext WindowEntry.filled_nil
      simp [Part.mapDigest, unfilled, DigestRecord.atBlock_id, vmodify]
    exact Part.eq_of_fields rfl rfl rfl rfl rfl rfl (by rw [if_neg held]) rfl rfl same.symm rfl rfl rfl
  total := rfl
  lanes k := by cases p.ast.lane s b k <;> rfl
  others _ _ _ _ := rfl

variable {fs : List (LaneNo × StoredLane)} {t : Part}

theorem Part.Filled.cons_present (h : (p.ast.lane s b f.1).isSome = true) (rest : Part.Filled s b fs p t) :
    Part.Filled s b (f :: fs) p t where
  frame := by
    have same : p.ast.absentLanes s b (f :: fs) = p.ast.absentLanes s b fs :=
      List.filter_cons_of_neg (by simpa using Option.isSome_iff_ne_none.mp h)
    rw [same]
    exact rest.frame
  total := rest.total
  lanes k := by
    by_cases this : f.1 = k
    · obtain ⟨held, eq⟩ := Option.isSome_iff_exists.mp h
      rw [rest.lanes, ← this, eq]
    · rw [rest.lanes, List.find?_cons_of_neg (by simpa using this)]
  others := rest.others

theorem programmeOf_cons (fs : List (LaneNo × StoredLane)) :
    programmeOf (f :: fs) = programmeOf [f] ++ programmeOf fs := List.filter_append [f] fs

theorem WindowEntry.filled_append (l r : List (LaneNo × StoredLane)) (e : WindowEntry) :
    WindowEntry.filled (l ++ r) e = (e.filled l).filled r := by
  simp [WindowEntry.filled, Bool.or_assoc]
  omega

theorem DigestRecord.atBlock_filled (b : BlockNo) (l r : List (LaneNo × StoredLane)) (d : DigestRecord) :
    (d.atBlock b (.filled l)).atBlock b (.filled r) = d.atBlock b (.filled (l ++ r)) :=
  (DigestRecord.atBlock_atBlock b (.filled l) (.filled r) d fun _ => rfl).trans
    (congrArg (d.atBlock b) (funext fun e => (WindowEntry.filled_append l r e).symm))

theorem Part.Filled.cons_absent (held : p.ast.find s b ≠ none) (h : p.ast.lane s b f.1 = none)
    (new : f.1 ∉ fs.map (·.1)) (rest : Part.Filled s b fs (p.fillLane s b f) t) :
    Part.Filled s b (f :: fs) p t := by
  have filled := Part.fillLane_absent h
  have lane (k : LaneNo) (other : k ≠ f.1) : (p.fillLane s b f).ast.lane s b k = p.ast.lane s b k := by
    rw [filled]
    exact Ast.lane_fill_other f.2 fun _ _ => other
  have still : (p.fillLane s b f).ast.find s b ≠ none := by
    rw [filled]
    simpa [Ast.find_fill] using held
  have first : (p.fillLane s b f).ast.absentLanes s b fs = p.ast.absentLanes s b fs := by
    refine List.filter_congr fun g hg => ?_
    rw [lane g.1 fun same => new (same ▸ List.mem_map_of_mem hg)]
  have this : (p.fillLane s b f).ast.lane s b f.1 = some f.2 := by
    rw [filled]
    exact Ast.lane_fill_self held h f.2
  have told : p.ast.absentLanes s b (f :: fs) = f :: p.ast.absentLanes s b fs :=
    List.filter_cons_of_pos (by simp [h])
  constructor
  case frame =>
    have frame := rest.frame
    rw [first, if_neg still, filled, Part.mapDigest_mapDigest] at frame
    rw [told, programmeOf_cons, if_neg held]
    simp only [DigestRecord.atBlock_filled] at frame
    exact frame
  case total =>
    rw [rest.total, filled]
    exact congrArg (p.ast.free + ·) (List.length_map _)
  case lanes =>
    intro k
    by_cases same : f.1 = k
    · rw [rest.lanes, ← same, this, h, List.find?_cons_of_pos (by simp)]
      rfl
    · rw [rest.lanes, lane k (Ne.symm same), List.find?_cons_of_neg (by simpa using same)]
  case others =>
    intro z n k other
    rw [rest.others z n k other, filled]
    refine Ast.lane_fill_other f.2 fun hz hn => ?_
    exact absurd hn (other.resolve_left (not_not.mpr hz))

theorem Part.fillLanes_filled (held : p.ast.find s b ≠ none) (nodup : (fs.map (·.1)).Nodup) :
    Part.Filled s b fs p (p.fillLanes s b fs) := by
  induction fs generalizing p with
  | nil => exact .nil held
  | cons f fs ih =>
    obtain ⟨new, nodup⟩ := List.nodup_cons.mp nodup
    change Part.Filled s b (f :: fs) p ((p.fillLane s b f).fillLanes s b fs)
    cases h : p.ast.lane s b f.1 with
    | some held_ =>
      have present : (p.ast.lane s b f.1).isSome = true := by rw [h]; rfl
      rw [Part.fillLane_present present]
      exact .cons_present present (ih held nodup)
    | none =>
      refine .cons_absent held h new (ih ?_ nodup)
      rw [Part.fillLane_absent h]
      simpa [Ast.find_fill] using held

/-- A buffer taken and then filled is filled as one held empty. -/
theorem Part.Filled.of_take (new : p.ast.find s b = none) (free : p.ast.free ≠ 0)
    (rest : Part.Filled s b fs { p with ast := p.ast.take s b } t) : Part.Filled s b fs p t := by
  have lane := Ast.lane_take new
  have held : (p.ast.take s b).find s b ≠ none := by simp [Ast.find_take new]
  have first : (p.ast.take s b).absentLanes s b fs = p.ast.absentLanes s b fs := by
    simp only [Ast.absentLanes, lane]
  constructor
  case frame =>
    have frame := rest.frame
    rw [first, if_neg held] at frame
    rw [if_pos new]
    exact frame
  case total =>
    rw [rest.total]
    simp only [Ast.take, fileBuffer_length]
    omega
  case lanes => exact fun k => by rw [rest.lanes, lane]
  case others => exact fun z n k other => by rw [rest.others z n k other, lane]

end

/-! ## One block admitted (R92 to R94, R97, R98) -/

/-- A part with a refusal of a block told to the Integrity Monitor (R171). -/
theorem Part.tellRefusal_eq (s : Station) (b : BlockNo) (p : Part) : p.tellRefusal s b = { p with
    imn := p.imn.set s.val { p.imn[s] with
      entries := p.imn[s].entries.map fun e => if e.window = b.toNat / 64 then { e with spoiled := true } else e }
      s.isLt } := rfl

section
variable {s : Station} {pb b : BlockNo} {p : Part} {fs : List (LaneNo × StoredLane)}

theorem Part.admitBlock_late (h : (b - pb).toInt < 0) : p.admitBlock s pb b fs =
    (p.withPeer s { p.peer s with late := min ((p.peer s).late + 1) 65535 }).tellRefusal s b := if_pos h

theorem Part.admitBlock_early (h : 1023 < (b - pb).toInt) : p.admitBlock s pb b fs =
    (p.withPeer s { p.peer s with early := min ((p.peer s).early + 1) 65535 }).tellRefusal s b :=
  (if_neg (by simp only [diff32]; omega)).trans (if_pos h)

section
variable (lo : 0 ≤ (b - pb).toInt) (hi : (b - pb).toInt ≤ 1023)
include lo hi

theorem Part.admitBlock_inside : p.admitBlock s pb b fs =
    if (p.ast.find s b).isSome then p.fillLanes s b fs
    else if p.ast.free = 0 then p.refuseFull s b
    else ({ p with ast := p.ast.take s b } : Part).fillLanes s b fs :=
  (if_neg (by simp only [diff32]; omega)).trans (if_neg (by simp only [diff32]; omega))

theorem Part.admitBlock_full (new : p.ast.find s b = none) (none : p.ast.free = 0) : p.admitBlock s pb b fs =
    (({ p with ast := { p.ast with
      storeFull := min (p.ast.storeFull + 1) 4294967295, quiet := 0 } } : Part).raiseFault ⟨.storeFull, .none⟩).tellRefusal
        s b := by
  rw [Part.admitBlock_inside lo hi, if_neg (by simp [new]), if_pos none]
  rfl

theorem Part.admitBlock_filled (room : p.ast.find s b ≠ none ∨ p.ast.free ≠ 0) (nodup : (fs.map (·.1)).Nodup) :
    Part.Filled s b fs p (p.admitBlock s pb b fs) := by
  rw [Part.admitBlock_inside lo hi]
  by_cases held : p.ast.find s b = none
  · have free := room.resolve_left (not_not.mpr held)
    rw [if_neg (by simp [held]), if_neg free]
    exact .of_take held free (Part.fillLanes_filled (by simp [Ast.find_take held]) nodup)
  · rw [if_pos (Option.isSome_iff_ne_none.mpr held)]
    exact Part.fillLanes_filled held nodup

end

/-- The buffers of other blocks stay, whatever becomes of a block. -/
theorem Part.admitBlock_others (nodup : (fs.map (·.1)).Nodup) {z : Station} {n : BlockNo} (other : z ≠ s ∨ n ≠ b)
    (k : LaneNo) : (p.admitBlock s pb b fs).ast.lane z n k = p.ast.lane z n k := by
  by_cases late : (b - pb).toInt < 0
  · rw [Part.admitBlock_late late]
    rfl
  · by_cases early : 1023 < (b - pb).toInt
    · rw [Part.admitBlock_early early]
      rfl
    · by_cases full : p.ast.find s b = none ∧ p.ast.free = 0
      · rw [Part.admitBlock_full (by omega) (by omega) full.1 full.2, Part.tellRefusal_ast, Part.raiseFault_ast]
        rfl
      · exact (Part.admitBlock_filled (by omega) (by omega) (by tauto) nodup).others z n k other

end

/-! ## The blocks of a parcel in order (R90, R93) -/

section
variable {s : Station} {pb : BlockNo} {x : RxParcel}

/-- The j-th block number of a parcel (R3). -/
def RxParcel.block (x : RxParcel) (j : Nat) : BlockNo := x.firstBlock + BitVec.ofNat 32 j

theorem RxParcel.block_inj {x : RxParcel} {i j : Nat} (hi : i < 2 ^ 32) (hj : j < 2 ^ 32) (h : x.block i = x.block j) :
    i = j := by
  have same := congrArg BitVec.toNat (add_left_cancel h)
  rwa [BitVec.toNat_ofNat, BitVec.toNat_ofNat, Nat.mod_eq_of_lt hi, Nat.mod_eq_of_lt hj] at same

theorem RxParcel.blocks_nodup (x : RxParcel) {n : Nat} (short : n ≤ 2 ^ 32) : ((List.range n).map x.block).Nodup :=
  List.Nodup.map_on (fun i hi j hj same => RxParcel.block_inj (by simp at hi; omega) (by simp at hj; omega) same)
    List.nodup_range

theorem RxParcel.fills_nodup (x : RxParcel) (resync : Bool) (j : Nat) : ((x.fills resync j).map (·.1)).Nodup := by
  unfold RxParcel.fills
  cases x.kind with
  | notice => exact List.nodup_nil
  | talk => exact List.nodup_singleton _
  | audio =>
    rw [List.map_map]
    refine List.Nodup.map (fun i k same => ?_) ((List.nodup_finRange 8).filter _)
    have lane : i.lane = k.lane := same
    exact Fin.ext (congrArg (fun k : LaneNo => k.val) lane)

/-- The blocks of a parcel, taken in order; a lane counts as found present where the store held it before them. -/
theorem Part.admitBlocks_eq (js : List Nat) (distinct : (js.map x.block).Nodup) (p : Part) (dup : Bool) :
    Part.admitBlocks s pb x js (p, dup) =
      (js.foldl (fun q j => q.admitBlock s pb (x.block j) (x.fills (p.tau.resyncTimer != 0) j)) p,
        dup || js.any fun j => p.blockDuplicates s pb (x.block j) (x.fills (p.tau.resyncTimer != 0) j)) := by
  induction js generalizing p dup with
  | nil => simp [Part.admitBlocks]
  | cons j js ih =>
    obtain ⟨new, distinct⟩ := List.nodup_cons.mp distinct
    refine (ih distinct _ _).trans ?_
    have tau := Part.admitBlock_tau s pb (x.block j) (x.fills (p.tau.resyncTimer != 0) j) p
    have others : ∀ i ∈ js, (p.admitBlock s pb (x.block j) (x.fills (p.tau.resyncTimer != 0) j)).blockDuplicates s pb
        (x.block i) (x.fills (p.tau.resyncTimer != 0) i) =
        p.blockDuplicates s pb (x.block i) (x.fills (p.tau.resyncTimer != 0) i) := by
      intro i hi
      have other : x.block i ≠ x.block j := fun same => new (same ▸ List.mem_map_of_mem hi)
      simp only [Part.blockDuplicates, Part.admitBlock_others (x.fills_nodup _ j) (.inr other)]
    rw [show x.firstBlock + BitVec.ofNat 32 j = x.block j from rfl, tau]
    have found : (js.any fun i => (p.admitBlock s pb (x.block j) (x.fills (p.tau.resyncTimer != 0) j)).blockDuplicates s
        pb (x.block i) (x.fills (p.tau.resyncTimer != 0) i)) =
        js.any fun i => p.blockDuplicates s pb (x.block i) (x.fills (p.tau.resyncTimer != 0) i) := by
      rw [Bool.eq_iff_iff, List.any_eq_true, List.any_eq_true]
      exact exists_congr fun i => and_congr_right fun hi => by rw [others i hi]
    simp only [List.foldl_cons, List.any_cons, Bool.or_assoc, found]

end

/-! ## Refusals and digests told for a whole parcel (R171, R172) -/

theorem DigestRecord.spoiledFor_cons (b : BlockNo) (bs : List BlockNo) (d : DigestRecord) :
    (d.atBlock b WindowEntry.spoil).spoiledFor bs = d.spoiledFor (b :: bs) := by
  simp only [DigestRecord.spoiledFor, DigestRecord.atBlock, List.map_map, DigestRecord.mk.injEq, and_true]
  refine List.map_congr_left fun e _ => ?_
  by_cases h : e.window = windowOf b
  · simp [h, WindowEntry.spoil, windowOf]
  · have other : (e.window == b.toNat / 64) = false := beq_eq_false_iff_ne.mpr h
    simp [h, other]

theorem Part.tellRefusals_eq (s : Station) (bs : List BlockNo) (p : Part) :
    p.tellRefusals s bs = p.mapDigest s (DigestRecord.spoiledFor bs) := by
  induction bs generalizing p with
  | nil =>
    have none : DigestRecord.spoiledFor [] = fun d => d := funext fun d => by simp [DigestRecord.spoiledFor]
    rw [none]
    exact (Part.mapDigest_id s p).symm
  | cons b bs ih =>
    refine (ih (p.tellRefusal s b)).trans ?_
    rw [Part.tellRefusal, Part.mapDigest_mapDigest]
    simp only [DigestRecord.spoiledFor_cons]

/-- The digest records as an AUDIO parcel's digest leaves that of its source. -/
def RxParcel.expect (x : RxParcel) (d : DigestRecord) : DigestRecord :=
  if x.digestPresent = true then d.expecting x.blockNumbers x.digest else d

/-- Of the blocks of a parcel at most one is the last of a window. -/
theorem RxParcel.last_unique {x : RxParcel} (short : x.span ≤ 64) {b c : BlockNo} (hb : b ∈ x.blockNumbers)
    (hc : c ∈ x.blockNumbers) (lb : b.toNat % 64 = 63) (lc : c.toNat % 64 = 63) : b = c := by
  obtain ⟨i, hi, rfl⟩ := List.mem_map.mp hb
  obtain ⟨j, hj, rfl⟩ := List.mem_map.mp hc
  simp only [List.mem_range] at hi hj
  have : i = j := by
    simp only [BitVec.toNat_add, BitVec.toNat_ofNat] at lb lc
    omega
  rw [this]

theorem DigestRecord.expecting_one {bs : List BlockNo} {b : BlockNo} (hb : b ∈ bs) (last : b.toNat % 64 = 63)
    (only : ∀ c ∈ bs, c.toNat % 64 = 63 → c = b) (digest : Sample) (d : DigestRecord) :
    d.expecting bs digest = d.atBlock b (·.takeDigest digest) := by
  have any (e : WindowEntry) : (bs.any fun c => c.toNat % 64 == 63 && e.window == c.toNat / 64) = true ↔
      e.window = windowOf b := by
    simp only [List.any_eq_true, Bool.and_eq_true, beq_iff_eq]
    constructor
    · rintro ⟨c, hc, lastc, window⟩
      rw [window, only c hc lastc, windowOf]
    · exact fun window => ⟨b, hb, last, window⟩
  refine congrArg (fun es => { d with entries := es }) (List.map_congr_left fun e _ => ?_)
  by_cases window : e.window = windowOf b
  · exact (if_pos ((any e).mpr window)).trans (if_pos window).symm
  · exact (if_neg (mt (any e).mp window)).trans (if_neg window).symm

theorem DigestRecord.expecting_none {bs : List BlockNo} (none : ∀ c ∈ bs, ¬c.toNat % 64 = 63) (digest : Sample)
    (d : DigestRecord) : d.expecting bs digest = d := by
  have any (e : WindowEntry) : (bs.any fun c => c.toNat % 64 == 63 && e.window == c.toNat / 64) = false := by
    refine List.any_eq_false.mpr fun c hc => ?_
    simp [none c hc]
  simp [DigestRecord.expecting, any]

theorem Part.takeParcelDigest_eq (s : Station) {x : RxParcel} (short : x.span ≤ 64) (p : Part) :
    p.takeParcelDigest s x = p.mapDigest s x.expect := by
  unfold Part.takeParcelDigest RxParcel.expect
  cases x.digestPresent with
  | false => exact (Part.mapDigest_id s p).symm
  | true =>
    simp only [if_true]
    split
    · next b found =>
      have last : b.toNat % 64 = 63 := by simpa using List.find?_some found
      have mem := List.mem_of_find?_eq_some found
      refine congrArg (p.mapDigest s) (funext fun d => ?_)
      exact (DigestRecord.expecting_one mem last (fun c hc lc => RxParcel.last_unique short hc mem lc last) _ d).symm
    · next none =>
      have none : ∀ c ∈ x.blockNumbers, ¬c.toNat % 64 = 63 := fun c hc => by
        simpa using List.find?_eq_none.mp none c hc
      simp only [DigestRecord.expecting_none none, Part.mapDigest_id]

end Sys2Proof.Machine

/-! # An AUDIO or a TALK parcel from a peer as a whole. -/

namespace Sys2Proof.Machine

/-! ## Steps 1 to 7 of R26 -/

/-- The record that a parcel finds: that of an ABSENT station is made as its first parcel makes it (R27). -/
def Part.foundRecord (x : RxParcel) (p : Part) : PeerRecord :=
  if (p.peer x.source).state = .absent then
    { PeerRecord.cleared with state := .joining, lastSequence := x.sequence - 1 }
  else p.peer x.source

/-- The part as presence, sequence and RESYNC leave it, the record of the source apart. -/
def Part.entered (x : RxParcel) (st : ArrivalStamp) (p : Part) : Part :=
  if (p.peer x.source).state = .absent then p.joinReported x.source (.created x.sequence st.sc)
  else p.heardFrom x.source st.sc x.resync

section
variable {p : Part} {x : RxParcel} (st : ArrivalStamp)

/-- The record of a first parcel, as one that just missed it would be left by it. -/
theorem PeerRecord.heard_first (sc : SampleCount) (seq : SeqNo) (resync : Bool) :
    PeerRecord.heard sc seq resync { PeerRecord.cleared with state := .joining, lastSequence := seq - 1 } =
      { PeerRecord.created seq sc with resyncSeen := if resync then 200 else 0, reseed := resync } := by
  have next : (seq.toNat + 65535 - (seq - 1).toNat) % 65536 = 0 := by bv_omega
  simp only [PeerRecord.heard, next]
  cases resync <;> rfl

theorem Part.hear_eq :
    (let q := p.takePresence x.source x.sequence st.sc
      let q := if (p.peer x.source).state = .absent then q else q.mapPeer x.source (PeerRecord.account x.sequence)
      if x.resync then q.takeResync x.source else q) =
      (p.entered x st).withPeer x.source ((p.foundRecord x).heard st.sc x.sequence x.resync) := by
  by_cases absent : (p.peer x.source).state = .absent
  · simp only [Part.entered, Part.foundRecord, if_pos absent, PeerRecord.heard_first]
    exact Part.hear_absent x.source absent x.sequence st.sc x.resync
  · simp only [Part.entered, Part.foundRecord, if_neg absent]
    exact p.hear_known x.source st.sc absent x.sequence x.resync

theorem Part.entered_keeps : (p.entered x st).sul = p.sul ∧ (p.entered x st).liu = p.liu ∧
    (p.entered x st).tau = p.tau := by
  unfold Part.entered
  split
  · exact ⟨rfl, rfl, rfl⟩
  · have reports := p.returned_reports x.source st.sc
    exact ⟨reports.sul, reports.liu, reports.tau⟩

theorem Part.takeTalkFlag_none (p : Part) (s : Station) (r : PeerRecord) (kind : x.kind ≠ .notice) :
    (p.withPeer s r).takeTalkFlag s x none = p.withPeer s { r with
      talkActive := if x.kind = ParcelKind.talk then
          decide ((x.destination = p.sul.own.number ∨ x.destination = 0) ∧ x.endFlag = false)
        else r.talkActive } := by
  unfold Part.takeTalkFlag
  cases h : x.kind with
  | notice => exact absurd h kind
  | audio => rfl
  | talk =>
    have flag : (p.withPeer s r).talkFlagAfter x =
        decide ((x.destination = p.sul.own.number ∨ x.destination = 0) ∧ x.endFlag = false) := by
      rw [Bool.eq_iff_iff]
      simp [Part.talkFlagAfter, Part.addressed, Part.withPeer]
    simp only [Part.withPeer_mapPeer, flag, if_true]

theorem Part.takeLag_withPeer (p : Part) (s : Station) (r : PeerRecord) (kind : x.kind ≠ .notice) :
    (p.withPeer s r).takeLag s x st = p.withPeer s (r.laggedAt p st.sc x.firstBlock x.span) := by
  unfold Part.takeLag PeerRecord.laggedAt
  simp only [Part.withPeer_peer_self, Part.withPeer_mapPeer, ne_eq, kind, not_false_eq_true, true_and]
  by_cases allowed : p.tau.mode.settled = true ∧ r.settled = true
  · exact (if_pos allowed).trans (by rw [if_pos allowed]; rfl)
  · exact (if_neg allowed).trans (by rw [if_neg allowed])

theorem PeerRecord.laggedAt_congr {p q : Part} (tau : q.tau = p.tau) (sc : SampleCount) (b : BlockNo) (span : Nat)
    (r : PeerRecord) : r.laggedAt q sc b span = r.laggedAt p sc b span := by
  simp only [PeerRecord.laggedAt, tau]

/-- An AUDIO or TALK: steps 1 to 7 of R26 on the record, then admission and digest. -/
theorem Part.takeParcel_blocks (kind : x.kind ≠ .notice) :
    p.takeParcel x st = (((p.entered x st).withPeer x.source ((p.foundRecord x).afterParcel p x st)).admitParcel
      x.source x).takeParcelDigest x.source x := by
  obtain ⟨sul, liu, tau⟩ := Part.entered_keeps (p := p) (x := x) st
  have blocks (q : Part) : q.takeBlocks x.source x = (q.admitParcel x.source x).takeParcelDigest x.source x :=
    if_neg kind
  have same : p.serialChange x.source none = p := rfl
  have heard := Part.hear_eq (p := p) (x := x) st
  simp only [Part.takeParcel, kind, if_false, same, decide_eq_true_eq, blocks]
  dsimp only at heard
  rw [heard, Part.takeTalkFlag_none _ _ _ kind, Part.takeOffset_withPeer, Part.takeLag_withPeer _ _ _ _ kind,
    PeerRecord.measuredAt_congr liu tau, PeerRecord.laggedAt_congr tau, sul]
  have flag : ((p.foundRecord x).heard st.sc x.sequence x.resync).talkActive = (p.foundRecord x).talkActive := rfl
  rw [flag]
  rfl

end

/-! ## What admission leaves (R90 to R98) -/

/-- From p to q only a peer's record and digest record, the store, the faults and the reports have moved. -/
structure Part.Admitted (s : Station) (p q : Part) : Prop where
  frame : q = { p with
    ptb := { p.ptb with records := q.ptb.records }
    ast := q.ast, imn := q.imn, faults := q.faults, pnl := p.pnl.withReports q.pnl }
  peers : ∀ y : Station, y ≠ s → q.peer y = p.peer y
  digests : ∀ y : Station, y ≠ s → q.imn[y] = p.imn[y]

namespace Part.Admitted
variable {s : Station} {p q r : Part}

theorem refl (p : Part) : Part.Admitted s p p := ⟨rfl, fun _ _ => rfl, fun _ _ => rfl⟩

theorem trans (h : Part.Admitted s p q) (h' : Part.Admitted s q r) : Part.Admitted s p r where
  frame := by
    refine h'.frame.trans ?_
    rw [h.frame]
    rfl
  peers y hy := (h'.peers y hy).trans (h.peers y hy)
  digests y hy := (h'.digests y hy).trans (h.digests y hy)

theorem withPeer (v : PeerRecord) (p : Part) : Part.Admitted s p (p.withPeer s v) :=
  ⟨rfl, fun _ hy => Part.withPeer_peer_other _ _ _ hy, fun _ _ => rfl⟩

theorem mapDigest (f : DigestRecord → DigestRecord) (p : Part) : Part.Admitted s p (p.mapDigest s f) :=
  ⟨rfl, fun _ _ => rfl, fun _ hy => (vmodify_get ..).trans (if_neg (Ne.symm hy))⟩

theorem store (a : Ast) (p : Part) : Part.Admitted s p { p with ast := a } :=
  ⟨rfl, fun _ _ => rfl, fun _ _ => rfl⟩

theorem raiseFault (k : FaultKey) (p : Part) : Part.Admitted s p (p.raiseFault k) := by
  have reports : p.OnlyReports (p.raiseFault k) := .raiseFault k p
  refine ⟨?_, fun y _ => congrArg (fun t : PeerTable => t.records[y]) reports.ptb, fun y _ => by rw [reports.imn]⟩
  exact Part.eq_of_fields reports.sul reports.settings reports.liu (by rw [reports.ptb]) reports.tau reports.cap rfl
    reports.plu reports.mxe rfl rfl reports.pnl reports.moment

theorem filled {b : BlockNo} {fs : List (LaneNo × StoredLane)} (h : Part.Filled s b fs p q) : Part.Admitted s p q where
  frame := by
    rw [h.frame]
    rfl
  peers y _ := by
    rw [h.frame]
    rfl
  digests y hy := by
    rw [h.frame]
    exact (vmodify_get ..).trans (if_neg (Ne.symm hy))

theorem admitBlock (pb b : BlockNo) {fs : List (LaneNo × StoredLane)} (nodup : (fs.map (·.1)).Nodup) (p : Part) :
    Part.Admitted s p (p.admitBlock s pb b fs) := by
  by_cases late : (b - pb).toInt < 0
  · rw [Part.admitBlock_late late]
    exact (withPeer _ p).trans (mapDigest _ _)
  · by_cases early : 1023 < (b - pb).toInt
    · rw [Part.admitBlock_early early]
      exact (withPeer _ p).trans (mapDigest _ _)
    · by_cases full : p.ast.find s b = none ∧ p.ast.free = 0
      · rw [Part.admitBlock_full (by omega) (by omega) full.1 full.2]
        exact ((store _ p).trans (raiseFault _ _)).trans (mapDigest _ _)
      · exact filled (Part.admitBlock_filled (by omega) (by omega) (by tauto) nodup)

end Part.Admitted

/-! ## The tests of admission (R90, R96) -/

/-- The blocks of a parcel admitted in order, each on the store as the one before left it. -/
def Part.admitAll (s : Station) (pb : BlockNo) (x : RxParcel) (fills : Nat → List (LaneNo × StoredLane)) (p : Part) :
    Part := (List.range x.span).foldl (fun q j => q.admitBlock s pb (x.block j) (fills j)) p

/-- A duplicate counted (R93). -/
def Part.countedTwice (s : Station) (p : Part) : Part :=
  p.withPeer s { p.peer s with duplicate := min ((p.peer s).duplicate + 1) 65535 }

/-- A parcel is for this station: an AUDIO, or a TALK to it or to all (R91). -/
def RxParcel.isFor (x : RxParcel) (p : Part) : Prop :=
  x.kind = .audio ∨ x.destination = 0 ∨ x.destination = p.sul.own.number

section
variable {s : Station} {x : RxParcel} {p : Part} (kind : x.kind ≠ .notice)

section
include kind

theorem RxParcel.isFor_iff : ¬(x.kind = .talk ∧ ¬p.addressed x.destination = true) ↔ x.isFor p := by
  unfold RxParcel.isFor
  cases h : x.kind with
  | notice => exact absurd h kind
  | audio => simp
  | talk =>
    simp only [Part.addressed, Bool.or_eq_true, beq_iff_eq, true_and, not_not, reduceCtorEq, false_or]
    exact or_comm

theorem Part.admitParcel_aside (other : ¬x.isFor p) : p.admitParcel s x = p :=
  if_pos (not_not.mp fun h => other ((RxParcel.isFor_iff kind).mp h))

variable (taken : x.isFor p)
include taken

theorem Part.admitParcel_stopped (stopped : p.plu.position = none ∨ p.tau.mode.settled = false) :
    p.admitParcel s x = ({ p with ast := { p.ast with
      notPlaying := min (p.ast.notPlaying + 1) 4294967295 } } : Part).mapDigest s (.spoiledFor x.blockNumbers) := by
  have refused : p.refuseNotPlaying s x = ({ p with ast := { p.ast with
      notPlaying := min (p.ast.notPlaying + 1) 4294967295 } } : Part).mapDigest s (.spoiledFor x.blockNumbers) :=
    Part.tellRefusals_eq ..
  rw [Part.admitParcel, if_neg ((RxParcel.isFor_iff kind).mpr taken)]
  cases playing : p.playBlock with
  | none => exact refused
  | some pb =>
    have unsettled := stopped.resolve_left fun none => by simp [Part.playBlock, none] at playing
    exact (if_pos (by simp [unsettled])).trans refused

variable {pb : BlockNo} (playing : p.playBlock = some pb) (mode : p.tau.mode.settled = true)
include playing mode

theorem Part.admitParcel_unsettled (unsettled : (p.peer s).settled = false) : p.admitParcel s x =
    (p.withPeer s { p.peer s with unsettled := min ((p.peer s).unsettled + 1) 65535 }).mapDigest s
      (.spoiledFor x.blockNumbers) := by
  rw [Part.admitParcel, if_neg ((RxParcel.isFor_iff kind).mpr taken), playing]
  refine (if_neg (by simp [mode])).trans ((if_pos (by simp [unsettled])).trans ?_)
  exact Part.tellRefusals_eq ..

variable (settled : (p.peer s).settled = true)
include settled

theorem Part.admitParcel_format (audio : x.kind = .audio)
    (format : (p.peer s).announced.map (·.laneCount) ≠ some x.laneCount) : p.admitParcel s x =
    (p.withPeer s { p.peer s with format := min ((p.peer s).format + 1) 65535 }).mapDigest s
      (.spoiledFor x.blockNumbers) := by
  rw [Part.admitParcel, if_neg ((RxParcel.isFor_iff kind).mpr taken), playing]
  refine (if_neg (by simp [mode])).trans ((if_neg (by simp [settled])).trans ((if_pos ⟨audio, format⟩).trans ?_))
  exact Part.tellRefusals_eq ..

/-- The parcel's blocks taken in order, and the duplicate counted once for the parcel. -/
theorem Part.admitParcel_taken (format : x.kind = .audio → (p.peer s).announced.map (·.laneCount) = some x.laneCount)
    (short : x.span ≤ 2 ^ 32) {fills : Nat → List (LaneNo × StoredLane)}
    (carried : x.fills (p.tau.resyncTimer != 0) = fills) : p.admitParcel s x =
    if ∃ j < x.span, 0 ≤ (x.block j - pb).toInt ∧ (x.block j - pb).toInt ≤ 1023 ∧
        ∃ f ∈ fills j, (p.ast.lane s (x.block j) f.1).isSome = true then
      (p.admitAll s pb x fills).countedTwice s
    else p.admitAll s pb x fills := by
  subst carried
  have again (any : Bool) (P : Prop) [Decidable P] (h : any = true ↔ P) (q : Part) :
      Part.countDuplicate s (q, any) =
        if P then q.countedTwice s else q :=
    if_congr h rfl rfl
  rw [Part.admitParcel, if_neg ((RxParcel.isFor_iff kind).mpr taken), playing]
  refine (if_neg (by simp [mode])).trans ((if_neg (by simp [settled])).trans ((if_neg fun h => ?_).trans ?_))
  · exact h.2 (format h.1)
  rw [Part.admitBlocks_eq _ (x.blocks_nodup short)]
  refine again _ _ ?_ _
  simp only [Bool.false_or, List.any_eq_true, List.mem_range, Part.blockDuplicates, Bool.and_eq_true,
    decide_eq_true_eq, and_assoc]
  rfl

end

end

end Sys2Proof.Machine

/-! # A parcel whose blocks all find room, and the parcel's arrival as a whole. -/

namespace Sys2Proof.Machine

/-! ## Blocks that all find room -/

/-- From p to q every listed block has been filed: the buffers, the free count and a peer's digest record moved. -/
structure Part.Filed (s : Station) (b : Nat → BlockNo) (fills : Nat → List (LaneNo × StoredLane)) (js : List Nat)
    (p q : Part) : Prop where
  frame : q = { p with ast := { p.ast with buffers := q.ast.buffers, free := q.ast.free }, imn := q.imn }
  total : q.ast.free + q.ast.buffers.length = p.ast.free + p.ast.buffers.length
  lanes : ∀ j ∈ js, ∀ k : LaneNo, q.ast.lane s (b j) k = match p.ast.lane s (b j) k with
    | some held => some held
    | none => ((fills j).find? fun f => f.1 == k).map fun f => f.2
  others : ∀ (z : Station) (n : BlockNo) (k : LaneNo), (z = s → ∀ j ∈ js, n ≠ b j) → q.ast.lane z n k = p.ast.lane z n k
  talk : (∀ j ∈ js, programmeOf (fills j) = []) → q.imn = p.imn

theorem programmeOf_absent {fs : List (LaneNo × StoredLane)} (h : programmeOf fs = []) (a : Ast) (s : Station)
    (b : BlockNo) : programmeOf (a.absentLanes s b fs) = [] := by
  have part : (programmeOf (a.absentLanes s b fs)).Sublist (programmeOf fs) := List.Sublist.filter _ List.filter_sublist
  exact List.sublist_nil.mp (h ▸ part)

theorem Part.Filled.talk {s : Station} {b : BlockNo} {fs : List (LaneNo × StoredLane)} {p t : Part}
    (h : Part.Filled s b fs p t) (talk : programmeOf fs = []) : t.imn = p.imn := by
  have frame := congrArg Part.imn h.frame
  have unfilled : WindowEntry.filled [] = fun e => e := funext WindowEntry.filled_nil
  simp only [programmeOf_absent talk, unfilled, DigestRecord.atBlock_id, Part.mapDigest_id] at frame
  exact frame

/-- From p to q only buffers, the free count and digest records have moved. -/
def Part.OnlyStored (p q : Part) : Prop :=
  q = { p with ast := { p.ast with buffers := q.ast.buffers, free := q.ast.free }, imn := q.imn }

theorem Part.OnlyStored.trans {p q r : Part} (h : p.OnlyStored q) (h' : q.OnlyStored r) : p.OnlyStored r := by
  refine Eq.trans h' ?_
  rw [h]

theorem Part.Filled.onlyStored {s : Station} {b : BlockNo} {fs : List (LaneNo × StoredLane)} {p t : Part}
    (h : Part.Filled s b fs p t) : p.OnlyStored t := by
  rw [Part.OnlyStored, h.frame]

section
variable {s : Station} {pb : BlockNo} {b : Nat → BlockNo} {fills : Nat → List (LaneNo × StoredLane)}

theorem Part.filed_foldl (nodup : ∀ j, ((fills j).map (·.1)).Nodup) (js : List Nat) (distinct : (js.map b).Nodup)
    (inside : ∀ j ∈ js, 0 ≤ (b j - pb).toInt ∧ (b j - pb).toInt ≤ 1023) (p : Part) (room : js.length ≤ p.ast.free) :
    Part.Filed s b fills js p (js.foldl (fun q j => q.admitBlock s pb (b j) (fills j)) p) := by
  induction js generalizing p with
  | nil => exact ⟨rfl, rfl, fun _ h => (List.not_mem_nil h).elim, fun _ _ _ _ => rfl, fun _ => rfl⟩
  | cons j js ih =>
    obtain ⟨new, distinct⟩ := List.nodup_cons.mp distinct
    obtain ⟨lo, hi⟩ := inside j List.mem_cons_self
    simp only [List.length_cons] at room
    have first := Part.admitBlock_filled (s := s) (fs := fills j) lo hi (.inr (by omega : p.ast.free ≠ 0)) (nodup j)
    have free := congrArg (fun q : Part => q.ast.free) first.frame
    have rest := ih distinct (fun i hi => inside i (List.mem_cons_of_mem _ hi)) (p.admitBlock s pb (b j) (fills j))
      (by dsimp only at free; rw [free]; split <;> omega)
    have apart : ∀ i ∈ js, b i ≠ b j := fun i hi same => new (same ▸ List.mem_map_of_mem hi)
    constructor
    case frame => exact first.onlyStored.trans rest.frame
    case total => exact rest.total.trans first.total
    case lanes =>
      intro i hi k
      rcases List.mem_cons.mp hi with rfl | hi
      · exact (rest.others s (b i) k fun _ i' hi' => (apart i' hi').symm).trans (first.lanes k)
      · rw [List.foldl_cons, rest.lanes i hi k, first.others s (b i) k (.inr (apart i hi))]
    case others =>
      intro z n k other
      rw [List.foldl_cons, rest.others z n k fun hz i hi => other hz i (List.mem_cons_of_mem _ hi)]
      refine first.others z n k ?_
      by_cases hz : z = s
      · exact .inr (other hz j List.mem_cons_self)
      · exact .inl hz
    case talk =>
      intro talk
      exact (rest.talk fun i hi => talk i (List.mem_cons_of_mem _ hi)).trans
        (first.talk (talk j List.mem_cons_self))

end

/-! ## The lanes that a block of a parcel carries (R95) -/

/-- A parcel's blocks carry a lane. -/
def RxParcel.carries (x : RxParcel) (k : LaneNo) : Prop := if x.kind = .audio then k.val < x.laneCount else k = talkLane

/-- What a block of a parcel brings for a lane. -/
def RxParcel.brings (x : RxParcel) (resync : Bool) (j : Nat) (k : LaneNo) : StoredLane :=
  { silent := x.kind == .audio && (x.laneFlags.getD k.val ⟨false, false⟩).silent
    stuck := x.kind == .audio && (x.laneFlags.getD k.val ⟨false, false⟩).stuck
    resync := resync
    endMark := x.kind == .talk && x.endFlag && decide (j + 1 = x.span)
    samples := (x.blocks.getD j []).getD (if x.kind = .audio then k.val else 0) [] }

theorem find?_key {α β : Type} [DecidableEq α] {l : List (α × β)} (nodup : (l.map (·.1)).Nodup) {k : α} {v : β}
    (mem : (k, v) ∈ l) : l.find? (fun f => f.1 == k) = some (k, v) := by
  induction l with
  | nil => exact absurd mem List.not_mem_nil
  | cons f l ih =>
    obtain ⟨new, nodup⟩ := List.nodup_cons.mp nodup
    rcases List.mem_cons.mp mem with rfl | mem
    · simp
    · have other : f.1 ≠ k := fun same => new (List.mem_map.mpr ⟨_, mem, same.symm⟩)
      rw [List.find?_cons_of_neg (by simpa using other), ih nodup mem]

section
variable {x : RxParcel} (kind : x.kind ≠ .notice) (resync : Bool) (j : Nat)
include kind

theorem RxParcel.fills_eq : x.fills resync j =
    if x.kind = .audio then
      ((List.finRange 8).filter fun k : ProgLane => k.val < x.laneCount).map fun k => (k.lane, x.brings resync j k.lane)
    else [(talkLane, x.brings resync j talkLane)] := by
  unfold RxParcel.fills RxParcel.brings
  cases h : x.kind with
  | notice => exact absurd h kind
  | audio => simp [ProgLane.lane, allProgLanes]
  | talk => simp [beq_eq_decide]

theorem RxParcel.mem_fills (lanes : x.kind = .audio → x.laneCount ≤ 8) (f : LaneNo × StoredLane) :
    f ∈ x.fills resync j ↔ x.carries f.1 ∧ f.2 = x.brings resync j f.1 := by
  obtain ⟨k, v⟩ := f
  rw [RxParcel.fills_eq kind, RxParcel.carries]
  by_cases audio : x.kind = .audio
  · simp only [audio, if_true, List.mem_map, List.mem_filter, List.mem_finRange, true_and, decide_eq_true_eq,
      Prod.mk.injEq]
    constructor
    · rintro ⟨i, below, rfl, rfl⟩
      exact ⟨below, rfl⟩
    · rintro ⟨below, rfl⟩
      exact ⟨⟨k.val, by have := lanes audio; omega⟩, below, rfl, rfl⟩
  · simp [audio]
    grind

theorem RxParcel.find?_fills (lanes : x.kind = .audio → x.laneCount ≤ 8) {k : LaneNo} (carried : x.carries k) :
    ((x.fills resync j).find? fun f => f.1 == k).map (·.2) = some (x.brings resync j k) := by
  have mem : (k, x.brings resync j k) ∈ x.fills resync j :=
    (RxParcel.mem_fills kind resync j lanes _).mpr ⟨carried, rfl⟩
  rw [find?_key (x.fills_nodup resync j) mem]
  rfl

theorem RxParcel.find?_fills_left (lanes : x.kind = .audio → x.laneCount ≤ 8) {k : LaneNo} (left : ¬x.carries k) :
    ((x.fills resync j).find? fun f => f.1 == k).map (·.2) = none := by
  rw [Option.map_eq_none_iff, List.find?_eq_none]
  intro f hf same
  exact left (beq_iff_eq.mp same ▸ ((RxParcel.mem_fills kind resync j lanes f).mp hf).1)

end

/-! ## What a good frame says of its parcel (R14) -/

theorem goodFrame_shape {long : Bool} {bs : List Byte} {x : RxParcel} (good : goodFrame long bs = some x)
    (kind : x.kind ≠ .notice) : (1 ≤ x.span ∧ x.span ≤ 4) ∧
      (x.kind = .audio → 1 ≤ x.laneCount ∧ x.laneCount ≤ 8) ∧ (x.kind = .talk → x.digestPresent = false) := by
  obtain ⟨k, checked, rfl⟩ := Option.map_eq_some_iff.mp good
  have short : long = false := by
    cases long with
    | false => rfl
    | true => simp [checkFrame] at checked
  rw [short, checkFrame_iff] at checked
  obtain ⟨-, -, -, -, span, lanes, -, -⟩ := checked
  refine ⟨span kind, lanes, fun talk => ?_⟩
  have same : k = .talk := talk
  simp [readParcel, same]

section
variable {p : Part} {x : RxParcel} (st : ArrivalStamp) (peer : x.source ≠ p.sul.own)
include peer

theorem Part.entered_withLiu (l : Liu) : ({ p with liu := l } : Part).entered x st = { p.entered x st with liu := l } := by
  unfold Part.entered
  by_cases absent : (p.peer x.source).state = .absent
  · rw [if_pos absent]
    refine (if_pos absent).trans ?_
    rw [Part.joinReported, Part.joinReported, peerReport_of_peer _ (by exact peer), peerReport_of_peer _ (by exact peer)]
    rfl
  · rw [if_neg absent]
    exact (if_neg absent).trans (Part.heardFrom_withLiu p l peer st.sc x.resync)

/-- The reports and faults of steps 1 to 3 of R26. -/
def Part.known (x : RxParcel) (st : ArrivalStamp) (p : Part) : Part :=
  if (p.peer x.source).state = .absent then p.joinReported x.source (.created x.sequence st.sc)
  else p.returned x.source st.sc

omit peer in
theorem Part.known_reports : p.OnlyReports (p.known x st) := by
  unfold Part.known
  split
  · exact .emit _ p
  · exact p.returned_reports x.source st.sc

omit peer in
theorem Part.entered_eq : p.entered x st = { p.known x st with
    moment := if x.resync = true ∧ (p.foundRecord x).resyncSeen = 1 ∧ p.moment.due (.resyncSeen x.source) then
        p.moment.took (.resyncSeen x.source)
      else p.moment } := by
  unfold Part.entered Part.known Part.foundRecord
  split
  · have never : ¬(x.resync = true ∧ (PeerRecord.cleared.resyncSeen) = 1 ∧ p.moment.due (.resyncSeen x.source)) :=
      fun h => absurd h.2.1 (by decide)
    rw [if_neg (by exact never)]
    rfl
  · rw [Part.heardFrom_eq]
    have reports := p.returned_reports x.source st.sc
    refine Part.eq_of_fields reports.sul.symm reports.settings.symm reports.liu.symm reports.ptb.symm reports.tau.symm
      reports.cap.symm reports.ast.symm reports.plu.symm reports.mxe.symm reports.imn.symm
      (p.returned_faults x.source st.sc).symm rfl rfl

end

section
variable {p : Part} {x : RxParcel} (st : ArrivalStamp)

theorem Part.known_faults : (p.known x st).faults =
    if (p.foundRecord x).state = .lapsed then (p.endFault ⟨.peerLapsed, .station x.source⟩).faults else p.faults := by
  unfold Part.known Part.foundRecord
  split
  · exact (if_neg (by simp)).symm
  · exact p.returned_faults x.source st.sc

theorem Part.known_eq (peer : x.source ≠ p.sul.own) : p.known x st =
    if (p.peer x.source).state = .absent then
      { p with pnl := p.pnl.emit ⟨.peer, [peerPayload (p.withPeer x.source
        { p.foundRecord x with lastSequence := x.sequence, lastHeard := st.sc }) x.source]⟩ }
    else if (p.foundRecord x).state = .lapsed then
      ({ p with pnl := p.pnl.emit ⟨.peer, [peerPayload (p.withPeer x.source
        { p.foundRecord x with state := .present, lastHeard := st.sc, quietCount := 0 }) x.source]⟩ } : Part).endFault
          ⟨.peerLapsed, .station x.source⟩
    else p := by
  unfold Part.known
  by_cases absent : (p.peer x.source).state = .absent
  · have found : { p.foundRecord x with lastSequence := x.sequence, lastHeard := st.sc } =
        PeerRecord.created x.sequence st.sc := by
      rw [Part.foundRecord, if_pos absent]
      rfl
    rw [if_pos absent, if_pos absent, found, Part.joinReported, peerReport_of_peer _ (by exact peer)]
  · rw [if_neg absent, if_neg absent, Part.foundRecord, if_neg absent]
    exact p.returned_eq x.source st.sc peer

/-- The part that admission finds: what steps 1 to 7 of R26 leave. -/
def Part.heardOf (x : RxParcel) (st : ArrivalStamp) (p : Part) : Part :=
  (p.entered x st).withPeer x.source ((p.foundRecord x).afterParcel p x st)

/-- A parcel that was admitted or refused, with its digest taken. -/
theorem Part.releaseFrame_blocks {bytes : List Byte} (rx : p.liu.rx = some st) (outside : p.cap.station ≠ .loading)
    (good : goodFrame (decide (4641 < bytes.length)) (bytes.take 4641) = some x) (kind : x.kind ≠ .notice)
    (peer : x.source ≠ p.sul.own) : p.releaseFrame bytes =
      (({ p.heardOf x st with liu := p.liu.collect bytes } : Part).admitParcel x.source x).mapDigest x.source
        x.expect := by
  obtain ⟨⟨-, short⟩, -, -⟩ := goodFrame_shape good kind
  have whole := (Part.releaseFrame_peer rx outside good peer).trans
    (Part.takeParcel_blocks (p := { p with liu := p.liu.collect bytes }) st kind)
  rw [Part.entered_withLiu st peer, Part.takeParcelDigest_eq _ (by omega)] at whole
  exact whole

end

/-! ## The digest counts of an AUDIO block (R170) -/

theorem finRange_below {n : Nat} (h : n ≤ 8) :
    ((List.finRange 8).filter fun k : ProgLane => k.val < n).map (fun k => k.val) = List.range n := by
  revert h
  have all : ∀ n : Fin 9, ((List.finRange 8).filter fun k : ProgLane => k.val < n.val).map (fun k => k.val) =
      List.range n.val := by decide
  exact fun h => all ⟨n, by omega⟩

/-- The fills of an AUDIO block of which the store holds nothing, in an entry. -/
theorem WindowEntry.filled_audio {x : RxParcel} (audio : x.kind = .audio) (some_ : 1 ≤ x.laneCount)
    (lanes : x.laneCount ≤ 8) (resync : Bool) (j : Nat) (e : WindowEntry) :
    e.filled (programmeOf (x.fills resync j)) = { e with
      sum := (List.range x.laneCount).foldl (fun acc k => acc + sampleSum ((x.blocks.getD j []).getD k [])) e.sum
      fills := e.fills + x.laneCount
      spoiled := e.spoiled || resync } := by
  have kind : x.kind ≠ .notice := by simp [audio]
  have listed := finRange_below lanes
  have fills := RxParcel.fills_eq kind resync j
  rw [if_pos audio] at fills
  have all : programmeOf (x.fills resync j) = x.fills resync j := by
    refine List.filter_eq_self.mpr fun f hf => ?_
    rw [fills] at hf
    obtain ⟨k, -, rfl⟩ := List.mem_map.mp hf
    refine decide_eq_true fun same => ?_
    have value : k.val = 8 := congrArg (fun j : LaneNo => j.val) same
    omega
  have sum : (x.fills resync j).foldl (fun acc f => acc + sampleSum f.2.samples) e.sum =
      (List.range x.laneCount).foldl (fun acc k => acc + sampleSum ((x.blocks.getD j []).getD k [])) e.sum := by
    rw [fills, ← listed, List.foldl_map, List.foldl_map]
    simp only [RxParcel.brings, audio, if_true, ProgLane.lane]
  have length : (x.fills resync j).length = x.laneCount := by
    have count := congrArg List.length listed
    rw [List.length_map, List.length_range] at count
    rw [fills, List.length_map, count]
  have marked : ((x.fills resync j).any fun f => f.2.resync) = resync := by
    have same : ∀ f ∈ x.fills resync j, f.2.resync = resync := fun f hf => by
      rw [((RxParcel.mem_fills kind resync j (fun _ => lanes) f).mp hf).2]
      rfl
    obtain ⟨f, hf⟩ := List.exists_mem_of_length_pos (by omega : 0 < (x.fills resync j).length)
    cases h : resync with
    | true => exact List.any_eq_true.mpr ⟨f, h ▸ hf, by rw [← h]; exact same f hf⟩
    | false => exact List.any_eq_false.mpr fun g hg => by rw [same g (by rw [h]; exact hg), h]; exact Bool.false_ne_true
  rw [all, WindowEntry.filled, sum, length, marked]

theorem Part.Admitted.admitParcel {s : Station} {x : RxParcel} {p : Part} (kind : x.kind ≠ .notice)
    (short : x.span ≤ 2 ^ 32) : Part.Admitted s p (p.admitParcel s x) := by
  by_cases taken : x.isFor p
  · cases playing : p.playBlock with
    | none =>
      rw [Part.admitParcel_stopped kind taken (.inl (by simpa [Part.playBlock] using playing))]
      exact (store _ p).trans (mapDigest _ _)
    | some pb =>
      cases mode : p.tau.mode.settled with
      | false =>
        rw [Part.admitParcel_stopped kind taken (.inr mode)]
        exact (store _ p).trans (mapDigest _ _)
      | true =>
        cases settled : (p.peer s).settled with
        | false =>
          rw [Part.admitParcel_unsettled kind taken playing mode settled]
          exact (withPeer _ p).trans (mapDigest _ _)
        | true =>
          by_cases format : x.kind = .audio → (p.peer s).announced.map (·.laneCount) = some x.laneCount
          · have blocks (js : List Nat) (q : Part) : Part.Admitted s q (js.foldl (fun q j =>
                q.admitBlock s pb (x.block j) (x.fills (p.tau.resyncTimer != 0) j)) q) := by
              induction js generalizing q with
              | nil => exact refl q
              | cons j js ih => exact (admitBlock pb _ (x.fills_nodup _ j) q).trans (ih _)
            rw [Part.admitParcel_taken kind taken playing mode settled format short rfl]
            split
            · exact (blocks _ p).trans (withPeer _ _)
            · exact blocks _ p
          · obtain ⟨audio, format⟩ := Classical.not_imp.mp format
            rw [Part.admitParcel_format kind taken playing mode settled audio format]
            exact (withPeer _ p).trans (mapDigest _ _)
  · rw [Part.admitParcel_aside kind taken]
    exact refl p

end Sys2Proof.Machine

/-! # O40: AUDIO and TALK parcels filed or refused. -/

namespace Sys2Proof.Machine

/-- One block admitted: late, early, with no buffer free, or filed (R92 to R94, R98). -/
theorem Part.admitBlock_cases (p : Part) (y : Station) (pb b : BlockNo) (fs : List (LaneNo × StoredLane))
    (nodup : (fs.map (·.1)).Nodup) :
    let t := p.admitBlock y pb b fs
    let off := (b - pb).toInt
    let r := p.peer y
    let withRecord : PeerRecord → Part := fun v =>
      { p with ptb := { p.ptb with records := p.ptb.records.set y.val v y.isLt } }
    let entries : (WindowEntry → WindowEntry) → Vector DigestRecord 16 := fun f =>
      p.imn.set y.val { p.imn[y] with
        entries := p.imn[y].entries.map fun e => if e.window = b.toNat / 64 then f e else e } y.isLt
    let spoiled := entries fun e => { e with spoiled := true }
    (off < 0 → t = { withRecord { r with late := min (r.late + 1) 65535 } with imn := spoiled }) ∧
    (1023 < off → t = { withRecord { r with early := min (r.early + 1) 65535 } with imn := spoiled }) ∧
    (0 ≤ off → off ≤ 1023 → p.ast.find y b = none → p.ast.free = 0 →
      t = { ({ p with
          ast := { p.ast with storeFull := min (p.ast.storeFull + 1) 4294967295, quiet := 0 } } : Part).raiseFault
            ⟨.storeFull, .none⟩ with imn := spoiled }) ∧
    (0 ≤ off → off ≤ 1023 → p.ast.find y b ≠ none ∨ p.ast.free ≠ 0 →
      let first := fs.filter fun f => (p.ast.lane y b f.1).isNone
      let programme := first.filter fun f => f.1 ≠ talkLane
      t = { p with
        ast := { p.ast with
          buffers := t.ast.buffers
          free := if p.ast.find y b = none then p.ast.free - 1 else p.ast.free }
        imn := entries fun e => { e with
          sum := programme.foldl (fun acc f => acc + sampleSum f.2.samples) e.sum
          fills := e.fills + programme.length
          spoiled := e.spoiled || programme.any fun f => f.2.resync } } ∧
      t.ast.free + t.ast.buffers.length = p.ast.free + p.ast.buffers.length ∧
      (∀ k : LaneNo, t.ast.lane y b k = match p.ast.lane y b k with
        | some held => some held
        | none => (fs.find? fun f => f.1 == k).map fun f => f.2) ∧
      (∀ (z : Station) (n : BlockNo) (k : LaneNo), z ≠ y ∨ n ≠ b → t.ast.lane z n k = p.ast.lane z n k)) := by
  intro t off r withRecord entries spoiled
  refine ⟨fun late => ?_, fun early => ?_, fun lo hi new none => ?_, fun lo hi room => ?_⟩
  · exact Part.admitBlock_late late
  · exact Part.admitBlock_early early
  · refine (Part.admitBlock_full lo hi new none).trans ?_
    rw [Part.tellRefusal_eq, Part.raiseFault_imn]
  · obtain ⟨frame, total, lanes, others⟩ := Part.admitBlock_filled lo hi room nodup
    exact ⟨frame, total, fun k => lanes k, others⟩

/-- The part that admission finds, by its fields: the record, the reports and the tick overtaken have moved. -/
structure Part.HeardFrom (x : RxParcel) (st : ArrivalStamp) (l : Liu) (p h : Part) : Prop where
  sul : h.sul = p.sul
  settings : h.settings = p.settings
  liu : h.liu = l
  ptb : h.ptb = { p.ptb with records := p.ptb.records.set x.source.val ((p.foundRecord x).afterParcel p x st) x.source.isLt }
  tau : h.tau = p.tau
  cap : h.cap = p.cap
  ast : h.ast = p.ast
  plu : h.plu = p.plu
  mxe : h.mxe = p.mxe
  imn : h.imn = p.imn
  faults : h.faults = if (p.foundRecord x).state = .lapsed then (p.endFault ⟨.peerLapsed, .station x.source⟩).faults
    else p.faults
  pnl : h.pnl = (p.known x st).pnl
  moment : h.moment =
    if x.resync = true ∧ (p.foundRecord x).resyncSeen = 1 ∧ p.moment.due (.resyncSeen x.source) then
      p.moment.took (.resyncSeen x.source)
    else p.moment

theorem Part.heardOf_heardFrom (p : Part) (x : RxParcel) (st : ArrivalStamp) (l : Liu) :
    Part.HeardFrom x st l p { p.heardOf x st with liu := l } := by
  have reports := Part.known_reports (p := p) (x := x) st
  have faults := Part.known_faults (p := p) (x := x) st
  rw [Part.heardOf, Part.entered_eq]
  exact ⟨reports.sul, reports.settings, rfl, congrArg (fun t : PeerTable => { t with
    records := t.records.set x.source.val ((p.foundRecord x).afterParcel p x st) x.source.isLt }) reports.ptb,
    reports.tau, reports.cap, reports.ast, reports.plu, reports.mxe, reports.imn, faults, rfl, rfl⟩

namespace Part.HeardFrom
variable {x : RxParcel} {st : ArrivalStamp} {l : Liu} {p h : Part}

theorem peer (f : Part.HeardFrom x st l p h) : h.peer x.source = (p.foundRecord x).afterParcel p x st := by
  rw [Part.peer, f.ptb]
  simp

theorem peers (f : Part.HeardFrom x st l p h) {y : Station} (other : y ≠ x.source) : h.peer y = p.peer y := by
  have apart : x.source.val ≠ y.val := fun same => other (Fin.ext same.symm)
  rw [Part.peer, f.ptb]
  simp [Part.peer, apart]

/-- What admission leaves, over the part that the frame found. -/
theorem leaves (f : Part.HeardFrom x st l p h) {t : Part} (admitted : Part.Admitted x.source h t) : t = { p with
    liu := l
    ptb := { p.ptb with records := t.ptb.records }
    ast := t.ast
    imn := t.imn
    faults := t.faults
    pnl := p.pnl.withReports t.pnl
    moment := if x.resync = true ∧ (p.foundRecord x).resyncSeen = 1 ∧ p.moment.due (.resyncSeen x.source) then
        p.moment.took (.resyncSeen x.source)
      else p.moment } := by
  have reports := (Part.known_reports (p := p) (x := x) st).pnl
  have kept := admitted.frame
  refine Part.eq_of_fields ?_ ?_ ?_ ?_ ?_ ?_ rfl ?_ ?_ rfl rfl ?_ ?_
  · rw [kept]; exact f.sul
  · rw [kept]; exact f.settings
  · rw [kept]; exact f.liu
  · rw [kept, f.ptb]
  · rw [kept]; exact f.tau
  · rw [kept]; exact f.cap
  · rw [kept]; exact f.plu
  · rw [kept]; exact f.mxe
  · rw [kept, f.pnl, reports]; rfl
  · rw [kept]; exact f.moment

theorem eq (f : Part.HeardFrom x st l p h) : h = { p.known x st with
    liu := l
    ptb := { p.ptb with
      records := p.ptb.records.set x.source.val ((p.foundRecord x).afterParcel p x st) x.source.isLt }
    moment := if x.resync = true ∧ (p.foundRecord x).resyncSeen = 1 ∧ p.moment.due (.resyncSeen x.source) then
        p.moment.took (.resyncSeen x.source)
      else p.moment } := by
  have reports := Part.known_reports (p := p) (x := x) st
  exact Part.eq_of_fields (f.sul.trans reports.sul.symm) (f.settings.trans reports.settings.symm) f.liu f.ptb
    (f.tau.trans reports.tau.symm) (f.cap.trans reports.cap.symm) (f.ast.trans reports.ast.symm)
    (f.plu.trans reports.plu.symm) (f.mxe.trans reports.mxe.symm) (f.imn.trans reports.imn.symm)
    (f.faults.trans (Part.known_faults st).symm) f.pnl f.moment

end Part.HeardFrom

theorem Part.mapDigest_get (s : Station) (f : DigestRecord → DigestRecord) (p : Part) :
    (p.mapDigest s f).imn[s] = f p.imn[s] := vmodify_get_self ..

/-- Refused as a whole or not for this station, a parcel is reported no further (R90, R91). -/
theorem Part.admitParcel_pnl {s : Station} {x : RxParcel} {p : Part} (kind : x.kind ≠ .notice)
    (left : ¬x.isFor p ∨ p.plu.position = none ∨ p.tau.mode.settled = false ∨ (p.peer s).settled = false ∨
      (x.kind = .audio ∧ (p.peer s).announced.map (·.laneCount) ≠ some x.laneCount)) :
    (p.admitParcel s x).pnl = p.pnl := by
  by_cases taken : x.isFor p
  · by_cases stopped : p.plu.position = none ∨ p.tau.mode.settled = false
    · rw [Part.admitParcel_stopped kind taken stopped]
      rfl
    · obtain ⟨position, mode⟩ := not_or.mp stopped
      obtain ⟨pos, position⟩ := Option.ne_none_iff_exists'.mp position
      have playing : p.playBlock = some (blockOf pos) := by rw [Part.playBlock, position]; rfl
      have mode : p.tau.mode.settled = true := by simpa using mode
      by_cases settled : (p.peer s).settled = true
      · have bad : x.kind = .audio ∧ (p.peer s).announced.map (·.laneCount) ≠ some x.laneCount := by
          rcases left with h | h | h | h | h
          · exact absurd taken h
          · exact absurd (.inl h) stopped
          · exact absurd (.inr h) stopped
          · exact absurd settled (by simp [h])
          · exact h
        rw [Part.admitParcel_format kind taken playing mode settled bad.1 bad.2]
        rfl
      · rw [Part.admitParcel_unsettled kind taken playing mode (by simpa using settled)]
        rfl
  · rw [Part.admitParcel_aside kind taken]

/-- The duplicate count of a parcel, once for all its blocks (R93). -/
theorem Part.withDuplicate_eq (q : Part) (s : Station) (again : Prop) [Decidable again] (f : DigestRecord → DigestRecord) :
    (if again then q.countedTwice s else q).mapDigest s f =
      let counted : PeerRecord := { q.peer s with duplicate := min ((q.peer s).duplicate + 1) 65535 }
      { q with
        ptb := if again then { q.ptb with records := q.ptb.records.set s.val counted s.isLt } else q.ptb
        imn := q.imn.set s.val (f q.imn[s]) s.isLt } := by
  split <;> rfl

/-- The lanes of a block with the marks they take, by the parcel's kind (R95). -/
theorem RxParcel.fills_lanes {x : RxParcel} (kind : x.kind ≠ .notice) (timer j : Nat) : x.fills (timer != 0) j =
    if x.kind = .audio then
      ((List.finRange 8).filter fun k : ProgLane => k.val < x.laneCount).map fun k =>
        let f := x.laneFlags.getD k.val ⟨false, false⟩
        (k.lane, { silent := f.silent, stuck := f.stuck, resync := decide (timer ≠ 0), endMark := false
                   samples := (x.blocks.getD j []).getD k.val [] })
    else [(talkLane, { silent := false, stuck := false, resync := decide (timer ≠ 0)
                       endMark := x.endFlag && decide (j + 1 = x.span)
                       samples := (x.blocks.getD j []).getD 0 [] })] := by
  have mark : (timer != 0) = decide (timer ≠ 0) := by simp [bne, beq_eq_decide]
  rw [mark, RxParcel.fills]
  cases h : x.kind with
  | notice => exact absurd h kind
  | audio => rfl
  | talk => simp [beq_eq_decide]

theorem RxParcel.block_zero (x : RxParcel) : x.block 0 = x.firstBlock := by simp [RxParcel.block]

theorem RxParcel.block_of_one {x : RxParcel} (one : x.span = 1) {j : Nat} (h : j < x.span) :
    x.block j = x.firstBlock := by
  obtain rfl : j = 0 := by omega
  exact x.block_zero

theorem RxParcel.blocks_of_one {x : RxParcel} (one : x.span = 1) :
    (List.range x.span).map x.block = [x.firstBlock] := by
  rw [one, ← x.block_zero]
  rfl

theorem Part.admitAll_one {s : Station} {pb : BlockNo} {x : RxParcel} (one : x.span = 1)
    (fills : Nat → List (LaneNo × StoredLane)) (p : Part) :
    p.admitAll s pb x fills = p.admitBlock s pb x.firstBlock (fills 0) := by
  rw [Part.admitAll, one, ← x.block_zero]
  rfl

theorem Part.tellRefusal_one (s : Station) (b : BlockNo) (p : Part) :
    p.tellRefusal s b = p.mapDigest s (.spoiledFor [b]) := p.tellRefusals_eq s [b]

theorem Part.raiseFault_marks (p : Part) (k : FaultKey) :
    k ∈ (p.raiseFault k).faults.marks ∧ ∀ m ∈ p.faults.marks, m ∈ (p.raiseFault k).faults.marks := by
  by_cases held : k ∈ p.faults.marks
  · rw [Part.raiseFault_held held]
    exact ⟨held, fun _ h => h⟩
  · rw [Part.raiseFault_eq held, Part.withList_faults]
    exact ⟨List.mem_append_right _ (List.mem_singleton_self k), fun m hm => List.mem_append_left _ hm⟩

/-- The window's blocks lie at offsets 0 to 1,023, read as signed too. -/
theorem toInt_of_inside {d : BlockNo} (h : d.toNat ≤ 1023) : 0 ≤ d.toInt ∧ d.toInt ≤ 1023 := by
  rw [BitVec.toInt_eq_toNat_cond]
  split <;> omega

/-- The digest record after an AUDIO block of which the store held nothing (R170). -/
theorem Part.Filled.audio {s : Station} {b : BlockNo} {x : RxParcel} {resync : Bool} {j : Nat} {p t : Part}
    (filled : Part.Filled s b (x.fills resync j) p t) (new : p.ast.find s b = none) (audio : x.kind = .audio)
    (some_ : 1 ≤ x.laneCount) (lanes : x.laneCount ≤ 8) :
    t.imn[s] = { p.imn[s] with entries := p.imn[s].entries.map fun e =>
      if e.window = b.toNat / 64 then
        { e with
          sum := (List.range x.laneCount).foldl (fun acc k => acc + sampleSum ((x.blocks.getD j []).getD k [])) e.sum
          fills := e.fills + x.laneCount
          spoiled := e.spoiled || resync }
      else e } := by
  have lane (k : LaneNo) : p.ast.lane s b k = none := by rw [Ast.lane_eq, new]; rfl
  have first : p.ast.absentLanes s b (x.fills resync j) = x.fills resync j :=
    List.filter_eq_self.mpr fun f _ => by rw [lane]; rfl
  rw [congrArg Part.imn filled.frame, first]
  refine (Part.mapDigest_get ..).trans ?_
  simp only [DigestRecord.atBlock, WindowEntry.filled_audio audio some_ lanes, windowOf]

/-- A TALK tells the Integrity Monitor nothing (R170). -/
theorem RxParcel.programmeOf_talk {x : RxParcel} (talk : x.kind = .talk) (resync : Bool) (j : Nat) :
    programmeOf (x.fills resync j) = [] := by
  rw [RxParcel.fills_eq (by simp [talk]), if_neg (by simp [talk])]
  rfl

/-- Settles O40: an AUDIO or TALK of a peer, its blocks one by one, and its digest. -/
theorem audioAndTalkParcelsAreFiledOrRefused : Obligations.AudioAndTalkParcelsAreFiledOrRefused := by
  refine ⟨?_, Part.admitBlock_cases⟩
  intro s st bytes x rx outside good kind peer held r ast b addressed carried entered taken told report known heard lanes
  obtain ⟨⟨-, short⟩, count, noDigest⟩ := goodFrame_shape good kind
  have whole := Part.releaseFrame_blocks st rx outside good kind peer
  have from_ := s.part.heardOf_heardFrom x st (s.part.liu.collect bytes)
  have known_eq : known = s.part.known x st := (Part.known_eq st peer).symm
  have heard_eq := from_.eq
  rw [← known_eq] at heard_eq
  change _ = heard at heard_eq
  rw [heard_eq] at whole from_
  clear heard_eq
  clear_value heard
  have lanes_eq : x.fills (heard.tau.resyncTimer != 0) = lanes := by
    rw [from_.tau]
    exact funext fun j => RxParcel.fills_lanes kind s.part.tau.resyncTimer j
  have hpeer : heard.peer x.source = r := from_.peer
  have for_iff : x.isFor heard ↔ addressed := by rw [RxParcel.isFor, from_.sul]
  have block_eq : heard.playBlock = s.part.playBlock := by rw [Part.playBlock, from_.plu]; rfl
  have digest (f : DigestRecord → DigestRecord) (q : Part) :
      ((q.mapDigest x.source f).mapDigest x.source x.expect).imn[x.source] = taken (f q.imn[x.source]) := by
    rw [Part.mapDigest_mapDigest]
    exact Part.mapDigest_get ..
  have admitted := (Part.Admitted.admitParcel (s := x.source) (p := heard) kind (by omega)).trans
    (.mapDigest x.expect _)
  refine ⟨_, next_withPart s whole, fun left => ?_, fun pb for_ playing mode settled format => ?_,
    from_.leaves admitted, fun y hy => ⟨?_, ?_⟩, fun other => ?_, fun for_ stopped => ?_,
    fun pb for_ playing mode => ⟨fun unsettled => ?_, fun settled audio format => ?_, fun settled format => ?_⟩⟩
  · rw [← for_iff, ← from_.plu, ← from_.tau, ← hpeer] at left
    rw [Part.mapDigest_pnl, Part.admitParcel_pnl kind left, from_.pnl, known_eq]
  · intro filed again counted
    rw [← block_eq] at playing
    rw [← from_.tau] at mode
    rw [← hpeer] at settled format
    rw [Part.admitParcel_taken kind (for_iff.mpr for_) playing mode settled format (by omega) lanes_eq, from_.ast]
    exact Part.withDuplicate_eq filed x.source again x.expect
  · exact (admitted.peers y hy).trans (from_.peers hy)
  · exact (admitted.digests y hy).trans (by rw [from_.imn])
  · have talk : x.kind = .talk := by
      cases h : x.kind with
      | notice => exact absurd h kind
      | audio => exact absurd (.inl h) other
      | talk => rfl
    have expect : x.expect = fun d => d := funext fun d => if_neg (by simp [noDigest talk])
    rw [Part.admitParcel_aside kind (for_iff.not.mpr other), expect, Part.mapDigest_id]
    exact ⟨hpeer, from_.ast, by rw [from_.imn], from_.faults⟩
  · rw [Part.admitParcel_stopped kind (for_iff.mpr for_) (by rw [from_.plu, from_.tau]; exact stopped)]
    exact ⟨hpeer, by rw [Part.mapDigest_ast, Part.mapDigest_ast, from_.ast], from_.faults,
      (digest ..).trans (by rw [from_.imn]; rfl)⟩
  · rw [Part.admitParcel_unsettled kind (for_iff.mpr for_) (block_eq.trans playing) (by rw [from_.tau]; exact mode)
      (by rw [hpeer]; exact unsettled), hpeer]
    exact ⟨Part.withPeer_peer_self _ _ _, from_.ast, from_.faults, (digest ..).trans (by rw [Part.withPeer, from_.imn]; rfl)⟩
  · rw [Part.admitParcel_format kind (for_iff.mpr for_) (block_eq.trans playing) (by rw [from_.tau]; exact mode)
      (by rw [hpeer]; exact settled) audio (by rw [hpeer]; exact format), hpeer]
    exact ⟨Part.withPeer_peer_self _ _ _, from_.ast, from_.faults, (digest ..).trans (by rw [Part.withPeer, from_.imn]; rfl)⟩
  · rw [Part.admitParcel_taken kind (for_iff.mpr for_) (block_eq.trans playing) (by rw [from_.tau]; exact mode)
      (by rw [hpeer]; exact settled) (by rw [hpeer]; exact format) (by omega) lanes_eq, from_.ast]
    have alone (one : x.span = 1) (h : 0 ≤ (x.firstBlock - pb).toInt → (x.firstBlock - pb).toInt ≤ 1023 →
        s.part.ast.find x.source x.firstBlock = none) :
        ¬∃ j < x.span, 0 ≤ (x.block j - pb).toInt ∧ (x.block j - pb).toInt ≤ 1023 ∧
          ∃ f ∈ lanes j, (s.part.ast.lane x.source (x.block j) f.1).isSome = true := by
      rintro ⟨j, hj, lo, hi, f, -, present⟩
      rw [RxParcel.block_of_one one hj] at lo hi present
      exact Ast.find_of_lane present (h lo hi)
    refine ⟨fun one late => ?_, fun one early => ?_, fun one inside new full => ?_, fun inside room => ?_⟩
    · rw [if_neg (alone one fun lo _ => absurd late (by omega)), Part.admitAll_one one,
        Part.admitBlock_late late, Part.tellRefusal_one, hpeer]
      exact ⟨Part.withPeer_peer_self _ _ _, from_.ast, from_.faults,
        (digest ..).trans (by rw [Part.withPeer, from_.imn, ← RxParcel.blocks_of_one one]; rfl)⟩
    · rw [if_neg (alone one fun _ hi => absurd early (by omega)), Part.admitAll_one one,
        Part.admitBlock_early early, Part.tellRefusal_one, hpeer]
      exact ⟨Part.withPeer_peer_self _ _ _, from_.ast, from_.faults,
        (digest ..).trans (by rw [Part.withPeer, from_.imn, ← RxParcel.blocks_of_one one]; rfl)⟩
    · obtain ⟨lo, hi⟩ := toInt_of_inside inside
      rw [if_neg (alone one fun _ _ => new), Part.admitAll_one one,
        Part.admitBlock_full lo hi (by rw [from_.ast]; exact new) (by rw [from_.ast]; exact full), Part.tellRefusal_one]
      obtain ⟨raised, kept⟩ := Part.raiseFault_marks { heard with ast := { heard.ast with
        storeFull := min (heard.ast.storeFull + 1) 4294967295, quiet := 0 } } ⟨.storeFull, .none⟩
      refine ⟨?_, ?_, raised, fun m hm => kept m (by rw [from_.faults]; exact hm), (digest ..).trans ?_⟩
      · rw [Part.peer, Part.mapDigest_ptb, Part.mapDigest_ptb, Part.raiseFault_ptb]
        exact hpeer
      · rw [Part.mapDigest_ast, Part.mapDigest_ast, Part.raiseFault_ast, from_.ast]
      · rw [Part.raiseFault_imn, from_.imn, ← RxParcel.blocks_of_one one]
        rfl
    · have blocks : (List.range x.span).length ≤ heard.ast.free := by
        rw [List.length_range, from_.ast]
        exact room
      have filed := Part.filed_foldl (s := x.source) (pb := pb) (b := x.block) (fills := lanes)
        (fun j => by rw [← lanes_eq]; exact x.fills_nodup _ j) (List.range x.span) (x.blocks_nodup (by omega))
        (fun j hj => toInt_of_inside (inside j (List.mem_range.mp hj))) heard blocks
      change Part.Filed x.source x.block lanes (List.range x.span) heard (heard.admitAll x.source pb x lanes) at filed
      generalize all : heard.admitAll x.source pb x lanes = q at filed ⊢
      have again_iff : (∃ j < x.span, 0 ≤ (x.block j - pb).toInt ∧ (x.block j - pb).toInt ≤ 1023 ∧
          ∃ f ∈ lanes j, (s.part.ast.lane x.source (x.block j) f.1).isSome = true) ↔
          ∃ i < x.span, ∃ k, carried k ∧ (ast.lane x.source (b i) k).isSome = true := by
        refine exists_congr fun j => and_congr_right fun hj => ?_
        obtain ⟨lo, hi⟩ := toInt_of_inside (inside j hj)
        rw [← lanes_eq]
        simp only [RxParcel.mem_fills kind _ j fun audio => (count audio).2]
        exact ⟨fun ⟨_, _, f, hf, some_⟩ => ⟨f.1, hf.1, some_⟩,
          fun ⟨k, hk, some_⟩ => ⟨lo, hi, (k, x.brings _ j k), ⟨hk, rfl⟩, some_⟩⟩
      have kept (again : Prop) [Decidable again] :
          let d := if again then q.countedTwice x.source else q
          d.ast = q.ast ∧ d.faults = q.faults ∧ d.imn = q.imn := by
        dsimp only
        split <;> exact ⟨rfl, rfl, rfl⟩
      obtain ⟨store, faults, digests⟩ := kept (∃ j < x.span, 0 ≤ (x.block j - pb).toInt ∧
        (x.block j - pb).toInt ≤ 1023 ∧ ∃ f ∈ lanes j, (s.part.ast.lane x.source (x.block j) f.1).isSome = true)
      have found : q.peer x.source = r := by
        rw [filed.frame]
        exact hpeer
      have stored : q.ast = { ast with buffers := q.ast.buffers, free := q.ast.free } := by
        have frame := congrArg Part.ast filed.frame
        rw [from_.ast] at frame
        exact frame
      have mark : (heard.tau.resyncTimer != 0) = decide (s.part.tau.resyncTimer ≠ 0) := by
        rw [from_.tau]
        simp [bne, beq_eq_decide]
      have atMost : x.kind = .audio → x.laneCount ≤ 8 := fun audio => (count audio).2
      refine ⟨fun again => ?_, fun never => ?_, faults.trans ?_, ?_, ?_, ?_, ?_, fun talk => ?_, fun audio one new => ?_⟩
      · rw [if_pos (again_iff.mpr again), Part.countedTwice, found]
        exact Part.withPeer_peer_self _ _ _
      · rw [if_neg fun again => ?_]
        · exact found
        · obtain ⟨i, hi, k, hk, some_⟩ := again_iff.mp again
          rw [never i hi k hk] at some_
          exact absurd some_ (by simp)
      · rw [filed.frame]
        exact from_.faults
      · rw [Part.mapDigest_ast, store]
        exact stored
      · rw [Part.mapDigest_ast, store, filed.total, from_.ast]
      · intro i k hi hk
        rw [Part.mapDigest_ast, store]
        have look := filed.lanes i (List.mem_range.mpr hi) k
        rw [from_.ast, ← lanes_eq, RxParcel.find?_fills kind _ i atMost hk, mark] at look
        exact look
      · intro y n k other
        rw [Part.mapDigest_ast, store]
        by_cases block : y = x.source ∧ ∃ i ∈ List.range x.span, n = x.block i
        · obtain ⟨rfl, i, hi, rfl⟩ := block
          have left : ¬x.carries k := fun hk => other rfl hk i (List.mem_range.mp hi) rfl
          rw [filed.lanes i hi k, from_.ast, ← lanes_eq, RxParcel.find?_fills_left kind _ i atMost left]
          cases ast.lane x.source (x.block i) k <;> rfl
        · refine (filed.others y n k fun hy i hi same => block ⟨hy, i, hi, same⟩).trans ?_
          rw [from_.ast]
      · have expect : x.expect = fun d => d := funext fun d => if_neg (by simp [noDigest talk])
        rw [expect, Part.mapDigest_id, digests, filed.talk fun j _ => ?_, from_.imn]
        rw [← lanes_eq]
        exact RxParcel.programmeOf_talk talk _ j
      · have first : q = heard.admitBlock x.source pb x.firstBlock (lanes 0) := by
          rw [← all, Part.admitAll_one one]
        obtain ⟨lo, hi⟩ := toInt_of_inside (inside 0 (by omega))
        rw [show b 0 = x.firstBlock from x.block_zero] at lo hi
        have filled := Part.admitBlock_filled (p := heard) (s := x.source) (fs := x.fills (heard.tau.resyncTimer != 0) 0)
          lo hi (.inr (by rw [List.length_range] at blocks; omega)) (x.fills_nodup _ 0)
        rw [lanes_eq, ← first, ← lanes_eq] at filled
        obtain ⟨some_, most⟩ := count audio
        have record := filled.audio (by rw [from_.ast]; exact new) audio some_ most
        rw [mark, from_.imn] at record
        rw [← record]
        exact (Part.mapDigest_get ..).trans (by rw [digests]; rfl)

end Sys2Proof.Machine

/-! # O17: the payloads of the reports, field by field. -/

namespace Sys2Proof.Machine

/-! ## Fields of a payload -/

theorem fieldAt_eq (bs : List Byte) (off n : Nat) : fieldAt bs off n = beNat ((bs.drop off).take n) := rfl

theorem fieldAt_cons_succ (b : Byte) (bs : List Byte) (off n : Nat) :
    fieldAt (b :: bs) (off + 1) n = fieldAt bs off n := rfl

theorem fieldAt_cons_zero (b : Byte) (bs : List Byte) : fieldAt (b :: bs) 0 1 = b.toNat := by
  simp [fieldAt]

/-- The field after a prefix. -/
theorem fieldAt_append_right (pre post : List Byte) (off n : Nat) :
    fieldAt (pre ++ post) (pre.length + off) n = fieldAt post off n := by
  rw [fieldAt_eq, List.drop_append, List.drop_of_length_le (by omega), List.nil_append, Nat.add_sub_cancel_left,
    fieldAt_eq]

theorem fieldAt_skip {pre post : List Byte} {off n : Nat} (h : pre.length ≤ off) :
    fieldAt (pre ++ post) off n = fieldAt post (off - pre.length) n := by
  conv => lhs; rw [← Nat.add_sub_cancel' h]
  exact fieldAt_append_right ..

/-- A field at the front. -/
theorem fieldAt_append_left {pre post : List Byte} {off n : Nat} (h : off + n ≤ pre.length) :
    fieldAt (pre ++ post) off n = fieldAt pre off n := by
  rw [fieldAt_eq, fieldAt_eq, List.drop_append_of_le_length (by omega), List.take_append_of_le_length]
  rw [List.length_drop]
  omega

theorem beNat_append (bs cs : List Byte) : beNat (bs ++ cs) = beNat bs * 256 ^ cs.length + beNat cs := by
  have from_ (acc : Nat) : cs.foldl (fun acc b => acc * 256 + b.toNat) acc = acc * 256 ^ cs.length + beNat cs := by
    induction cs generalizing acc with
    | nil => simp [beNat]
    | cons c cs ih =>
      simp only [List.foldl_cons, beNat, List.length_cons, pow_succ]
      rw [ih, ih (0 * 256 + c.toNat)]
      ring
  rw [beNat, List.foldl_append]
  exact from_ (beNat bs)

/-- The number that n bytes carry reads back modulo 256^n (R203). -/
theorem beNat_beBytes (n v : Nat) : beNat (beBytes n v) = v % 256 ^ n := by
  induction n with
  | zero => simp [beBytes, beNat, Nat.mod_one]
  | succ n ih =>
    rw [beBytes, ← List.singleton_append, beNat_append, beBytes_length, ih]
    have head : beNat [BitVec.ofNat 8 (v / 256 ^ n)] = v / 256 ^ n % 256 := by
      simp [beNat]
    rw [head, pow_succ, Nat.mod_mul, Nat.mul_comm, Nat.add_comm]

theorem fieldAt_beBytes (n v : Nat) (post : List Byte) : fieldAt (beBytes n v ++ post) 0 n = v % 256 ^ n := by
  rw [fieldAt_append_left (by rw [beBytes_length]; omega), fieldAt_eq, List.drop_zero,
    List.take_of_length_le (by rw [beBytes_length]), beNat_beBytes]

theorem fieldAt_beInt (n : Nat) (v : Int) (post : List Byte) :
    (fieldAt (beInt n v ++ post) 0 n : Int) = v % 256 ^ n := by
  have positive : (0 : Int) < 256 ^ n := by positivity
  have range : (v % 256 ^ n).toNat < 256 ^ n := by
    have below := Int.emod_lt_of_pos v positive
    zify
    rw [Int.toNat_of_nonneg (Int.emod_nonneg v positive.ne')]
    exact_mod_cast below
  rw [beInt, fieldAt_beBytes, Nat.mod_eq_of_lt range, Int.toNat_of_nonneg (Int.emod_nonneg v positive.ne')]

theorem fieldAt_beBytes_skip (n v : Nat) (post : List Byte) {off k : Nat} (h : n ≤ off) :
    fieldAt (beBytes n v ++ post) off k = fieldAt post (off - n) k := by
  rw [fieldAt_skip (by rw [beBytes_length]; exact h), beBytes_length]

theorem fieldAt_beInt_skip (n : Nat) (v : Int) (post : List Byte) {off k : Nat} (h : n ≤ off) :
    fieldAt (beInt n v ++ post) off k = fieldAt post (off - n) k := fieldAt_beBytes_skip n _ post h

theorem fieldAt_cons_byte (b : Byte) (bs : List Byte) {off n : Nat} (h : 1 ≤ off) :
    fieldAt (b :: bs) off n = fieldAt bs (off - 1) n := by
  obtain ⟨k, rfl⟩ := Nat.exists_eq_add_of_le' h
  rfl

theorem markByte_toNat (b : Bool) : (markByte b).toNat = if b = true then 1 else 0 := by cases b <;> rfl

theorem Station.number_mod (s : Station) : s.number % 256 = s.val + 1 :=
  Nat.mod_eq_of_lt (by simp only [Station.number]; omega)

theorem Cap.pendingRequest_eq (c : Cap) :
    c.pendingRequest = decide (c.contribute = true ∧ c.station ≠ .onAir) := by
  simp [Cap.pendingRequest, bne, beq_eq_decide]

theorem Liu.validEcho_eq (l : Liu) : l.validEcho = if l.echoCount = 4 then l.echoDelay else none := by
  simp [Liu.validEcho, Liu.echoValid]

/-! ## Runs of entries of one length -/

theorem fieldAt_one (bs : List Byte) (off : Nat) : fieldAt bs off 1 = (bs.getD off 0).toNat := by
  rw [fieldAt_eq, List.take_one, List.head?_drop, List.getD]
  cases bs[off]? <;> simp [beNat]

theorem drop_flatMap {α : Type} {w : Nat} {g : α → List Byte} (each : ∀ a, (g a).length = w) (l : List α) (i : Nat) :
    (l.flatMap g).drop (w * i) = (l.drop i).flatMap g := by
  induction i generalizing l with
  | zero => simp
  | succ i ih =>
    cases l with
    | nil => simp
    | cons a l =>
      have nothing : (g a).drop w = [] := List.drop_of_length_le (by rw [each])
      rw [List.flatMap_cons, Nat.mul_succ, Nat.add_comm, ← List.drop_drop, List.drop_append_of_le_length (by rw [each]),
        nothing, List.nil_append, ih]
      rfl

/-- A field of the i-th entry of a run. -/
theorem fieldAt_flatMap {α : Type} {w : Nat} {g : α → List Byte} (each : ∀ a, (g a).length = w) {l : List α} {i : Nat}
    {a : α} (found : l[i]? = some a) (post : List Byte) {off n : Nat} (fits : off + n ≤ w) :
    fieldAt (l.flatMap g ++ post) (w * i + off) n = fieldAt (g a) off n := by
  have within : i < l.length := (List.getElem?_eq_some_iff.mp found).1
  have length : (l.flatMap g).length = w * l.length := by
    rw [List.length_flatMap, List.map_congr_left (fun a _ => each a)]
    simp [Nat.mul_comm]
  have room : w * i + w ≤ w * l.length := by
    rw [← Nat.mul_succ]
    exact Nat.mul_le_mul_left w within
  rw [fieldAt_append_left (by omega), fieldAt_eq, ← List.drop_drop, drop_flatMap each, List.drop_eq_getElem_cons within,
    List.flatMap_cons, ← fieldAt_eq, fieldAt_append_left (by rw [each]; exact fits)]
  obtain ⟨_, rfl⟩ := List.getElem?_eq_some_iff.mp found
  rfl

theorem getElem?_finRange {n : Nat} (k : Fin n) : (List.finRange n)[k.val]? = some k := by
  simp

/-- The byte of one of n lanes. -/
theorem fieldAt_map_finRange {n : Nat} (f : Fin n → Byte) (post : List Byte) (k : Fin n) :
    fieldAt ((List.finRange n).map f ++ post) k.val 1 = (f k).toNat := by
  rw [fieldAt_append_left (by simp), fieldAt_one, List.getD_eq_getElem _ _ (by simp)]
  simp

/-! ## The PEER payload -/

/-- The PEER payload up to the lane states. -/
def peerFront (s : Station) (r : PeerRecord) : List Byte :=
  [presenceByte r.serial.isSome r.announced.isSome r.echoDelay.isSome r.offset.isSome,
    BitVec.ofNat 8 s.number, r.state.code] ++
  serialBytes r.serial ++ announcedBytes r ++
  [markByte r.talkActive + (if r.reseed then 2 else 0), BitVec.ofNat 8 r.resyncSeen] ++
  beBytes 2 r.lastSequence.toNat ++ beBytes 2 r.gapCount ++ beBytes 2 r.outOfOrder ++
  beBytes 6 r.lastHeard.toNat ++ beBytes 2 r.quietCount ++ beBytes 2 r.joinCount ++
  beInt 4 (r.offset.getD 0) ++ [BitVec.ofNat 8 r.measurements, BitVec.ofNat 8 r.outlierRun] ++
  beBytes 2 r.lagCurrent ++ beBytes 2 r.lagPrevious ++
  beBytes 2 r.late ++ beBytes 2 r.early ++ beBytes 2 r.duplicate ++ beBytes 2 r.format ++ beBytes 2 r.unsettled

theorem announcedBytes_length (r : PeerRecord) : (announcedBytes r).length = 18 := by
  unfold announcedBytes
  split <;> simp

theorem serialBytes_length (n : Option Serial) : (serialBytes n).length = 6 := beBytes_length ..

theorem peerFront_length (s : Station) (r : PeerRecord) : (peerFront s r).length = 65 := by
  simp [peerFront, serialBytes_length, announcedBytes_length]

theorem peerPayload_eq (p : Part) (s : Station) : peerPayload p s = peerFront s (p.peer s) ++
    ((List.finRange 9).map (fun k => (p.plu.lane s k).state.code) ++
      ((List.finRange 8).flatMap (fun k => laneMixBytes p.mxe s k) ++
        [BitVec.ofNat 8 p.imn[s].mismatchRun, markByte p.imn[s].suspect, outcomeCode p.imn[s].outcome])) := by
  rw [← List.append_assoc, ← List.append_assoc]
  unfold peerPayload peerFront
  rfl

theorem peerPayload_length (p : Part) (s : Station) : (peerPayload p s).length = 109 := by
  rw [peerPayload_eq]
  simp [peerFront_length, laneMixBytes, List.length_flatMap]

theorem fieldAt_announced_skip (r : PeerRecord) (post : List Byte) {off n : Nat} (h : 18 ≤ off) :
    fieldAt (announcedBytes r ++ post) off n = fieldAt post (off - 18) n := by
  rw [fieldAt_skip (by rw [announcedBytes_length]; exact h), announcedBytes_length]

theorem fieldAt_announced (r : PeerRecord) (post : List Byte) {off n : Nat} (h : off + n ≤ 18) :
    fieldAt (announcedBytes r ++ post) off n = fieldAt (announcedBytes r) off n :=
  fieldAt_append_left (by rw [announcedBytes_length]; exact h)

section
variable (p : Part) (s : Station)

theorem peerPayload_after (off n : Nat) : fieldAt (peerPayload p s) (65 + off) n =
    fieldAt ((List.finRange 9).map (fun k => (p.plu.lane s k).state.code) ++
      ((List.finRange 8).flatMap (fun k => laneMixBytes p.mxe s k) ++
        [BitVec.ofNat 8 p.imn[s].mismatchRun, markByte p.imn[s].suspect, outcomeCode p.imn[s].outcome])) off n := by
  rw [peerPayload_eq, ← peerFront_length s (p.peer s)]
  exact fieldAt_append_right ..

theorem peerPayload_lane (k : LaneNo) :
    fieldAt (peerPayload p s) (65 + k.val) 1 = ((p.plu.lane s k).state.code).toNat := by
  rw [peerPayload_after, fieldAt_map_finRange]

theorem peerPayload_tail (off n : Nat) : fieldAt (peerPayload p s) (74 + off) n =
    fieldAt ((List.finRange 8).flatMap (fun k => laneMixBytes p.mxe s k) ++
      [BitVec.ofNat 8 p.imn[s].mismatchRun, markByte p.imn[s].suspect, outcomeCode p.imn[s].outcome]) off n := by
  rw [show 74 + off = 65 + (9 + off) by omega, peerPayload_after, fieldAt_skip (by simp)]
  simp

theorem peerPayload_mix (k : ProgLane) {j : Nat} (h : j + 1 ≤ 4) :
    fieldAt (peerPayload p s) (74 + (4 * k.val + j)) 1 = fieldAt (laneMixBytes p.mxe s k) j 1 := by
  rw [peerPayload_tail]
  exact fieldAt_flatMap (w := 4) (fun _ => rfl) (getElem?_finRange k) _ h

/-- A field of the front, before the lane states. -/
theorem peerPayload_front {off n : Nat} (h : off + n ≤ 65) :
    fieldAt (peerPayload p s) off n = fieldAt (peerFront s (p.peer s)) off n := by
  rw [peerPayload_eq, fieldAt_append_left (by rw [peerFront_length]; exact h)]

end

theorem peerFront_announced (s : Station) (r : PeerRecord) {off n : Nat} (h : off + n ≤ 18) :
    fieldAt (peerFront s r) (9 + off) n = fieldAt (announcedBytes r) off n := by
  simp only [peerFront, List.append_assoc]
  rw [← List.append_assoc, show 9 + off = ([presenceByte r.serial.isSome r.announced.isSome r.echoDelay.isSome
    r.offset.isSome, BitVec.ofNat 8 s.number, r.state.code] ++ serialBytes r.serial).length + off by
    simp [serialBytes_length], fieldAt_append_right, fieldAt_announced r _ h]

theorem presenceByte_toNat (a b c d : Bool) : (presenceByte a b c d).toNat =
    (if a = true then 1 else 0) + 2 * (if b = true then 1 else 0) + 4 * (if c = true then 1 else 0) +
      8 * (if d = true then 1 else 0) := by
  revert a b c d
  decide

theorem marksByte_toNat (a b : Bool) : (markByte a + (if b = true then 2 else 0)).toNat =
    (if a = true then 1 else 0) + 2 * (if b = true then 1 else 0) := by
  revert a b
  decide

theorem announcedBytes_echo (r : PeerRecord) : fieldAt (announcedBytes r) 2 3 = r.echoDelay.getD 0 % 256 ^ 3 := by
  unfold announcedBytes
  split <;> simp only [List.append_assoc, List.cons_append, List.nil_append, fieldAt_cons_byte, fieldAt_beBytes,
    Nat.reduceSub, Nat.reduceLeDiff]

/-- The announced values of a record that holds none are 0. -/
theorem announcedBytes_none {r : PeerRecord} (none : r.announced = none) :
    fieldAt (announcedBytes r) 0 2 = 0 ∧ fieldAt (announcedBytes r) 5 13 = 0 := by
  have layout : announcedBytes r = ([0, 0] ++ beBytes 3 (r.echoDelay.getD 0)) ++ List.replicate 13 0 := by
    rw [announcedBytes, none]
  constructor
  · rw [layout, List.append_assoc, fieldAt_append_left (by simp)]
    rfl
  · rw [layout, fieldAt_skip (by simp)]
    simp [fieldAt]

/-- The announced values before the roles. -/
def announcedFront (r : PeerRecord) (a : Announced) : List Byte :=
  [if a.onAir then StationState.onAir.code else StationState.listening.code, a.mode.code] ++
    beBytes 3 (r.echoDelay.getD 0) ++ beBytes 3 a.horizon ++ [BitVec.ofNat 8 a.laneCount]

theorem announcedBytes_eq {r : PeerRecord} {a : Announced} (some_ : r.announced = some a) :
    announcedBytes r = announcedFront r a ++ (a.roles.toList.map SlotRole.code ++
      [BitVec.ofNat 8 (a.talkDestination.getD 0xFF)]) := by
  rw [announcedBytes, some_, ← List.append_assoc]
  rfl

theorem announcedFront_length (r : PeerRecord) (a : Announced) : (announcedFront r a).length = 9 := by
  simp [announcedFront]

/-- The roles of a record's announced values. -/
theorem announcedBytes_role {r : PeerRecord} {a : Announced} (some_ : r.announced = some a) (k : ProgLane) :
    fieldAt (announcedBytes r) (9 + k.val) 1 = (a.roles[k].code).toNat := by
  rw [announcedBytes_eq some_, ← announcedFront_length r a, fieldAt_append_right,
    fieldAt_append_left (by simp), fieldAt_one, List.getD_eq_getElem _ _ (by simp)]
  simp

/-- The other announced values of a record. -/
theorem announcedBytes_some {r : PeerRecord} {a : Announced} (some_ : r.announced = some a) :
    fieldAt (announcedBytes r) 0 1 = (if a.onAir = true then 2 else 1) ∧
      fieldAt (announcedBytes r) 1 1 = a.mode.code.toNat ∧ fieldAt (announcedBytes r) 5 3 = a.horizon % 16777216 ∧
      fieldAt (announcedBytes r) 8 1 = a.laneCount % 256 ∧
      fieldAt (announcedBytes r) 17 1 = a.talkDestination.getD 255 % 256 := by
  have destination : fieldAt (announcedBytes r) 17 1 = a.talkDestination.getD 255 % 256 := by
    rw [announcedBytes_eq some_, fieldAt_skip (by simp [announcedFront_length]), fieldAt_skip (by
      simp [announcedFront_length]), announcedFront_length]
    simp [fieldAt_cons_zero]
  have state : (if a.onAir then StationState.onAir.code else StationState.listening.code).toNat =
      if a.onAir = true then 2 else 1 := by cases a.onAir <;> rfl
  refine ⟨?_, ?_, ?_, ?_, destination⟩ <;> rw [announcedBytes_eq some_] <;>
    simp only [announcedFront, List.append_assoc, List.cons_append, List.nil_append, fieldAt_cons_byte, fieldAt_cons_zero,
      fieldAt_beBytes, fieldAt_beBytes_skip, Nat.reduceSub, Nat.reduceLeDiff, Nat.reducePow, BitVec.toNat_ofNat, state]

/-- A single field of the front that is no announced value. -/
theorem peerFront_fields (s : Station) (r : PeerRecord) :
    let f := fieldAt (peerFront s r)
    f 0 1 = (presenceByte r.serial.isSome r.announced.isSome r.echoDelay.isSome r.offset.isSome).toNat ∧
      f 1 1 = s.val + 1 ∧ f 2 1 = r.state.code.toNat ∧ f 3 6 = (r.serial.map BitVec.toNat).getD 0 % 2 ^ 48 ∧
      f 27 1 = (markByte r.talkActive + (if r.reseed = true then 2 else 0)).toNat ∧ f 28 1 = r.resyncSeen % 256 ∧
      f 29 2 = r.lastSequence.toNat % 65536 ∧ f 31 2 = r.gapCount % 65536 ∧ f 33 2 = r.outOfOrder % 65536 ∧
      f 35 6 = r.lastHeard.toNat % 2 ^ 48 ∧ f 41 2 = r.quietCount % 65536 ∧ f 43 2 = r.joinCount % 65536 ∧
      (f 45 4 : Int) = r.offset.getD 0 % 4294967296 ∧ f 49 1 = r.measurements % 256 ∧ f 50 1 = r.outlierRun % 256 ∧
      f 51 2 = r.lagCurrent % 65536 ∧ f 53 2 = r.lagPrevious % 65536 ∧ f 55 2 = r.late % 65536 ∧
      f 57 2 = r.early % 65536 ∧ f 59 2 = r.duplicate % 65536 ∧ f 61 2 = r.format % 65536 ∧
      f 63 2 = r.unsettled % 65536 := by
  intro f
  have last (n v : Nat) : fieldAt (beBytes n v) 0 n = v % 256 ^ n := by
    have h := fieldAt_beBytes n v []
    rwa [List.append_nil] at h
  simp only [f, peerFront, List.append_assoc, List.cons_append, List.nil_append, serialBytes, fieldAt_cons_byte,
    fieldAt_cons_zero, fieldAt_beInt, fieldAt_beInt_skip, fieldAt_beBytes, fieldAt_beBytes_skip, fieldAt_announced_skip,
    last, Nat.reduceSub, Nat.reduceLeDiff, Station.number_mod, Nat.reducePow, Int.reducePow, BitVec.toNat_ofNat, and_self]

/-! ## The PEER payload of the own number -/

/-- The own PEER payload up to the roles. -/
def ownFront (p : Part) : List Byte :=
  [presenceByte true true p.liu.validEcho.isSome false, BitVec.ofNat 8 p.sul.own.number, RecordState.absent.code] ++
  serialBytes (some p.sul.serial) ++ [p.cap.station.announcedCode, p.tau.mode.code] ++
  beBytes 3 (p.liu.validEcho.getD 0) ++ beInt 3 p.horizon ++ [BitVec.ofNat 8 p.settings.laneCount]

theorem ownFront_length (p : Part) : (ownFront p).length = 18 := by simp [ownFront, serialBytes_length]

theorem ownPeerPayload_eq (p : Part) : ownPeerPayload p = ownFront p ++ (roleBytes p.settings ++
    ([p.cap.session.announced.getD 0xFF] ++ (List.replicate 38 0 ++ (List.replicate 9 0xFF ++
      ((List.finRange 8).flatMap (fun k => ([0xFF, 0xFF, p.mxe.map[p.sul.own][k].code, 0] : List Byte)) ++
        List.replicate 3 0))))) := by
  rw [← List.append_assoc, ← List.append_assoc, ← List.append_assoc, ← List.append_assoc, ← List.append_assoc]
  rfl

theorem roleBytes_length (set : Settings) : (roleBytes set).length = 8 := by simp [roleBytes, allProgLanes]

theorem ownPeerPayload_length (p : Part) : (ownPeerPayload p).length = 109 := by
  rw [ownPeerPayload_eq]
  simp [ownFront_length, roleBytes_length, List.length_flatMap]

theorem ownFront_fields (p : Part) :
    let f := fieldAt (ownFront p)
    f 0 1 = (if p.liu.validEcho.isSome = true then 7 else 3) ∧ f 1 1 = p.sul.own.val + 1 ∧ f 2 1 = 0 ∧
      f 3 6 = p.sul.serial.toNat % 2 ^ 48 ∧ f 9 1 = p.cap.station.announcedCode.toNat ∧ f 10 1 = p.tau.mode.code.toNat ∧
      f 11 3 = p.liu.validEcho.getD 0 % 16777216 ∧ (f 14 3 : Int) = p.horizon % 16777216 ∧
      f 17 1 = p.settings.laneCount % 256 := by
  have presence : (presenceByte true true p.liu.validEcho.isSome false).toNat =
      if p.liu.validEcho.isSome = true then 7 else 3 := by
    cases p.liu.validEcho.isSome <;> rfl
  intro f
  simp only [f, ownFront, List.append_assoc, List.cons_append, List.nil_append, serialBytes, fieldAt_cons_byte,
    fieldAt_cons_zero, fieldAt_beInt, fieldAt_beInt_skip, fieldAt_beBytes, fieldAt_beBytes_skip, Nat.reduceSub,
    Nat.reduceLeDiff, Station.number_mod, Nat.reducePow, Int.reducePow, BitVec.toNat_ofNat, presence, Option.map_some,
    Option.getD_some, and_self, and_true, true_and]
  rfl

section
variable (p : Part)

theorem ownPeerPayload_front {off n : Nat} (h : off + n ≤ 18) :
    fieldAt (ownPeerPayload p) off n = fieldAt (ownFront p) off n := by
  rw [ownPeerPayload_eq, fieldAt_append_left (by rw [ownFront_length]; exact h)]

theorem ownPeerPayload_role (k : ProgLane) : fieldAt (ownPeerPayload p) (18 + k.val) 1 =
    (if k.val < p.settings.laneCount then p.settings.roles[k].code else SlotRole.none.code).toNat := by
  rw [ownPeerPayload_eq, ← ownFront_length p, fieldAt_append_right]
  exact fieldAt_map_finRange ..

theorem ownPeerPayload_rest (off n : Nat) : fieldAt (ownPeerPayload p) (26 + off) n =
    fieldAt ([p.cap.session.announced.getD 0xFF] ++ (List.replicate 38 0 ++ (List.replicate 9 0xFF ++
      ((List.finRange 8).flatMap (fun k => ([0xFF, 0xFF, p.mxe.map[p.sul.own][k].code, 0] : List Byte)) ++
        List.replicate 3 0)))) off n := by
  rw [ownPeerPayload_eq, show 26 + off = (ownFront p).length + ((roleBytes p.settings).length + off) by
    rw [ownFront_length, roleBytes_length]; omega, fieldAt_append_right, fieldAt_append_right]

theorem fieldAt_replicate (b : Byte) (post : List Byte) {n i : Nat} (h : i < n) :
    fieldAt (List.replicate n b ++ post) i 1 = b.toNat := by
  rw [fieldAt_append_left (by rw [List.length_replicate]; omega), fieldAt_one, List.getD_eq_getElem _ _ (by simpa using h)]
  simp

theorem ownPeerPayload_tail (off n : Nat) : fieldAt (ownPeerPayload p) (74 + off) n =
    fieldAt ((List.finRange 8).flatMap (fun k => ([0xFF, 0xFF, p.mxe.map[p.sul.own][k].code, 0] : List Byte)) ++
        List.replicate 3 0) off n := by
  rw [show 74 + off = 26 + (1 + (38 + (9 + off))) by omega, ownPeerPayload_rest]
  refine (fieldAt_append_right [_] _ _ _).trans ?_
  refine (fieldAt_append_right (List.replicate 38 0) _ (9 + off) n).trans ?_
  exact fieldAt_append_right (List.replicate 9 0xFF) _ off n

end

/-! ## FAULT and FAULTS -/

theorem subjectBytes_length (x : FaultSubject) : (subjectBytes x).length = 2 := by cases x <;> rfl

theorem faultBytes_length (r : FaultRecord) : (faultBytes r).length = 12 := by simp [faultBytes, subjectBytes_length]

theorem fieldAt_subject_skip (x : FaultSubject) (post : List Byte) {off n : Nat} (h : 2 ≤ off) :
    fieldAt (subjectBytes x ++ post) off n = fieldAt post (off - 2) n := by
  rw [fieldAt_skip (by rw [subjectBytes_length]; exact h), subjectBytes_length]

theorem faultBytes_fields (r : FaultRecord) :
    fieldAt (faultBytes r) 0 1 = r.key.kind.code.toNat ∧ fieldAt (faultBytes r) 3 1 = (detailCode r.detail).toNat ∧
      fieldAt (faultBytes r) 4 1 = (if r.active = true then 1 else 2) ∧
      fieldAt (faultBytes r) 5 6 = r.firstBlock % 281474976710656 ∧ fieldAt (faultBytes r) 11 1 = r.count % 256 := by
  have active : (if r.active then 0x01 else 0x02 : Byte).toNat = if r.active = true then 1 else 2 := by
    cases r.active <;> rfl
  simp only [faultBytes, List.append_assoc, List.cons_append, List.nil_append, fieldAt_cons_byte, fieldAt_cons_zero,
    fieldAt_subject_skip, fieldAt_beBytes, fieldAt_beBytes_skip, Nat.reduceSub, Nat.reduceLeDiff, Nat.reducePow,
    BitVec.toNat_ofNat, active, and_self]

theorem faultBytes_subject (r : FaultRecord) {off n : Nat} (h : off + n ≤ 2) :
    fieldAt (faultBytes r) (1 + off) n = fieldAt (subjectBytes r.key.subject) off n := by
  have layout : faultBytes r = [r.key.kind.code] ++ (subjectBytes r.key.subject ++
      ([detailCode r.detail, if r.active then 0x01 else 0x02] ++ (beBytes 6 r.firstBlock ++ [BitVec.ofNat 8 r.count]))) := by
    simp only [faultBytes, List.append_assoc]
  rw [layout]
  exact (fieldAt_append_right [_] _ off n).trans (fieldAt_append_left (by rw [subjectBytes_length]; exact h))

/-- A frame of a FAULTS report: the list's length, the position of the first record, the records. -/
def faultsFrame (length : Nat) (position : Byte) (rs : List FaultRecord) : List Byte :=
  BitVec.ofNat 8 length :: position :: rs.flatMap faultBytes

theorem faultsReport_payloads (rs : List FaultRecord) : (faultsReport rs).payloads =
    if rs.length ≤ 16 then [faultsFrame rs.length 1 rs]
    else [faultsFrame rs.length 1 (rs.take 16), faultsFrame rs.length 17 (rs.drop 16)] := rfl

theorem faultsReport_one {rs : List FaultRecord} {b : List Byte} (payload : (faultsReport rs).payloads = [b]) :
    faultsFrame rs.length 1 rs = b := by
  rw [faultsReport_payloads] at payload
  split at payload
  · exact List.head_eq_of_cons_eq payload
  · exact absurd (congrArg List.length payload) (by simp)

theorem faultsReport_two {rs : List FaultRecord} {b c : List Byte} (payload : (faultsReport rs).payloads = [b, c]) :
    faultsFrame rs.length 1 (rs.take 16) = b ∧ faultsFrame rs.length 17 (rs.drop 16) = c := by
  rw [faultsReport_payloads] at payload
  split at payload
  · exact absurd (congrArg List.length payload) (by simp)
  · simpa using payload

theorem faultsFrame_length (length : Nat) (position : Byte) (rs : List FaultRecord) :
    (faultsFrame length position rs).length = 2 + 12 * rs.length := by
  have run : (rs.flatMap faultBytes).length = 12 * rs.length := by
    rw [List.length_flatMap, List.map_congr_left (fun r _ => faultBytes_length r)]
    simp [Nat.mul_comm]
  rw [faultsFrame, List.length_cons, List.length_cons, run]
  omega

theorem faultsFrame_record {rs : List FaultRecord} {i : Nat} {r : FaultRecord} (found : rs[i]? = some r) (length : Nat)
    (position : Byte) : ((faultsFrame length position rs).drop (2 + 12 * i)).take 12 = faultBytes r := by
  obtain ⟨within, rfl⟩ := List.getElem?_eq_some_iff.mp found
  rw [faultsFrame, ← List.drop_drop]
  change ((rs.flatMap faultBytes).drop (12 * i)).take 12 = _
  rw [drop_flatMap faultBytes_length, List.drop_eq_getElem_cons within, List.flatMap_cons,
    List.take_append_of_le_length (by rw [faultBytes_length]), List.take_of_length_le (by rw [faultBytes_length])]

theorem statusPayload_length (p : Part) : (statusPayload p).length = 57 := by simp [statusPayload]

/-- The check byte makes the byte sum a multiple of 256 (R185). -/
theorem byteSum_panelFrame (type : Byte) (payload : List Byte) : byteSum (panelFrame type payload) = 0 := by
  rw [panelFrame, byteSum_append]
  generalize byteSum (type :: BitVec.ofNat 8 payload.length :: payload) = sum
  simp [byteSum]

/-- Settles O17: lengths, check bytes, and every field of every report. -/
theorem reportPayloadsCarryTheirFields : Obligations.ReportPayloadsCarryTheirFields := by
  refine ⟨?_, ?_, ?_, ?_, ?_, ?_, ?_, ?_, ?_, ?_, ?_, ?_, ?_, ?_, ?_⟩
  · exact fun p => ⟨statusPayload_length p, ownPeerPayload_length p, fun x => peerPayload_length p x⟩
  · intro m
    simp [meterReport, List.length_flatMap]
  · exact fun r => congrArg (fun n => [n]) (faultBytes_length r)
  · exact fun _ _ => rfl
  · intro rs few
    rw [faultsReport_payloads, if_pos few]
    exact congrArg (fun n => [n]) (faultsFrame_length ..)
  · intro rs many
    rw [faultsReport_payloads, if_neg (by omega), List.map_cons, List.map_cons, faultsFrame_length, faultsFrame_length,
      List.length_take, List.length_drop, Nat.min_eq_left (by omega)]
    rfl
  · intro r f hf
    obtain ⟨payload, -, rfl⟩ := List.mem_map.mp hf
    exact byteSum_panelFrame ..
  · intro p v mark
    simp only [v, mark, statusPayload, List.append_assoc, List.cons_append, List.nil_append, fieldAt_cons_byte,
      fieldAt_cons_zero, fieldAt_beInt, fieldAt_beInt_skip, fieldAt_beBytes, fieldAt_beBytes_skip, Nat.reduceSub,
      Nat.reduceLeDiff, Station.number_mod, markByte_toNat, Cap.pendingRequest_eq, Liu.validEcho_eq, Part.started,
      Nat.reducePow, Int.reducePow, BitVec.toNat_ofNat, true_and, and_true]
    refine ⟨?_, ?_, ?_, ?_, ?_, ?_, ?_⟩
    · cases p.sul.role <;> rfl
    · cases p.sul.source <;> rfl
    · cases p.cap.station <;> rfl
    · cases p.tau.mode <;> rfl
    · intro e valid echo small
      rw [if_pos valid, echo]
      exact Nat.mod_eq_of_lt (by simp; omega)
    · intro invalid
      rw [if_neg invalid]
      rfl
    · by_cases stopped : p.plu.position = none <;> simp [stopped, Option.isSome_iff_ne_none]
  · intro p x v mark r
    have front {off n : Nat} (h : off + n ≤ 65) : v off n = fieldAt (peerFront x r) off n := peerPayload_front p x h
    have announced {off n : Nat} (h : off + n ≤ 18) : v (9 + off) n = fieldAt (announcedBytes r) off n :=
      (front (by omega)).trans (peerFront_announced x r h)
    have tail (i : Nat) : v (74 + (32 + i)) 1 = (([BitVec.ofNat 8 p.imn[x].mismatchRun, markByte p.imn[x].suspect,
        outcomeCode p.imn[x].outcome] : List Byte).getD i 0).toNat := by
      have run : ((List.finRange 8).flatMap fun k => laneMixBytes p.mxe x k).length = 32 := by
        simp [laneMixBytes, List.length_flatMap]
      rw [← run]
      exact (peerPayload_tail p x _ 1).trans ((fieldAt_append_right ..).trans (fieldAt_one ..))
    obtain ⟨presence, number, state, serial, active, seen, sequence, gap, disorder, heard, quiet, join, offset,
      measured, run, current, previous, late, early, duplicate, format, unsettled⟩ := peerFront_fields x r
    refine ⟨(front (by decide)).trans (presence.trans (presenceByte_toNat ..)), (front (by decide)).trans number, ?_, ?_,
      (announced (off := 2) (by decide)).trans ?_, fun none => ?_, fun a some_ => ?_,
      (front (by decide)).trans (active.trans (marksByte_toNat ..)), (front (by decide)).trans seen, ?_,
      (front (by decide)).trans gap, (front (by decide)).trans disorder, ?_, (front (by decide)).trans quiet,
      (front (by decide)).trans join, ?_, (front (by decide)).trans measured, (front (by decide)).trans run,
      (front (by decide)).trans current, (front (by decide)).trans previous, (front (by decide)).trans late,
      (front (by decide)).trans early, (front (by decide)).trans duplicate, (front (by decide)).trans format,
      (front (by decide)).trans unsettled, fun k => ?_, fun k => ?_, ?_, ?_, ?_⟩
    · exact (front (by decide)).trans (state.trans (by cases r.state <;> rfl))
    · refine (front (by decide)).trans (serial.trans ?_)
      cases r.serial with
      | none => rfl
      | some n => exact Nat.mod_eq_of_lt n.isLt
    · rw [announcedBytes_echo]
      cases r.echoDelay <;> rfl
    · exact ⟨(announced (off := 0) (by decide)).trans (announcedBytes_none none).1,
        (announced (off := 5) (by decide)).trans (announcedBytes_none none).2⟩
    · obtain ⟨onAir, mode, horizon, lanes, destination⟩ := announcedBytes_some some_
      refine ⟨(announced (off := 0) (by decide)).trans onAir, (announced (off := 1) (by decide)).trans (mode.trans ?_),
        (announced (off := 5) (by decide)).trans horizon, (announced (off := 8) (by decide)).trans lanes, fun k => ?_,
        (announced (off := 17) (by decide)).trans (destination.trans ?_)⟩
      · cases a.mode <;> rfl
      · rw [show 18 + k.val = 9 + (9 + k.val) by omega]
        refine (announced (by omega)).trans ((announcedBytes_role some_ k).trans ?_)
        cases a.roles[k] <;> rfl
      · cases a.talkDestination <;> rfl
    · exact (front (by decide)).trans (sequence.trans (Nat.mod_eq_of_lt r.lastSequence.isLt))
    · exact (front (by decide)).trans (heard.trans (Nat.mod_eq_of_lt r.lastHeard.isLt))
    · refine (congrArg Nat.cast (front (by decide))).trans (offset.trans ?_)
      cases r.offset <;> rfl
    · refine (peerPayload_lane p x k).trans ?_
      cases state : (p.plu.lane x k).state with
      | concealing n => exact (BitVec.toNat_ofNat ..).trans (Nat.mod_eq_of_lt (by omega))
      | _ => rfl
    · have mix {j : Nat} (h : j + 1 ≤ 4) : v (74 + (4 * k.val + j)) 1 = ((laneMixBytes p.mxe x k).getD j 0).toNat :=
        (peerPayload_mix p x k h).trans (fieldAt_one ..)
      refine ⟨(mix (j := 0) (by decide)).trans ?_, ?_, ?_, ?_⟩
      · change ((p.mxe.switches[x][k]).state.code).toNat = _
        cases (p.mxe.switches[x][k]).state <;> rfl
      · rw [show 75 + 4 * k.val = 74 + (4 * k.val + 1) by omega, mix (by decide)]
        change (match (p.mxe.switches[x][k]).inUse with | some u => BitVec.ofNat 8 u.val | none => 0xFF).toNat = _
        cases (p.mxe.switches[x][k]).inUse with
        | none => rfl
        | some u => exact (BitVec.toNat_ofNat ..).trans (Nat.mod_eq_of_lt (by omega))
      · rw [show 76 + 4 * k.val = 74 + (4 * k.val + 2) by omega, mix (by decide)]
        change (p.mxe.map[x][k].code).toNat = _
        cases p.mxe.map[x][k] with
        | byRole => rfl
        | group g => exact (BitVec.toNat_ofNat ..).trans (Nat.mod_eq_of_lt (by omega))
      · rw [show 77 + 4 * k.val = 74 + (4 * k.val + 3) by omega, mix (by decide)]
        exact (BitVec.toNat_ofNat ..).trans (Nat.mod_eq_of_lt (by omega))
    · exact (tail 0).trans (BitVec.toNat_ofNat ..)
    · exact (tail 1).trans (markByte_toNat _)
    · refine (tail 2).trans ?_
      change (outcomeCode p.imn[x].outcome).toNat = _
      rcases p.imn[x].outcome with _ | outcome
      · rfl
      · cases outcome <;> rfl
  · intro p v
    have front {off n : Nat} (h : off + n ≤ 18) : v off n = fieldAt (ownFront p) off n := ownPeerPayload_front p h
    obtain ⟨presence, number, state, serial, station, mode, echo, horizon, lanes⟩ := ownFront_fields p
    rw [Liu.validEcho_eq] at presence echo
    refine ⟨(front (by decide)).trans (presence.trans ?_), (front (by decide)).trans number,
      (front (by decide)).trans state, (front (by decide)).trans (serial.trans (Nat.mod_eq_of_lt p.sul.serial.isLt)),
      (front (by decide)).trans (station.trans ?_), (front (by decide)).trans (mode.trans ?_), fun e valid held small => ?_,
      fun invalid => ?_, (congrArg Nat.cast (front (by decide))).trans horizon, (front (by decide)).trans lanes,
      fun k => (ownPeerPayload_role p k).trans ?_, ?_, fun i hi => ?_, fun k => ?_, ?_, fun k => ⟨?_, ?_, ?_⟩⟩
    · by_cases valid : p.liu.echoCount = 4 <;> simp [valid, Option.isSome_iff_ne_none]
    · cases p.cap.station <;> rfl
    · cases p.tau.mode <;> rfl
    · refine (front (by decide)).trans (echo.trans ?_)
      rw [if_pos valid, held]
      exact Nat.mod_eq_of_lt (by simp; omega)
    · refine (front (by decide)).trans (echo.trans ?_)
      rw [if_neg invalid]
      rfl
    · by_cases below : k.val < p.settings.laneCount
      · rw [if_pos below, if_neg (by omega)]
        cases p.settings.roles[k] <;> rfl
      · rw [if_neg below, if_pos (by omega)]
        rfl
    · refine (ownPeerPayload_rest p 0 1).trans ?_
      cases h : p.cap.session.announced <;> simp [fieldAt_cons_zero]
    · rw [show 27 + i = 26 + (1 + i) by omega]
      refine (ownPeerPayload_rest p (1 + i) 1).trans ((fieldAt_append_right [_] _ i 1).trans ?_)
      exact fieldAt_replicate 0 _ hi
    · rw [show 65 + k.val = 26 + (1 + (38 + k.val)) by omega]
      refine (ownPeerPayload_rest p _ 1).trans ((fieldAt_append_right [_] _ _ 1).trans ?_)
      refine (fieldAt_append_right (List.replicate 38 0) _ k.val 1).trans ?_
      exact fieldAt_replicate 0xFF _ k.isLt
    · have run : ((List.finRange 8).flatMap fun k => ([0xFF, 0xFF, p.mxe.map[p.sul.own][k].code, 0] : List Byte)).length =
          32 := by simp [List.length_flatMap]
      refine (ownPeerPayload_tail p 32 3).trans ?_
      rw [fieldAt_skip (by rw [run]), run]
      rfl
    · exact (ownPeerPayload_tail p (4 * k.val) 2).trans
        (fieldAt_flatMap (w := 4) (fun _ => rfl) (getElem?_finRange k) _ (off := 0) (by decide))
    · rw [show 76 + 4 * k.val = 74 + (4 * k.val + 2) by omega]
      refine (ownPeerPayload_tail p _ 1).trans
        ((fieldAt_flatMap (w := 4) (fun _ => rfl) (getElem?_finRange k) _ (by decide)).trans ?_)
      rw [fieldAt_one]
      change (p.mxe.map[p.sul.own][k].code).toNat = _
      cases p.mxe.map[p.sul.own][k] with
      | byRole => rfl
      | group g => exact (BitVec.toNat_ofNat ..).trans (Nat.mod_eq_of_lt (by omega))
    · rw [show 77 + 4 * k.val = 74 + (4 * k.val + 3) by omega]
      exact (ownPeerPayload_tail p _ 1).trans
        (fieldAt_flatMap (w := 4) (fun _ => rfl) (getElem?_finRange k) _ (by decide))
  · intro m b payload o
    obtain rfl : _ = b := List.head_eq_of_cons_eq payload
    have each (o : OutputNo) : (beBytes 3 m.peaks[o] ++ [markByte m.clips[o]]).length = 4 := by simp
    rw [← List.append_nil ((List.finRange 8).flatMap _)]
    refine ⟨(fieldAt_flatMap each (getElem?_finRange o) [] (off := 0) (by decide)).trans (fieldAt_beBytes ..),
      (fieldAt_flatMap each (getElem?_finRange o) [] (by decide)).trans ?_⟩
    rw [fieldAt_beBytes_skip _ _ _ (by decide)]
    exact (fieldAt_cons_zero ..).trans (markByte_toNat _)
  · intro r b payload v
    obtain rfl : faultBytes r = b := List.head_eq_of_cons_eq payload
    obtain ⟨kind, detail, active, block, count⟩ := faultBytes_fields r
    refine ⟨kind.trans ?_, fun h => ?_, fun x h => ?_, fun x k h => ?_, detail.trans ?_, active, block, count⟩
    · cases r.key.kind <;> rfl
    · have none := faultBytes_subject r (off := 0) (n := 1) (by decide)
      have lane := faultBytes_subject r (off := 1) (n := 1) (by decide)
      rw [h] at none lane
      exact ⟨none, lane⟩
    · have station := faultBytes_subject r (off := 0) (n := 1) (by decide)
      have lane := faultBytes_subject r (off := 1) (n := 1) (by decide)
      rw [h] at station lane
      exact ⟨station.trans ((fieldAt_cons_zero ..).trans ((BitVec.toNat_ofNat ..).trans (Station.number_mod x))), lane⟩
    · have station := faultBytes_subject r (off := 0) (n := 1) (by decide)
      have lane := faultBytes_subject r (off := 1) (n := 1) (by decide)
      rw [h] at station lane
      refine ⟨station.trans ((fieldAt_cons_zero ..).trans ((BitVec.toNat_ofNat ..).trans (Station.number_mod x))), lane.trans ?_⟩
      exact (fieldAt_one ..).trans ((BitVec.toNat_ofNat ..).trans (Nat.mod_eq_of_lt (by omega)))
    · rcases r.detail with _ | verdict
      · rfl
      · cases verdict <;> rfl
  · intro rs b payload
    obtain rfl := faultsReport_one payload
    refine ⟨(fieldAt_cons_zero ..).trans (BitVec.toNat_ofNat ..), fieldAt_cons_zero .., fun i r found => ?_⟩
    rw [faultReport, faultsFrame_record found]
  · intro rs b c payload
    obtain ⟨rfl, rfl⟩ := faultsReport_two payload
    refine ⟨(fieldAt_cons_zero ..).trans (BitVec.toNat_ofNat ..), (fieldAt_cons_zero ..).trans (BitVec.toNat_ofNat ..),
      fieldAt_cons_zero .., fieldAt_cons_zero .., fun i r found => ?_⟩
    rw [faultReport]
    split
    · next first => rw [faultsFrame_record (by rw [List.getElem?_take_of_lt first]; exact found)]
    · next second => rw [faultsFrame_record (by rw [List.getElem?_drop, Nat.add_sub_cancel' (by omega)]; exact found)]
  · intro reason type
    cases reason <;> rfl

end Sys2Proof.Machine

/-! # O6: RESTART. -/

namespace Sys2Proof.Machine

/-! ## Ends of several faults at once -/

/-- The record of a key, as its end reports it (R179, R183). -/
def endedRecord (list : List FaultRecord) (key : FaultKey) : Option FaultRecord :=
  (findRecord key list).bind fun r => if r.active = true then some { r with active := false } else none

section
variable (key : FaultKey) (list : List FaultRecord)

theorem endRecord_reports : (endRecord key none list).2 = (endedRecord list key).toList := by
  unfold endRecord endedRecord
  cases findRecord key list with
  | none => rfl
  | some r => by_cases active : r.active = true <;> simp [active]

theorem endRecord_list {list : List FaultRecord} (hd : (list.map (·.key)).Nodup) : (endRecord key none list).1 =
    list.map fun r => if r.key = key then { r with active := false } else r := by
  by_cases held : ∃ r ∈ list, r.key = key ∧ r.active = true
  · obtain ⟨r, hr, rfl, active⟩ := held
    rw [endRecord_ends hd hr rfl active (.inl rfl)]
    refine List.map_congr_left fun y hy => ?_
    by_cases same : y.key = r.key
    · obtain rfl := List.inj_on_of_nodup_map hd hy hr same
      simp
    · have other : y ≠ r := fun h => same (h ▸ rfl)
      simp [same, other]
  · rw [endRecord_leaves fun r hr hk active => held ⟨r, hr, hk, active.1⟩]
    refine (List.map_congr_left fun r hr => ?_).trans (List.map_id _) |>.symm
    by_cases same : r.key = key
    · have inactive : r.active = false := by
        cases active : r.active with
        | false => rfl
        | true => exact absurd ⟨r, hr, same, active⟩ held
      rw [if_pos same, ← inactive]
      rfl
    · exact if_neg same

theorem findRecord_updateRecord {key other : FaultKey} (h : other ≠ key) {r : FaultRecord} (kept : r.key = key)
    (list : List FaultRecord) : findRecord other (updateRecord key (fun _ => r) list) = findRecord other list := by
  have same : ((fun x : FaultRecord => x.key == other) ∘ fun x => if x.key = key then r else x) =
      fun x => x.key == other := by
    funext x
    by_cases hx : x.key = key
    · simp [hx, kept]
    · simp [hx]
  rw [findRecord, updateRecord, List.find?_map, same]
  cases found : list.find? fun x => x.key == other with
  | none => rw [findRecord, found]; rfl
  | some y =>
    have hy : y.key = other := by simpa using List.find?_some found
    rw [findRecord, found, Option.map_some, if_neg (by rw [hy]; exact h)]

/-- An end leaves the records of other keys. -/
theorem findRecord_endRecord {other : FaultKey} (h : other ≠ key) :
    findRecord other (endRecord key none list).1 = findRecord other list := by
  unfold endRecord
  split
  · next r found =>
    split
    · exact findRecord_updateRecord (r := { r with active := false }) h (findRecord_some found).2 list
    · rfl
  · rfl

end

/-! ## Faults ended in order, and their reports -/

/-- The FAULT report that the end of a key's fault emits, if its mark is set and its record ACTIVE (R179, R183). -/
def Part.endReport (p : Part) (key : FaultKey) : Option FaultRecord :=
  if key ∈ p.faults.marks then endedRecord p.faults.list key else none

theorem Part.endFault_pnl (p : Part) (key : FaultKey) :
    (p.endFault key).pnl = p.pnl.emitAll ((p.endReport key).toList.map faultReport) := by
  by_cases held : key ∈ p.faults.marks
  · rw [Part.endFault_eq held, Part.withList_pnl, endRecord_reports, Part.endReport, if_pos held]
  · rw [Part.endFault_clear held, Part.endReport, if_neg held]
    rfl

theorem Part.endFault_list {p : Part} (hd : (p.faults.list.map (·.key)).Nodup) (key : FaultKey) :
    (p.endFault key).faults.list = p.faults.list.map fun r =>
      if r.key ∈ p.faults.marks ∧ r.key = key then { r with active := false } else r := by
  by_cases held : key ∈ p.faults.marks
  · rw [Part.endFault_eq held, Part.withList_faults, endRecord_list key hd]
    refine List.map_congr_left fun r _ => if_congr ⟨fun same => ⟨same ▸ held, same⟩, And.right⟩ rfl rfl
  · rw [Part.endFault_clear held]
    refine (List.map_congr_left fun r _ => ?_).trans (List.map_id _) |>.symm
    exact if_neg fun (h : r.key ∈ p.faults.marks ∧ r.key = key) => held (h.2 ▸ h.1)

theorem Part.endReport_endFault (p : Part) {key other : FaultKey} (h : other ≠ key) :
    (p.endFault key).endReport other = p.endReport other := by
  by_cases held : key ∈ p.faults.marks
  · rw [Part.endFault_eq held, Part.endReport, Part.endReport, Part.withList_faults, endedRecord, endedRecord,
      findRecord_endRecord _ _ h]
    simp [h]
  · rw [Part.endFault_clear held]

theorem Part.endFaults_pnl {keys : List FaultKey} (distinct : keys.Nodup) (p : Part) :
    (p.endFaults keys).pnl = p.pnl.emitAll ((keys.filterMap p.endReport).map faultReport) := by
  induction keys generalizing p with
  | nil => rfl
  | cons k ks ih =>
    obtain ⟨new, distinct⟩ := List.nodup_cons.mp distinct
    have rest : ks.filterMap (p.endFault k).endReport = ks.filterMap p.endReport :=
      List.filterMap_congr fun other hk => p.endReport_endFault fun same => new (same ▸ hk)
    change ((p.endFault k).endFaults ks).pnl = _
    rw [ih distinct, rest, Part.endFault_pnl, Pnl.emitAll, Pnl.emitAll, Pnl.emitAll, ← List.foldl_append, ← List.map_append]
    congr 2
    cases found : p.endReport k <;> simp [found]

theorem Part.endFaults_list {p : Part} (hd : (p.faults.list.map (·.key)).Nodup) (keys : List FaultKey) :
    (p.endFaults keys).faults.list = p.faults.list.map fun r =>
      if r.key ∈ p.faults.marks ∧ r.key ∈ keys then { r with active := false } else r := by
  induction keys generalizing p with
  | nil => simp [Part.endFaults]
  | cons k ks ih =>
    have first := Part.endFault_list hd k
    have keysKept : ((p.endFault k).faults.list.map (·.key)) = p.faults.list.map (·.key) := by
      rw [first, List.map_map]
      refine List.map_congr_left fun r _ => ?_
      change (if _ then _ else r : FaultRecord).key = r.key
      split <;> rfl
    have marks : (p.endFault k).faults.marks = p.faults.marks.filter (· != k) := rfl
    change ((p.endFault k).endFaults ks).faults.list = _
    rw [ih (by rw [keysKept]; exact hd), first, List.map_map, marks]
    refine List.map_congr_left fun r _ => ?_
    by_cases now : r.key ∈ p.faults.marks ∧ r.key = k
    · simp [now.2, now.2 ▸ now.1]
    · have later : r.key ∈ p.faults.marks.filter (· != k) ∧ r.key ∈ ks ↔ r.key ∈ p.faults.marks ∧ r.key ∈ k :: ks := by
        rw [List.mem_filter, List.mem_cons, bne_iff_ne]
        tauto
      rw [Function.comp, if_neg now]
      exact if_congr later rfl rfl

/-! ## The faults that RESTART ends (R184) -/

theorem nodup_append_of_kinds {l r : List FaultKey} (hl : l.Nodup) (hr : r.Nodup)
    (apart : ∀ x ∈ l, ∀ y ∈ r, x.kind ≠ y.kind) : (l ++ r).Nodup :=
  List.nodup_append.mpr ⟨hl, hr, fun x hx y hy same => apart x hx y hy (congrArg FaultKey.kind same)⟩

theorem allStreams_nodup : allStreams.Nodup := List.Nodup.product (List.nodup_finRange 16) (List.nodup_finRange 8)

theorem captureKeys_nodup (own : Station) :
    (allProgLanes.flatMap fun k => [captureSilentKey own k, captureStuckKey own k]).Nodup := by
  refine List.nodup_flatMap.mpr ⟨fun k _ => by simp [captureSilentKey, captureStuckKey], ?_⟩
  refine (List.nodup_finRange 8).imp fun {k j} apart => ?_
  simp [Function.onFun, captureSilentKey, captureStuckKey, apart.symm]

/-- The kinds of the faults that RESTART ends, group by group. -/
theorem restartFaults_nodup (own : Station) : (restartFaults own).Nodup := by
  have lapsed : (allStations.map peerLapsedKey).Nodup :=
    (List.nodup_finRange 16).map fun x y same => by simpa [peerLapsedKey] using same
  have suspect : (allStations.map digestSuspectKey).Nodup :=
    (List.nodup_finRange 16).map fun x y same => by simpa [digestSuspectKey] using same
  have losses : (allStreams.map fun x => laneLossKey x.1 x.2).Nodup :=
    allStreams_nodup.map fun x y same => by
      simp only [laneLossKey, FaultKey.mk.injEq, FaultSubject.lane.injEq, true_and] at same
      exact Prod.ext same.1 same.2
  refine nodup_append_of_kinds (nodup_append_of_kinds (nodup_append_of_kinds (nodup_append_of_kinds
    (nodup_append_of_kinds (by decide) lapsed ?_) (captureKeys_nodup own) ?_) (by decide) ?_) losses ?_) suspect ?_
  all_goals
    intro x hx y hy
    simp only [List.mem_append, List.mem_cons, List.mem_map, List.mem_flatMap, List.not_mem_nil, or_false] at hx hy
    grind [peerLapsedKey, captureSilentKey, captureStuckKey, laneLossKey, digestSuspectKey, FaultKey.plain]

theorem restartFaults_conflict (own : Station) : ∀ key ∈ restartFaults own, key.kind ≠ .numberConflict := by
  intro key h
  simp only [restartFaults, List.mem_append, List.mem_cons, List.mem_map, List.mem_flatMap, List.not_mem_nil,
    or_false] at h
  grind [peerLapsedKey, captureSilentKey, captureStuckKey, laneLossKey, digestSuspectKey, FaultKey.plain]

/-! ## RESTART as a whole (R193) -/

theorem Part.restartReports_reports (before p : Part) : p.OnlyReports (Part.restartReports before p) := by
  unfold Part.restartReports
  generalize allStations.filter _ = stations
  induction stations generalizing p with
  | nil => exact .refl p
  | cons x xs ih => exact (Part.OnlyReports.emitPeer x p).trans (ih _)

/-- The PEER reports show the part as it is restarted: no report changes what a PEER report carries. -/
theorem Part.restartReports_eq (before p : Part) : Part.restartReports before p = { p with
    pnl := p.pnl.emitAll (((List.finRange 16).filter fun x => (before.peer x).state ≠ .absent).map (peerReport p)) } := by
  have all (stations : List Station) (q : Part) (reports : p.OnlyReports q) :
      stations.foldl (fun q s => q.emitPeer s) q = { q with pnl := q.pnl.emitAll (stations.map (peerReport p)) } := by
    induction stations generalizing q with
    | nil => rfl
    | cons x xs ih =>
      rw [List.foldl_cons, ih _ (reports.trans (.emitPeer x q)), Part.emitPeer, reports.peerReport]
      rfl
  have same : (fun x : Station => (before.peer x).state != .absent) = fun x => decide ((before.peer x).state ≠ .absent) :=
    funext fun x => by simp [bne, beq_eq_decide]
  rw [Part.restartReports, same]
  exact all _ p (.refl p)

theorem Part.endConflict_reports (p : Part) : p.OnlyReports p.endConflict := by
  refine .of_eq (f := p.endConflict.faults) (r := p.endConflict.pnl) ?_
  rw [Part.endConflict, Part.withList, ← Pnl.emitAll_frame]

/-- The FAULT report of the end of NUMBER_CONFLICT (R43, R44). -/
theorem Part.endConflict_pnl (p : Part) : p.endConflict.pnl = p.pnl.emitAll
    ((if p.faults.conflict ≠ none then endedRecord p.faults.list p.conflictKey else none).toList.map faultReport) := by
  rw [Part.endConflict, Part.withList_pnl]
  cases p.faults.conflict with
  | none => rfl
  | some v => exact congrArg (fun rs => p.pnl.emitAll (List.map faultReport rs)) (endRecord_reports ..)

theorem Part.endConflict_list {p : Part} (hd : (p.faults.list.map (·.key)).Nodup) : p.endConflict.faults.list =
    p.faults.list.map fun r =>
      if r.key = p.conflictKey ∧ p.faults.conflict ≠ none then { r with active := false } else r := by
  rw [Part.endConflict, Part.withList_faults]
  cases p.faults.conflict with
  | none => simp
  | some v =>
    refine (endRecord_list p.conflictKey hd).trans (List.map_congr_left fun r _ => ?_)
    simp

theorem Part.endConflict_endReport (p : Part) {key : FaultKey} (h : key ≠ p.conflictKey) :
    p.endConflict.endReport key = p.endReport key := by
  rw [Part.endReport, Part.endReport, Part.endConflict, Part.withList_faults]
  cases p.faults.conflict with
  | none => rfl
  | some v =>
    refine if_congr Iff.rfl ?_ rfl
    exact congrArg (fun found => Option.bind found _) (findRecord_endRecord p.conflictKey p.faults.list h)

theorem Pnl.frameDone_emitAll (q : Pnl) (rs : List Report) : q.frameDone.emitAll rs = (q.emitAll rs).frameDone := by
  have one (q : Pnl) (r : Report) : q.frameDone.emit r = (q.emit r).frameDone := by
    unfold Pnl.emit
    rw [apply_ite Pnl.frameDone, apply_ite Pnl.frameDone]
    rfl
  induction rs generalizing q with
  | nil => rfl
  | cons r rs ih =>
    change (q.frameDone.emit r).emitAll rs = _
    rw [one, ih]
    rfl

/-- What RESTART leaves outside LOADING, before the selection set is emptied. -/
def Part.restartedOf (p : Part) : Part :=
  ((Part.restartReports p p.restartState).endConflict).endFaults (restartFaults p.sul.own)

theorem Part.restartedOf_reports (p : Part) : p.restartState.OnlyReports p.restartedOf :=
  ((Part.restartReports_reports p p.restartState).trans (Part.endConflict_reports _)).trans (.endFaults _ _)

/-- The reports of a RESTART: PEER, then NUMBER_CONFLICT, then the faults of the blocks (log 18). -/
theorem Part.restartedOf_pnl (p : Part) : p.restartedOf.pnl = p.pnl.emitAll
    (((List.finRange 16).filter fun x => (p.peer x).state ≠ .absent).map (peerReport p.restartedOf) ++
      ((if p.faults.conflict ≠ none then endedRecord p.faults.list p.conflictKey else none).toList ++
        (restartFaults p.sul.own).filterMap p.endReport).map faultReport) := by
  have same : peerReport p.restartedOf = peerReport p.restartState := funext fun x => p.restartedOf_reports.peerReport x
  have ends : (restartFaults p.sul.own).filterMap (Part.restartReports p p.restartState).endConflict.endReport =
      (restartFaults p.sul.own).filterMap p.endReport := by
    refine List.filterMap_congr fun key h => ?_
    have other : key ≠ (Part.restartReports p p.restartState).conflictKey := fun same => by
      have kind := congrArg FaultKey.kind same
      exact restartFaults_conflict _ key h kind
    rw [Part.endConflict_endReport _ other, Part.restartReports_eq]
    rfl
  rw [same, Part.restartedOf, Part.endFaults_pnl (restartFaults_nodup _), ends, Part.endConflict_pnl,
    Part.restartReports_eq]
  simp only [Pnl.emitAll, List.foldl_append, List.map_append]
  rfl

theorem Part.restartedOf_list {p : Part} (hd : (p.faults.list.map (·.key)).Nodup) : p.restartedOf.faults.list =
    p.faults.list.map fun r =>
      if r.key ∈ p.faults.marks ∧ r.key ∈ restartFaults p.sul.own ∨ r.key = p.conflictKey ∧ p.faults.conflict ≠ none then
        { r with active := false }
      else r := by
  have conflict := Part.endConflict_list (p := Part.restartReports p p.restartState)
    (by rw [Part.restartReports_eq]; exact hd)
  have kept : ((Part.restartReports p p.restartState).endConflict.faults.list.map (·.key)) =
      p.faults.list.map (·.key) := by
    rw [conflict, List.map_map, Part.restartReports_eq]
    refine List.map_congr_left fun r _ => ?_
    change (if _ then _ else r : FaultRecord).key = r.key
    split <;> rfl
  have marks : (Part.restartReports p p.restartState).endConflict.faults.marks = p.faults.marks := by
    rw [Part.endConflict, Part.withList_faults, Part.restartReports_eq]
    rfl
  rw [Part.restartedOf, Part.endFaults_list (by rw [kept]; exact hd), conflict, List.map_map, marks,
    Part.restartReports_eq]
  refine List.map_congr_left fun r _ => ?_
  change (fun y : FaultRecord => if y.key ∈ p.faults.marks ∧ y.key ∈ restartFaults p.sul.own then
    { y with active := false } else y) (if r.key = p.conflictKey ∧ p.faults.conflict ≠ none then
      { r with active := false } else r) = _
  by_cases lost : r.key = p.conflictKey ∧ p.faults.conflict ≠ none
  · have other : r.key ∉ restartFaults p.sul.own := fun h =>
      restartFaults_conflict _ _ h (congrArg FaultKey.kind lost.1)
    simp only [if_pos lost, other, and_false, if_false, false_or]
  · simp only [lost, if_false, or_false]

theorem restartFaults_eq (own : Station) : restartFaults own =
    [⟨.echoLost, .none⟩, ⟨.linkErrors, .none⟩, ⟨.txOverrun, .none⟩] ++
      (List.finRange 16).map (fun x : Station => ⟨.peerLapsed, .station x⟩) ++
      (List.finRange 8).flatMap (fun k : ProgLane => [⟨.captureSilent, .lane own k⟩, ⟨.captureStuck, .lane own k⟩]) ++
      [⟨.storeFull, .none⟩, ⟨.horizonLimit, .none⟩] ++
      (List.finRange 16).flatMap
        (fun x : Station => (List.finRange 8).map fun k : ProgLane => ⟨.laneLoss, .lane x k⟩) ++
      (List.finRange 16).map (fun x : Station => ⟨.digestSuspect, .station x⟩) := by
  have losses : (allStreams.map fun x => laneLossKey x.1 x.2) = (List.finRange 16).flatMap
      (fun x : Station => (List.finRange 8).map fun k : ProgLane => ⟨.laneLoss, .lane x k⟩) := by
    simp only [allStreams, allStations, allProgLanes, List.map_flatMap, List.map_map]
    rfl
  rw [restartFaults, losses]
  rfl

/-- The Mix Engine as RESTART leaves it, group by group and switch by switch (R140, R151, R164). -/
theorem Mxe.restarted_group (m : Mxe) (g : GroupIx) : m.restarted.groups[g] = { m.groups[g] with
    ramp := none, gain := if m.groups[g].ramp = none then m.groups[g].gain else m.groups[g].target } := by
  have group : m.restarted.groups[g] = m.groups[g].endRamp := by
    simp [Mxe.restarted, Mxe.clearMeters, Mxe.mute]
  rw [group, MixGroup.endRamp]
  cases ramp : m.groups[g].ramp with
  | none => simp [← ramp]
  | some r => simp

theorem Part.endedRecord_eq (list : List FaultRecord) (key : FaultKey) (P : Prop) [Decidable P] :
    (if P then endedRecord list key else none) = (list.find? (·.key == key)).bind fun r =>
      if r.active = true ∧ P then some { r with active := false } else none := by
  unfold endedRecord findRecord
  by_cases h : P
  · simp only [h, if_true, and_true]
  · simp only [h, if_false, and_false]
    cases list.find? (·.key == key) <;> rfl

theorem Part.restartedOf_conflict (p : Part) : p.restartedOf.faults.conflict = none := by
  have kept (keys : List FaultKey) (q : Part) : (q.endFaults keys).faults.conflict = q.faults.conflict := by
    induction keys generalizing q with
    | nil => rfl
    | cons k ks ih => exact (ih (q.endFault k)).trans rfl
  exact (kept _ _).trans (congrArg Faults.conflict (Part.withList_faults ..))

theorem Part.restartedOf_marks (p : Part) {key : FaultKey} (h : key ∈ restartFaults p.sul.own) :
    key ∉ p.restartedOf.faults.marks := by
  rw [Part.restartedOf, Part.endFaults_marks]
  simp [h]

/-- Settles O6: RESTART outside LOADING block by block, its ends and its reports, and in LOADING. -/
theorem restartClearsTheReceiveSide : Obligations.RestartClearsTheReceiveSide := by
  refine ⟨fun s running => ?_, fun s loading => ?_⟩
  · have acts : s.part.message Part.restart = (s.part.framed.restartedOf).emptySelection :=
      congrArg Part.emptySelection (if_neg running)
    have reports := s.part.framed.restartedOf_reports
    have list := Part.restartedOf_list (p := s.part.framed)
    have pnl := s.part.framed.restartedOf_pnl
    have marks := fun key => Part.restartedOf_marks s.part.framed (key := key)
    have conflict := s.part.framed.restartedOf_conflict
    refine ⟨_, next_withPart s acts, ?_⟩
    generalize s.part.framed.restartedOf = q at reports list pnl marks conflict
    obtain ⟨sul, settings, liu, ptb, tau, cap, ast, plu, mxe, imn, -, moment⟩ := reports
    have tau' : q.emptySelection.tau = s.part.tau.restarted := tau
    have liu' : q.emptySelection.liu = s.part.liu.restarted := liu
    have cap' : q.emptySelection.cap = s.part.cap.restarted := cap
    have mxe' : q.emptySelection.mxe = s.part.mxe.restarted := mxe
    refine ⟨⟨sul, settings, ?_⟩, ?_, ?_, ?_, ?_, ?_⟩
    · rw [cap']
      exact ⟨rfl, rfl, rfl, rfl, rfl, rfl, rfl, rfl, rfl, fun k => by simp [Cap.restarted]⟩
    · rw [tau']
      exact ⟨rfl, rfl, rfl, rfl, rfl, rfl, rfl, rfl, rfl, rfl, rfl⟩
    · rw [liu']
      refine ⟨rfl, rfl, rfl, rfl, rfl, rfl, rfl, rfl, rfl, rfl, rfl, rfl, rfl, rfl, rfl, ?_⟩
      unfold Liu.restarted
      cases s.part.liu.tx <;> rfl
    · refine ⟨fun x => ?_, congrArg PeerTable.lagWindow ptb, congrArg PeerTable.winCount ptb, ast, plu, fun x => ?_⟩
      · refine (congrArg (fun t : PeerTable => t.records[x]) ptb).trans ?_
        exact Vector.getElem_replicate x.isLt
      · refine (congrArg (fun t : Vector DigestRecord 16 => t[x]) imn).trans ?_
        exact Vector.getElem_replicate x.isLt
    · rw [mxe']
      refine ⟨rfl, rfl, rfl, rfl, rfl, rfl, rfl, rfl, rfl, rfl, rfl, rfl, rfl, fun o => ?_, fun x k => ?_,
        fun g => Mxe.restarted_group _ g⟩
      · simp [Mxe.restarted, Mxe.clearMeters, Mxe.mute]
      · simp [Mxe.restarted, Mxe.clearMeters, Mxe.mute, FallbackSwitch.reset]
    · intro stations lanes own ends
      have same : ends = restartFaults own := (restartFaults_eq own).symm
      rw [same]
      refine ⟨⟨conflict, fun key h => Bool.eq_false_iff.mpr fun held => marks key h (List.contains_iff_mem.mp held), list⟩, ?_⟩
      intro peers ended keys
      have others : (restartFaults own).filterMap s.part.framed.endReport = (restartFaults own).filterMap ended :=
        List.filterMap_congr fun key h => (Part.endedRecord_eq s.part.faults.list key _).trans (by
          simp only [ended, if_neg (restartFaults_conflict own key h)]
          rfl)
      have first : (if s.part.framed.faults.conflict ≠ none then
          endedRecord s.part.framed.faults.list s.part.framed.conflictKey else none) =
          ended ⟨.numberConflict, .station own⟩ := Part.endedRecord_eq ..
      have all : keys.filterMap ended = (ended ⟨.numberConflict, .station own⟩).toList ++
          (restartFaults own).filterMap ended := by
        change (⟨.numberConflict, .station own⟩ :: ends).filterMap ended = _
        rw [same]
        cases found : ended ⟨.numberConflict, .station own⟩ <;> simp [found]
      have framed : s.part.framed.pnl = s.part.pnl.frameDone := rfl
      rw [all, ← first, ← others]
      rw [framed, Pnl.frameDone_emitAll] at pnl
      exact congrArg (fun r : Pnl => { r with selection := [] }) pnl
  · exact next_withPart s (congrArg Part.emptySelection (if_pos loading))

end Sys2Proof.Machine

/-! # O27, O28: the frames that a handover forms read back as the parcel. -/

namespace Sys2Proof.Machine

/-! ## The bytes of a frame -/

theorem leNat_leBytes (n v : Nat) : leNat (leBytes n v) = v % 256 ^ n := by
  rw [leNat, leBytes, List.reverse_reverse, beNat_beBytes]

theorem crcBytes_length (bs : List Byte) : (crcBytes bs).length = 4 := by simp [crcBytes, leBytes]

/-- A frame carries its own CRC (R203). -/
theorem crcAgrees_append (bs : List Byte) : crcAgrees (bs ++ crcBytes bs) = true := by
  have front : (bs ++ crcBytes bs).length - 4 = bs.length := by
    rw [List.length_append, crcBytes_length, Nat.add_sub_cancel]
  rw [crcAgrees, front, List.take_left, List.drop_left, crcBytes, leNat_leBytes, beq_iff_eq,
    Nat.mod_eq_of_lt (b := 256 ^ 4) (BitVec.isLt _)]

theorem frameBytes_eq (header body : List Byte) :
    frameBytes header body = header ++ (body ++ crcBytes (header ++ body)) := List.append_assoc ..

theorem frameBytes_length (header body : List Byte) :
    (frameBytes header body).length = header.length + body.length + 4 := by
  rw [frameBytes, List.length_append, List.length_append, crcBytes_length]

theorem frameBytes_body {header : List Byte} (long : header.length = 18) (body : List Byte) :
    ((frameBytes header body).drop 18).take ((frameBytes header body).length - 22) = body := by
  rw [frameBytes_length, long, frameBytes, List.append_assoc, ← long, List.drop_left,
    show header.length + body.length + 4 - 22 = body.length by omega, List.take_left]

theorem byteAt_toNat (off : Nat) (bs : List Byte) : (byteAt off bs).toNat = fieldAt bs off 1 := (fieldAt_one bs off).symm

theorem flagsByte_bits (resync : Bool) (x : Parcel) : (flagsByte resync x).getLsbD 0 = resync ∧
    (flagsByte resync x).getLsbD 1 = x.digest.isSome ∧ (flagsByte resync x).getLsbD 2 = x.endFlag := by
  unfold flagsByte
  cases resync <;> cases x.digest.isSome <;> cases x.endFlag <;> decide

theorem stationOfNumber_number (s : Station) : stationOfNumber s.number = s := by
  ext
  simp [stationOfNumber, Station.number]

section
variable (own : Station) (x : Parcel) (seq : SeqNo) (stamp : SampleCount) (resync : Bool)

theorem headerBytes_length : (headerBytes own x seq stamp resync).length = 18 := by simp [headerBytes]

theorem ofNat_numAt_beBytes {w : Nat} (v : BitVec w) {n : Nat} (h : w = 8 * n) {bs : List Byte} {off : Nat}
    (found : fieldAt bs off n = v.toNat % 256 ^ n) : BitVec.ofNat w (numAt off n bs) = v := by
  change BitVec.ofNat w (fieldAt bs off n) = v
  rw [found, Nat.mod_eq_of_lt, BitVec.ofNat_toNat, BitVec.setWidth_eq]
  have range := v.isLt
  subst h
  rwa [pow_mul] at range

/-- The header of a frame reads back (R1, R204). -/
theorem header_fields {bs post : List Byte} (made : bs = headerBytes own x seq stamp resync ++ post)
    (spans : x.blocks.length < 256) (lanes : x.laneCount < 256) :
    byteAt 0 bs = x.kind.code ∧ (byteAt 1 bs).toNat = own.number ∧ flagResync bs = resync ∧
      flagDigest bs = x.digest.isSome ∧ flagEnd bs = x.endFlag ∧ BitVec.ofNat 16 (numAt 3 2 bs) = seq ∧
      BitVec.ofNat 48 (numAt 5 6 bs) = stamp ∧ BitVec.ofNat 32 (numAt 11 4 bs) = x.firstBlock ∧
      (byteAt 15 bs).toNat = x.blocks.length ∧ (byteAt 16 bs).toNat = x.laneCount ∧ byteAt 17 bs = x.destination := by
  obtain ⟨bit0, bit1, bit2⟩ := flagsByte_bits resync x
  have all : bs = x.kind.code :: BitVec.ofNat 8 own.number :: flagsByte resync x :: (beBytes 2 seq.toNat ++
      (beBytes 6 stamp.toNat ++ (beBytes 4 x.firstBlock.toNat ++ (BitVec.ofNat 8 x.blocks.length ::
        BitVec.ofNat 8 x.laneCount :: x.destination :: post)))) := by
    simp [made, headerBytes]
  subst made
  refine ⟨rfl, ?_, bit0, bit1, bit2, ?_, ?_, ?_, ?_, ?_, ?_⟩
  · exact (BitVec.toNat_ofNat ..).trans (Station.number_mod own)
  · refine ofNat_numAt_beBytes seq rfl ?_
    rw [all]
    exact fieldAt_beBytes 2 seq.toNat _
  · refine ofNat_numAt_beBytes stamp rfl ?_
    rw [all]
    exact fieldAt_beBytes 6 stamp.toNat _
  · refine ofNat_numAt_beBytes x.firstBlock rfl ?_
    rw [all]
    exact fieldAt_beBytes 4 x.firstBlock.toNat _
  · rw [all]
    exact Nat.mod_eq_of_lt spans
  · rw [all]
    exact Nat.mod_eq_of_lt lanes
  · rw [all]
    rfl

end

/-! ## Samples and blocks -/

theorem sampleOfBytes_sampleBytes (v : Sample) : sampleOfBytes (sampleBytes v) = v := by
  rw [sampleOfBytes, sampleBytes, beNat_beBytes, Nat.mod_eq_of_lt (b := 256 ^ 3) v.isLt, BitVec.ofNat_toNat, BitVec.setWidth_eq]

theorem sampleBytes_length (v : Sample) : (sampleBytes v).length = 3 := beBytes_length ..

section
variable {α : Type} {n : Nat} {g : α → List Byte} {l : List α}

theorem length_flatMap_of_all (each : ∀ a ∈ l, (g a).length = n) : (l.flatMap g).length = n * l.length := by
  induction l with
  | nil => rfl
  | cons a l ih =>
    rw [List.flatMap_cons, List.length_append, each a (by simp), ih fun b hb => each b (by simp [hb])]
    simp only [List.length_cons]
    ring

/-- Equal runs cut apart again. -/
theorem chunks_flatMap (each : ∀ a ∈ l, (g a).length = n) : chunks n l.length (l.flatMap g) = l.map g := by
  induction l with
  | nil => rfl
  | cons a l ih =>
    have front : (g a).length = n := each a (by simp)
    rw [List.flatMap_cons, List.length_cons, chunks, ← front, List.take_left, List.drop_left, front,
      ih fun b hb => each b (by simp [hb])]
    rfl

end

theorem laneBytes_read {xs : List Sample} (long : xs.length = 48) :
    (chunks 3 48 (xs.flatMap sampleBytes)).map sampleOfBytes = xs := by
  have cut := chunks_flatMap (l := xs) fun v _ => sampleBytes_length v
  rw [← long, cut, List.map_map]
  exact (List.map_congr_left fun v _ => sampleOfBytes_sampleBytes v).trans (List.map_id xs)

theorem laneBytes_length {xs : List Sample} (long : xs.length = 48) : (xs.flatMap sampleBytes).length = 144 := by
  rw [length_flatMap_of_all fun v _ => sampleBytes_length v, long]

section
variable {lanes : Nat} {blocks : List BlockLanes}

theorem blockBytes_length {b : BlockLanes} (h : b.length = lanes ∧ ∀ lane ∈ b, lane.length = 48) :
    (b.flatMap fun xs => xs.flatMap sampleBytes).length = 144 * lanes := by
  rw [length_flatMap_of_all fun xs hx => laneBytes_length (h.2 xs hx), h.1]

theorem blockBytes_read {b : BlockLanes} (h : b.length = lanes ∧ ∀ lane ∈ b, lane.length = 48) :
    (chunks 144 lanes (b.flatMap fun xs => xs.flatMap sampleBytes)).map
      (fun lane => (chunks 3 48 lane).map sampleOfBytes) = b := by
  have cut := chunks_flatMap (l := b) fun xs hx => laneBytes_length (h.2 xs hx)
  rw [← h.1, cut, List.map_map]
  exact (List.map_congr_left fun xs hx => laneBytes_read (h.2 xs hx)).trans (List.map_id b)

variable (h : ∀ b ∈ blocks, b.length = lanes ∧ ∀ lane ∈ b, lane.length = 48)
include h

theorem payloadBytes_length : (payloadBytes blocks).length = 144 * lanes * blocks.length :=
  length_flatMap_of_all fun b hb => blockBytes_length (h b hb)

/-- The payload reads back as its blocks (R3, R204). -/
theorem blocksOfPayload_payloadBytes : blocksOfPayload blocks.length lanes (payloadBytes blocks) = blocks := by
  rw [blocksOfPayload, payloadBytes, chunks_flatMap fun b hb => blockBytes_length (h b hb), List.map_map]
  exact (List.map_congr_left fun b hb => blockBytes_read (h b hb)).trans (List.map_id blocks)

end

theorem laneFlags_read (fs : List LaneFlags) : (fs.map LaneFlags.byte).map laneFlagsOfByte = fs := by
  have one (f : LaneFlags) : laneFlagsOfByte f.byte = f := by
    obtain ⟨silent, stuck⟩ := f
    cases silent <;> cases stuck <;> decide
  rw [List.map_map]
  exact (List.map_congr_left fun f _ => one f).trans (List.map_id fs)

theorem parcelKindOfCode_code (k : ParcelKind) : parcelKindOfCode k.code = some k := by cases k <;> decide

/-! ## A frame passes the checks of R14, and its fields -/

section
variable {own : Station} {x : Parcel} {seq : SeqNo} {stamp : SampleCount} {resync : Bool} {body : List Byte}

/-- A frame that carries a header with a legal span and lane count and a body of the right length is good. -/
theorem goodFrame_frameBytes (spans : x.blocks.length < 256) (lanes : x.laneCount < 256)
    (spanRange : x.kind ≠ .notice → 1 ≤ x.blocks.length ∧ x.blocks.length ≤ 4)
    (audioLanes : x.kind = .audio → 1 ≤ x.laneCount ∧ x.laneCount ≤ 8)
    (talkLanes : x.kind = .talk → x.laneCount = 1)
    (length : 22 + body.length = requiredFrameLength x.kind x.blocks.length x.laneCount x.digest.isSome) :
    goodFrame false (frameBytes (headerBytes own x seq stamp resync) body) =
      some (readParcel x.kind (frameBytes (headerBytes own x seq stamp resync) body)) := by
  have crc := crcAgrees_append (headerBytes own x seq stamp resync ++ body)
  have long := frameBytes_length (headerBytes own x seq stamp resync) body
  have fields := header_fields own x seq stamp resync (frameBytes_eq _ body) spans lanes
  rw [headerBytes_length] at long
  change crcAgrees (frameBytes (headerBytes own x seq stamp resync) body) = true at crc
  generalize frameBytes (headerBytes own x seq stamp resync) body = bs at crc long fields ⊢
  obtain ⟨code, source, -, digest, -, -, -, -, span, count, -⟩ := fields
  have range : 1 ≤ own.number ∧ own.number ≤ 16 := ⟨Nat.succ_le_succ (Nat.zero_le _), own.isLt⟩
  have good : checkFrame false bs = some x.kind := by
    rw [checkFrame_iff, code, source, span, count, digest]
    exact ⟨by omega, crc, parcelKindOfCode_code _, range, spanRange, audioLanes, talkLanes, by omega⟩
  rw [goodFrame, good]
  rfl

/-- What a receiver reads of a frame, the parcel's kind apart. -/
theorem readParcel_frameBytes (kind : ParcelKind) (spans : x.blocks.length < 256) (lanes : x.laneCount < 256) :
    readParcel kind (frameBytes (headerBytes own x seq stamp resync) body) =
      { kind := kind, source := own, resync := resync
        digestPresent := kind == .audio && x.digest.isSome
        endFlag := kind == .talk && x.endFlag
        sequence := seq, stamp := stamp, firstBlock := x.firstBlock, span := x.blocks.length
        laneCount := x.laneCount, destination := x.destination.toNat
        laneFlags := if kind = .audio then (body.take x.laneCount).map laneFlagsOfByte else []
        digest := if kind == .audio && x.digest.isSome then sampleOfBytes (bytesAt x.laneCount 3 body) else 0
        blocks := if kind = .audio then blocksOfPayload x.blocks.length x.laneCount
            (body.drop (if x.digest.isSome then x.laneCount + 3 else x.laneCount))
          else if kind = .talk then blocksOfPayload x.blocks.length 1 (body.drop 1) else []
        notice := if kind = .notice then body else [] } := by
  have inner := frameBytes_body (headerBytes_length own x seq stamp resync) body
  have fields := header_fields own x seq stamp resync (frameBytes_eq _ body) spans lanes
  generalize frameBytes (headerBytes own x seq stamp resync) body = bs at inner fields ⊢
  obtain ⟨-, source, mark, digest, talkEnd, number, at_, first, span, count, destination⟩ := fields
  simp only [readParcel, inner, source, mark, digest, talkEnd, number, at_, first, span, count, destination,
    stationOfNumber_number]
  cases kind <;> rfl

end

/-- The body of an AUDIO frame: the lane flags, the digest if one is carried, and the blocks (R3, R204). -/
theorem audioBody_eq {x : Parcel} (kind : x.kind = .audio) (notice : List Byte) : parcelBody notice x =
    x.laneFlags.map LaneFlags.byte ++ (x.digest.toList.flatMap sampleBytes ++ payloadBytes x.blocks) := by
  simp only [parcelBody, kind, List.append_assoc]
  cases x.digest <;> simp

/-- Settles O28: the payload and the fields of each of the two kinds, with the length of the longest frame. -/
theorem audioAndTalkFramesReadBack : Obligations.AudioAndTalkFramesReadBack := by
  intro p x some_ few shape kinds
  have payload := payloadBytes_length shape
  have read := blocksOfPayload_payloadBytes shape
  have total := frameBytes_length (headerBytes p.sul.own x p.liu.sequence p.now (p.tau.resyncTimer != 0))
    (parcelBody p.noticeBody x)
  have resync : (p.tau.resyncTimer != 0) = decide (p.tau.resyncTimer ≠ 0) := by
    simp [bne, beq_eq_decide]
  rw [headerBytes_length] at total
  change (frameBytes _ _).length ≤ 4641 ∧ goodFrame false (frameBytes _ _) = _
  rcases kinds with ⟨kind, low, high, flags, noEnd⟩ | ⟨kind, lanes, flags, digest⟩
  · have body := audioBody_eq kind p.noticeBody
    have marks : (x.laneFlags.map LaneFlags.byte).length = x.laneCount := by rw [List.length_map, flags]
    have digestLength : (x.digest.toList.flatMap sampleBytes).length = if x.digest.isSome then 3 else 0 := by
      cases x.digest <;> rfl
    have long : (parcelBody p.noticeBody x).length =
        x.laneCount + (if x.digest.isSome then 3 else 0) + 144 * x.laneCount * x.blocks.length := by
      rw [body, List.length_append, List.length_append, marks, digestLength, payload, Nat.add_assoc]
    have most : x.laneCount * x.blocks.length ≤ 8 * 4 := Nat.mul_le_mul high few
    have product : 144 * x.blocks.length * x.laneCount = 144 * x.laneCount * x.blocks.length := by ring
    refine ⟨?_, ?_⟩
    · rw [total, long, Nat.mul_assoc]
      split <;> omega
    · rw [goodFrame_frameBytes (by omega) (by omega) (fun _ => ⟨some_, few⟩) (fun _ => ⟨low, high⟩) (by simp [kind])
        (by rw [long, kind, requiredFrameLength, product]; omega), readParcel_frameBytes _ (by omega) (by omega)]
      have flagsRead : ((parcelBody p.noticeBody x).take x.laneCount).map laneFlagsOfByte = x.laneFlags := by
        rw [body, ← marks, List.take_left, laneFlags_read]
      have rest : (parcelBody p.noticeBody x).drop x.laneCount =
          x.digest.toList.flatMap sampleBytes ++ payloadBytes x.blocks := by
        rw [body, ← marks, List.drop_left]
      have blocksRead : blocksOfPayload x.blocks.length x.laneCount ((parcelBody p.noticeBody x).drop
          (if x.digest.isSome then x.laneCount + 3 else x.laneCount)) = x.blocks := by
        have front : (if x.digest.isSome then x.laneCount + 3 else x.laneCount) =
            x.laneCount + (x.digest.toList.flatMap sampleBytes).length := by
          rw [digestLength]
          split <;> rfl
        rw [front, ← List.drop_drop, rest, List.drop_left, read]
      have digestRead : (if x.digest.isSome then sampleOfBytes (bytesAt x.laneCount 3 (parcelBody p.noticeBody x))
          else 0) = x.digest.getD 0 := by
        rw [bytesAt, rest]
        cases x.digest with
        | none => rfl
        | some d =>
          have one : [d].flatMap sampleBytes = sampleBytes d := by simp
          rw [Option.isSome_some, if_pos rfl, Option.toList_some, one, ← sampleBytes_length d, List.take_left,
            sampleOfBytes_sampleBytes, Option.getD_some]
      simp only [kind, beq_self_eq_true, Bool.true_and, if_true, flagsRead, blocksRead, digestRead, noEnd, resync]
      rfl
  · have body : parcelBody p.noticeBody x = 0 :: payloadBytes x.blocks := by simp only [parcelBody, kind]
    have long : (parcelBody p.noticeBody x).length = 1 + 144 * x.blocks.length := by
      rw [body, List.length_cons, payload, lanes, Nat.add_comm]
    refine ⟨by omega, ?_⟩
    rw [goodFrame_frameBytes (by omega) (by omega) (fun _ => ⟨some_, few⟩) (by simp [kind]) (fun _ => lanes)
      (by rw [long, kind, requiredFrameLength]; omega), readParcel_frameBytes _ (by omega) (by omega)]
    rw [lanes] at read
    simp only [body, List.drop_one, List.tail_cons, kind, flags, digest, read, resync]
    rfl

/-! ## The body of a NOTICE (R5, R33) -/

theorem clockModeOfCode_code (m : ClockMode) : clockModeOfCode m.code = some m := by cases m <;> decide

theorem slotRoleOfCode_code (r : SlotRole) : slotRoleOfCode r.code = some r := by cases r <;> decide

theorem byteAt_roleBytes (set : Settings) (k : ProgLane) : byteAt k.val (roleBytes set) =
    if k.val < set.laneCount then set.roles[k].code else SlotRole.none.code := by
  rw [byteAt, roleBytes, allProgLanes, List.getD_eq_getElem?_getD, List.getElem?_map, getElem?_finRange]
  rfl

/-- The eight roles read back when those of slots C to 7 are NONE (R5, R33). -/
theorem rolesOfBytes_roleBytes {set : Settings} (beyond : ∀ k : ProgLane, set.laneCount ≤ k.val → set.roles[k] = .none) :
    rolesOfBytes (roleBytes set) = some set.roles := by
  have each (k : ProgLane) : slotRoleOfCode (byteAt k.val (roleBytes set)) = some set.roles[k] := by
    rw [byteAt_roleBytes]
    by_cases below : k.val < set.laneCount
    · rw [if_pos below, slotRoleOfCode_code]
    · rw [if_neg below, beyond k (not_lt.mp below), slotRoleOfCode_code]
  have named : ((List.range 8).all fun i => (slotRoleOfCode (byteAt i (roleBytes set))).isSome) = true :=
    List.all_eq_true.mpr fun i hi => by
      rw [each ⟨i, List.mem_range.mp hi⟩]
      rfl
  rw [rolesOfBytes, if_pos named]
  refine congrArg some (Vector.ext fun i hi => ?_)
  rw [Vector.getElem_ofFn, each ⟨i, hi⟩]
  rfl

/-- The fields of a NOTICE body as the station composes them (R5, R204). -/
theorem noticeBody_fields (p : Part) : p.noticeBody.length = 24 ∧
    numAt 0 6 p.noticeBody = p.sul.serial.toNat % 256 ^ 6 ∧ byteAt 6 p.noticeBody = p.cap.station.announcedCode ∧
    byteAt 7 p.noticeBody = p.tau.mode.code ∧ numAt 8 3 p.noticeBody = p.liu.validEcho.getD 0xFFFFFF % 256 ^ 3 ∧
    (numAt 11 3 p.noticeBody : Int) = p.horizon % 256 ^ 3 ∧
    (byteAt 14 p.noticeBody).toNat = p.settings.laneCount % 256 ∧ bytesAt 15 8 p.noticeBody = roleBytes p.settings ∧
    byteAt 23 p.noticeBody = p.cap.session.announced.getD 0xFF := by
  have all : p.noticeBody = beBytes 6 p.sul.serial.toNat ++ (p.cap.station.announcedCode :: p.tau.mode.code ::
      (beBytes 3 (p.liu.validEcho.getD 0xFFFFFF) ++ (beInt 3 p.horizon ++ (BitVec.ofNat 8 p.settings.laneCount ::
        (roleBytes p.settings ++ [p.cap.session.announced.getD 0xFF]))))) := by
    simp [Part.noticeBody]
  have roles := roleBytes_length p.settings
  refine ⟨by simp [all, roles], ?_, ?_, ?_, ?_, ?_, ?_, ?_, ?_⟩
  all_goals rw [all]
  · exact fieldAt_beBytes 6 _ _
  · rfl
  · rfl
  · exact fieldAt_beBytes 3 _ _
  · exact fieldAt_beInt 3 _ _
  · exact BitVec.toNat_ofNat ..
  · exact List.take_left' roles
  · change byteAt 8 (roleBytes p.settings ++ [p.cap.session.announced.getD 0xFF]) = _
    rw [byteAt, List.getD_eq_getElem?_getD, List.getElem?_append_right (by rw [roles]), roles]
    rfl

theorem goodNotice_noticeBody (p : Part) (serial : p.sul.serial ≠ 0)
    (outside : p.cap.station = .listening ∨ p.cap.station = .onAir)
    (echo : ∀ e, p.liu.echoDelay = some e → e ≤ 65535) (low : 0 ≤ p.horizon) (high : p.horizon < 16777216)
    (lanes : p.settings.laneCount ≤ 8)
    (beyond : ∀ k : ProgLane, p.settings.laneCount ≤ k.val → p.settings.roles[k] = .none)
    (talk : ∀ d, p.cap.session.announced = some d → d.toNat ≤ 16) :
    goodNotice p.noticeBody = some
      { serial := p.sul.serial
        echoDelay := if p.liu.echoCount = 4 then p.liu.echoDelay else none
        announced :=
          { onAir := decide (p.cap.station = .onAir), mode := p.tau.mode, horizon := p.horizon.toNat
            laneCount := p.settings.laneCount, roles := p.settings.roles
            talkDestination := p.cap.session.announced.map BitVec.toNat } } := by
  obtain ⟨-, serialField, state, mode, echoField, horizonField, laneField, roles, talkField⟩ := noticeBody_fields p
  have serialRead : noticeSerial p.noticeBody = p.sul.serial := ofNat_numAt_beBytes p.sul.serial rfl serialField
  have laneRead : (byteAt 14 p.noticeBody).toNat = p.settings.laneCount := by rw [laneField]; omega
  have horizonRead : numAt 11 3 p.noticeBody = p.horizon.toNat := by omega
  have echoRead : ¬ (65535 < numAt 8 3 p.noticeBody ∧ numAt 8 3 p.noticeBody ≠ 0xFFFFFF) ∧
      (if numAt 8 3 p.noticeBody = 0xFFFFFF then none else some (numAt 8 3 p.noticeBody)) = p.liu.validEcho := by
    rw [echoField]
    cases valid : p.liu.validEcho with
    | none => decide
    | some e =>
      have small : e ≤ 65535 := echo e (by rw [Liu.validEcho_eq] at valid; exact (Option.ite_none_right_eq_some.mp valid).2)
      have same : (some e).getD 0xFFFFFF % 256 ^ 3 = e := Nat.mod_eq_of_lt (by rw [Option.getD_some]; omega)
      rw [same]
      exact ⟨by omega, if_neg (by omega)⟩
  have talkRead : ¬ (16 < (byteAt 23 p.noticeBody).toNat ∧ (byteAt 23 p.noticeBody).toNat ≠ 0xFF) ∧
      (if (byteAt 23 p.noticeBody).toNat = 0xFF then none else some (byteAt 23 p.noticeBody).toNat) =
        p.cap.session.announced.map BitVec.toNat := by
    rw [talkField]
    cases some_ : p.cap.session.announced with
    | none => decide
    | some d =>
      have small := talk d some_
      rw [Option.getD_some]
      exact ⟨by omega, if_neg (by omega)⟩
  have stateGood : ¬ (byteAt 6 p.noticeBody ≠ 0x01 ∧ byteAt 6 p.noticeBody ≠ 0x02) ∧
      (byteAt 6 p.noticeBody == 0x02) = decide (p.cap.station = .onAir) := by
    rw [state]
    rcases outside with h | h <;> rw [h] <;> decide
  rw [goodNotice, mode, clockModeOfCode_code, roles, rolesOfBytes_roleBytes beyond]
  dsimp only
  rw [serialRead, if_neg serial, if_neg stateGood.1, if_neg echoRead.1, laneRead, if_neg (not_lt.mpr lanes),
    if_neg talkRead.1, echoRead.2, talkRead.2, stateGood.2, horizonRead, Liu.validEcho_eq]

/-- A header carries the lane count in one byte (R204). -/
theorem headerBytes_laneCount (own : Station) (x : Parcel) (seq : SeqNo) (stamp : SampleCount) (resync : Bool) :
    headerBytes own { x with laneCount := x.laneCount % 256 } seq stamp resync = headerBytes own x seq stamp resync := by
  have byte : BitVec.ofNat 8 (x.laneCount % 256) = BitVec.ofNat 8 x.laneCount :=
    BitVec.eq_of_toNat_eq (by simp)
  simp only [headerBytes, byte]
  rfl

/-- Settles O27: the frame of a NOTICE is good, and its body reads back. -/
theorem noticeHandedOverReadsBack : Obligations.NoticeHandedOverReadsBack := by
  intro p x kind blocks serial outside echo low high lanes beyond talk
  have body : parcelBody p.noticeBody x = p.noticeBody := by simp only [parcelBody, kind]
  have resync : (p.tau.resyncTimer != 0) = decide (p.tau.resyncTimer ≠ 0) := by
    simp [bne, beq_eq_decide]
  have count : x.laneCount % 256 < 256 := Nat.mod_lt _ (by decide)
  have spans : x.blocks.length < 256 := by rw [blocks]; decide
  have good := goodFrame_frameBytes (own := p.sul.own) (x := { x with laneCount := x.laneCount % 256 })
    (seq := p.liu.sequence) (stamp := p.now) (resync := p.tau.resyncTimer != 0) (body := p.noticeBody) spans count
    (fun other => absurd kind other) (fun audio => by simp [kind] at audio) (fun talk => by simp [kind] at talk)
    (by rw [(noticeBody_fields p).1, kind, requiredFrameLength])
  rw [readParcel_frameBytes (x := { x with laneCount := x.laneCount % 256 }) _ spans count, headerBytes_laneCount] at good
  have frame : (p.frameOf x).bytes = frameBytes (headerBytes p.sul.own x p.liu.sequence p.now (p.tau.resyncTimer != 0))
      p.noticeBody := congrArg (frameBytes _) body
  rw [frame]
  refine ⟨_, good, kind, rfl, rfl, rfl, resync, ?_⟩
  rw [kind, if_pos rfl]
  exact goodNotice_noticeBody p serial outside echo low high lanes beyond talk

end Sys2Proof.Machine

/-! # Faults that follow a condition, the sample driven, and the mix boundary, one rule for each. -/

namespace Sys2Proof.Machine

/-! ## Faults that follow their conditions (R134, R175, R178) -/

/-- A fault raised while its condition holds and ended while it does not. -/
def Part.settleFault (key : FaultKey) (active : Bool) (p : Part) : Part :=
  if active = true then p.raiseFault key else p.endFault key

/-- Faults raised or ended in order, each as its condition stands. -/
def Part.settleFaults {ι : Type} (key : ι → FaultKey) (active : ι → Bool) (xs : List ι) (p : Part) : Part :=
  xs.foldl (fun q x => q.settleFault (key x) (active x)) p

/-- Two parts whose fault lists, report queues and clocks agree: the same raises and ends leave them so. -/
structure Part.SameFaults (p q : Part) : Prop where
  faults : p.faults = q.faults
  pnl : p.pnl = q.pnl
  sc : p.tau.sc = q.tau.sc

namespace Part.SameFaults

theorem refl (p : Part) : p.SameFaults p := ⟨rfl, rfl, rfl⟩

theorem symm {p q : Part} (h : p.SameFaults q) : q.SameFaults p := ⟨h.faults.symm, h.pnl.symm, h.sc.symm⟩

theorem trans {p q r : Part} (h : p.SameFaults q) (h' : q.SameFaults r) : p.SameFaults r :=
  ⟨h.faults.trans h'.faults, h.pnl.trans h'.pnl, h.sc.trans h'.sc⟩

theorem raiseFault {p q : Part} (h : p.SameFaults q) (key : FaultKey) :
    (p.raiseFault key).SameFaults (q.raiseFault key) := by
  refine ⟨?_, ?_, by simpa using h.sc⟩ <;>
    simp only [Part.raiseFault, Part.withList, Part.localBlock, h.faults, h.pnl, h.sc]

theorem endFault {p q : Part} (h : p.SameFaults q) (key : FaultKey) : (p.endFault key).SameFaults (q.endFault key) := by
  refine ⟨?_, ?_, by simpa using h.sc⟩ <;> simp only [Part.endFault, Part.withList, h.faults, h.pnl]

theorem settleFault {p q : Part} (h : p.SameFaults q) (key : FaultKey) (active : Bool) :
    (p.settleFault key active).SameFaults (q.settleFault key active) := by
  cases active
  · exact h.endFault key
  · exact h.raiseFault key

theorem settleFaults {ι : Type} {key : ι → FaultKey} {active : ι → Bool} {p q : Part} (h : p.SameFaults q)
    (xs : List ι) : (p.settleFaults key active xs).SameFaults (q.settleFaults key active xs) := by
  induction xs generalizing p q with
  | nil => exact h
  | cons x xs ih => exact ih (h.settleFault _ _)

end Part.SameFaults

section
variable {ι : Type} {key : ι → FaultKey} {active : ι → Bool}

theorem Part.settleFault_reports (k : FaultKey) (on : Bool) (p : Part) : p.OnlyReports (p.settleFault k on) := by
  cases on
  · exact .endFault k p
  · exact .raiseFault k p

theorem Part.settleFaults_reports (xs : List ι) (p : Part) : p.OnlyReports (p.settleFaults key active xs) := by
  induction xs generalizing p with
  | nil => exact .refl p
  | cons x xs ih => exact (p.settleFault_reports _ _).trans (ih _)

theorem Part.mem_marks_settleFault (p : Part) (k : FaultKey) (on : Bool) (m : FaultKey) :
    m ∈ (p.settleFault k on).faults.marks ↔ m = k ∧ on = true ∨ m ≠ k ∧ m ∈ p.faults.marks := by
  cases on with
  | false =>
    change m ∈ p.faults.marks.filter (· != k) ↔ _
    rw [List.mem_filter, bne_iff_ne]
    tauto
  | true =>
    change m ∈ (if p.faults.marks.contains k = true then p.faults.marks else p.faults.marks ++ [k]) ↔ _
    by_cases held : k ∈ p.faults.marks
    · rw [if_pos (List.contains_iff_mem.mpr held)]
      by_cases same : m = k
      · simp [same, held]
      · simp [same]
    · rw [if_neg (fun h => held (List.contains_iff_mem.mp h)), List.mem_append, List.mem_singleton]
      tauto

/-- The marks of faults that were not told stay. -/
theorem Part.settleFaults_marks_of_ne {xs : List ι} {m : FaultKey} (other : ∀ x ∈ xs, key x ≠ m) (p : Part) :
    m ∈ (p.settleFaults key active xs).faults.marks ↔ m ∈ p.faults.marks := by
  induction xs generalizing p with
  | nil => exact Iff.rfl
  | cons x xs ih =>
    refine (ih (fun y hy => other y (by simp [hy])) _).trans ?_
    rw [Part.mem_marks_settleFault]
    simp [(other x (by simp)).symm]

/-- A fault told is marked exactly while its condition holds. -/
theorem Part.settleFaults_marks {xs : List ι} (distinct : (xs.map key).Nodup) {x : ι} (h : x ∈ xs) (p : Part) :
    key x ∈ (p.settleFaults key active xs).faults.marks ↔ active x = true := by
  induction xs generalizing p with
  | nil => simp at h
  | cons y ys ih =>
    rw [List.map_cons, List.nodup_cons] at distinct
    rcases List.mem_cons.mp h with rfl | h
    · have other : ∀ z ∈ ys, key z ≠ key x := fun z hz same => distinct.1 (List.mem_map.mpr ⟨z, hz, same⟩)
      refine (Part.settleFaults_marks_of_ne other _).trans ?_
      rw [Part.mem_marks_settleFault]
      simp
    · exact ih distinct.2 h _

end

/-! ## The sample driven (R158 to R163) -/

/-- The outputs, the dither registers, the clip count and the meters after the sample at position i is played. -/
def Part.Drives (p t : Part) (i : Nat) : Prop :=
  let clip : OutputNo → Bool := fun o => decide (t.unsaturated o i < -8388608 ∨ 8388607 < t.unsaturated o i)
  let value : OutputNo → Int := fun o => reduceWord p.settings.outputs[o] p.mxe.dither[o]
    (max (-8388608) (min 8388607 (t.unsaturated o i)))
  (∀ o : OutputNo, t.mxe.outputs[o] = BitVec.ofInt 24 (value o) ∧
    t.mxe.dither[o] = (if p.settings.outputs[o].dither = true ∧ p.settings.outputs[o].word ≠ .w24 then
      ditherAdvance (ditherAdvance p.mxe.dither[o]) else p.mxe.dither[o]) ∧
    t.mxe.peaks[o] = (if p.mxe.metersOn = true then max p.mxe.peaks[o] (value o).natAbs else p.mxe.peaks[o]) ∧
    t.mxe.clips[o] = (p.mxe.clips[o] || (p.mxe.metersOn && clip o))) ∧
  t.mxe.clipCount = min (p.mxe.clipCount + ((List.finRange 8).filter clip).length) 4294967295

theorem Part.drive_unsaturated (p : Part) (o : OutputNo) (i : Nat) : p.drive.unsaturated o i = p.unsaturated o i := by
  rw [Part.drive_frame]
  rfl

theorem OutputSetting.draws_iff (o : OutputSetting) : o.draws = true ↔ o.dither = true ∧ o.word ≠ .w24 := by
  simp [OutputSetting.draws]

theorem Part.drive_drives {p : Part} {pos : SampleCount} (started : p.plu.position = some pos) :
    p.Drives p.drive (pos.toNat % 48) := by
  have same := p.drive_unsaturated
  unfold Part.Drives
  dsimp only
  simp only [same]
  unfold Part.drive
  rw [started]
  refine ⟨fun o => ⟨?_, ?_, ?_, ?_⟩, ?_⟩
  · simp only [Fin.getElem_fin, Vector.getElem_ofFn]
    rfl
  · simp only [Fin.getElem_fin, Vector.getElem_ofFn]
    exact if_congr (OutputSetting.draws_iff _) rfl rfl
  · simp only [Fin.getElem_fin, Vector.getElem_ofFn]
    rfl
  · simp only [Fin.getElem_fin, Vector.getElem_ofFn]
    rfl
  · rw [← List.countP_eq_length_filter]
    rfl

/-- The sample driven reads the settings and, of the mix before, the dither registers, the meters and the clip count. -/
theorem Part.Drives.of_same {p q t : Part} {i : Nat} (h : q.Drives t i) (settings : q.settings = p.settings)
    (dither : q.mxe.dither = p.mxe.dither) (on : q.mxe.metersOn = p.mxe.metersOn) (peaks : q.mxe.peaks = p.mxe.peaks)
    (clips : q.mxe.clips = p.mxe.clips) (count : q.mxe.clipCount = p.mxe.clipCount) : p.Drives t i := by
  unfold Part.Drives at h ⊢
  rw [settings, dither, on, peaks, clips, count] at h
  exact h

end Sys2Proof.Machine

/-! # The mix boundary and the entry into a block, as a whole (R125, R134, R138, R142 to R156). -/

namespace Sys2Proof.Machine

/-! ## The mix boundary -/

/-- A group's ramp at a boundary (R149). -/
def Part.RampsAt (p t : Part) : Prop :=
  ∀ g : GroupIx, t.mxe.groups[g] = match p.mxe.groups[g].ramp with
    | none => p.mxe.groups[g]
    | some r =>
      let n : Int := r.length
      let k : Int := r.k + 1
      let way : Int := (p.mxe.groups[g].target : Int) - r.start
      if r.length ≤ r.k + 1 then { p.mxe.groups[g] with gain := p.mxe.groups[g].target, ramp := none }
      else { p.mxe.groups[g] with
        gain := ((r.start : Int) + match r.shape with
          | .linear => Int.tdiv (way * k) n
          | .eased => Int.tdiv (way * (3 * k ^ 2 * n - 2 * k ^ 3)) (n ^ 3)).toNat
        ramp := some { r with k := r.k + 1 } }

/-- The duck level and ramp after a boundary with an aim, from those before it (R156). -/
def DuckMoves (aim level : Nat) (ramp : Option DuckRamp) (level' : Nat) (ramp' : Option DuckRamp) : Prop :=
  let begun : DuckRamp := ⟨level, aim, 0⟩
  let r : DuckRamp := match ramp with
    | some r => if r.aim = aim then r else begun
    | none => begun
  let still := ramp = none ∧ level = aim
  (still → level' = aim ∧ ramp' = none) ∧
  (¬still → 9 ≤ r.k → level' = aim ∧ ramp' = none) ∧
  (¬still → r.k < 9 →
    level' = ((r.start : Int) + Int.tdiv (((aim : Int) - r.start) * (r.k + 1)) 10).toNat ∧
    ramp' = some { r with k := r.k + 1 })

/-- The duck level at a boundary, over the talk lanes that stand after the entry (R156). -/
def Part.DucksAt (p t : Part) : Prop :=
  DuckMoves (if ∃ x : Station, x ≠ p.sul.own ∧
      ((t.plu.lane x talkLane).state = .playing ∨ (t.plu.lane x talkLane).state = .recovering)
    then p.settings.duckGain else 32768) p.mxe.duckLevel p.mxe.duckRamp t.mxe.duckLevel t.mxe.duckRamp

theorem Part.duckCondition_iff (p : Part) : p.duckCondition = true ↔ ∃ x : Station, x ≠ p.sul.own ∧
    ((p.plu.lane x talkLane).state = .playing ∨ (p.plu.lane x talkLane).state = .recovering) := by
  simp [Part.duckCondition, allStations, Part.isPeer]

theorem duckStep_duckRampFor (aim level : Nat) (ramp : Option DuckRamp) :
    DuckMoves aim level ramp (duckStep level (duckRampFor aim level ramp)).1
      (duckStep level (duckRampFor aim level ramp)).2 := by
  unfold DuckMoves
  intro begun r still
  have moves : ¬still → duckRampFor aim level ramp = some r := by
    intro moving
    cases ramp with
    | none => exact if_neg fun same => moving ⟨rfl, same⟩
    | some held => exact (apply_ite some ..).symm
  have aimed : r.aim = aim := by
    cases ramp with
    | none => rfl
    | some held =>
      change (if held.aim = aim then held else begun).aim = aim
      split
      · assumption
      · rfl
  refine ⟨fun rest => ?_, fun moving last => ?_, fun moving short => ?_⟩
  · obtain ⟨rfl, rfl⟩ := rest
    have resting : duckRampFor level level none = none := if_pos rfl
    simp only [resting, duckStep, and_self]
  · have done : 10 ≤ r.k + 1 := by omega
    simp only [moves moving, duckStep, done, if_true, aimed, and_self]
  · have on : ¬10 ≤ r.k + 1 := by omega
    simp only [moves moving, duckStep, on, if_false, aimed, truncDiv]
    exact ⟨rfl, trivial⟩

theorem MixGroup.advance_eq (g : MixGroup) : g.advance = match g.ramp with
    | none => g
    | some r =>
      let n : Int := r.length
      let k : Int := r.k + 1
      let way : Int := (g.target : Int) - r.start
      if r.length ≤ r.k + 1 then { g with gain := g.target, ramp := none }
      else { g with
        gain := ((r.start : Int) + match r.shape with
          | .linear => Int.tdiv (way * k) n
          | .eased => Int.tdiv (way * (3 * k ^ 2 * n - 2 * k ^ 3)) (n ^ 3)).toNat
        ramp := some { r with k := r.k + 1 } } := by
  unfold MixGroup.advance
  cases g.ramp with
  | none => rfl
  | some r =>
    dsimp only
    split
    · rfl
    · unfold GroupRamp.valueAt
      cases r.shape <;> simp [truncDiv]

/-- A mix boundary reads the maps, the announced roles, the suspect flags, the groups, the banks and the talk lanes
(R142). -/
structure Part.Bounded (p t : Part) (suspect : Station → Bool) : Prop where
  silenced : ∀ x : Station, t.mxe.silenced[x] = (decide (x ≠ p.sul.own) && suspect x)
  resolved : ∀ (x : Station) (k : ProgLane), t.mxe.resolved[x][k] = match p.mxe.map[x][k] with
    | .group g => g
    | .byRole => match (p.peer x).announced with
      | none => 0
      | some a => match a.roles[k] with
        | .none => 0
        | .comm => 1
        | .crowd => 2
        | .aux => 3
  takeCount : t.mxe.takeCount = 0
  banks : (t.mxe.active, t.mxe.pendingBank) =
    if p.mxe.takeCount % 2 = 1 then (p.mxe.pendingBank, p.mxe.active) else (p.mxe.active, p.mxe.pendingBank)
  ramps : p.RampsAt t
  ducks : p.DucksAt t

theorem Part.mixBoundary_bounded (p : Part) : p.Bounded p.mixBoundary fun x => p.imn[x].suspect := by
  have exchanges : p.mxe.exchanges = true ↔ p.mxe.takeCount % 2 = 1 := beq_iff_eq
  refine ⟨fun x => ?_, fun x k => ?_, rfl, ?_, fun g => ?_, ?_⟩
  · have peer : p.isPeer x = decide (x ≠ p.sul.own) := by simp [Part.isPeer, bne, beq_eq_decide]
    rw [← peer]
    exact Vector.getElem_ofFn x.isLt
  · have entry : p.mixBoundary.mxe.resolved[x][k] = resolveEntry (p.peer x) k p.mxe.map[x][k] := by
      simp [Part.mixBoundary]
    rw [entry]
    cases p.mxe.map[x][k] with
    | group g => rfl
    | byRole =>
      rw [resolveEntry]
      cases (p.peer x).announced with
      | none => rfl
      | some a =>
        dsimp only
        cases a.roles[k] <;> rfl
  · by_cases odd : p.mxe.takeCount % 2 = 1
    · rw [if_pos odd]
      simp only [Part.mixBoundary, exchanges.mpr odd, if_true]
    · have even : p.mxe.exchanges = false := by rw [Bool.eq_false_iff, ne_eq, exchanges]; exact odd
      rw [if_neg odd]
      simp only [Part.mixBoundary, even, Bool.false_eq_true, if_false]
  · have group : p.mixBoundary.mxe.groups[g] = p.mxe.groups[g].advance := by simp [Part.mixBoundary]
    rw [group]
    exact MixGroup.advance_eq _
  · have aim : (if p.duckCondition then p.settings.duckGain else unityGain) = if ∃ x : Station, x ≠ p.sul.own ∧
        ((p.plu.lane x talkLane).state = .playing ∨ (p.plu.lane x talkLane).state = .recovering)
        then p.settings.duckGain else 32768 := if_congr p.duckCondition_iff rfl rfl
    have step := duckStep_duckRampFor (if p.duckCondition then p.settings.duckGain else unityGain) p.mxe.duckLevel
      p.mxe.duckRamp
    change DuckMoves _ _ _ p.duckAfter.1 p.duckAfter.2 at step
    rw [aim] at step
    exact step

theorem Part.mixBoundary_crossfade (p : Part) :
    p.mixBoundary.mxe.crossfade = (decide (p.mxe.takeCount % 2 = 1) && p.started) :=
  congrArg (· && p.started) (beq_eq_decide (p.mxe.takeCount % 2) 1)

end Sys2Proof.Machine

/-! # Entries, crossings and re-anchors as a whole (R99, R103, R113, R125, R134, R168, R173 to R175). -/

namespace Sys2Proof.Machine

/-! ## The store as buffers leave it -/

/-- A lane held in a block whose buffers stay is held as before. -/
theorem Ast.release_lane (a : Ast) {gone : Buffer → Bool} {b : BlockNo} (stays : ∀ y : Buffer, y.block = b → gone y = false)
    (x : Station) (k : LaneNo) : (a.release gone).lane x b k = a.lane x b k := by
  have found : (a.release gone).find x b = a.find x b :=
    Ast.find_release a gone x b fun y _ same => stays y ((bufferKey_inj y.peer x y.block b).mp same).2
  rw [Ast.lane, Ast.lane, found]

/-! ## The entry into a block -/

/-- The lanes, the fallback switches and the mix boundary of an entry into block pb, with the suspect flags that the
switches and the boundary read (R125, R138, R142). -/
structure Part.Entered (p t : Part) (pb : BlockNo) (suspect : Station → Bool) : Prop where
  lanes : ∀ (x : Station) (k : LaneNo), t.plu.lane x k =
    if x = p.sul.own then p.plu.lane x k
    else (p.plu.lane x k).enter k ((p.peer x).expects k) (p.ast.lane x pb k)
  switches : ∀ (x : Station) (k : ProgLane), t.mxe.switches[x][k] =
    if x = p.sul.own then p.mxe.switches[x][k]
    else FallbackSwitch.decide (if p.mxe.fallback[x][k] = some k then none else p.mxe.fallback[x][k])
      ((t.plu.lane x k.lane).bad (suspect x)) (fun j => (t.plu.lane x j.lane).bad (suspect x)) p.mxe.switches[x][k]
  crossfade : t.mxe.crossfade = decide (p.mxe.takeCount % 2 = 1)
  bounded : p.Bounded t suspect

theorem Part.isPeer_iff (p : Part) (x : Station) : p.isPeer x = true ↔ x ≠ p.sul.own := by simp [Part.isPeer]

theorem Part.enterLanes_lane (p : Part) (pb : BlockNo) (x : Station) (k : LaneNo) : (p.enterLanes pb).plu.lane x k =
    if x = p.sul.own then p.plu.lane x k
    else (p.plu.lane x k).enter k ((p.peer x).expects k) (p.ast.lane x pb k) := by
  have lane : (p.enterLanes pb).plu.lane x k = if p.isPeer x = true then
      (p.plu.lane x k).enter k ((p.peer x).expects k) (p.ast.lane x pb k) else p.plu.lane x k := by
    simp [Part.enterLanes, Plu.lane]
  rw [lane]
  by_cases own : x = p.sul.own
  · rw [if_pos own, if_neg (by rw [Part.isPeer_iff]; exact not_not.mpr own)]
  · rw [if_neg own, if_pos ((p.isPeer_iff x).mpr own)]

theorem Part.decideSwitches_switch (p : Part) (x : Station) (k : ProgLane) : p.decideSwitches.mxe.switches[x][k] =
    if x = p.sul.own then p.mxe.switches[x][k]
    else FallbackSwitch.decide (if p.mxe.fallback[x][k] = some k then none else p.mxe.fallback[x][k])
      ((p.plu.lane x k.lane).bad p.imn[x].suspect) (fun j => (p.plu.lane x j.lane).bad p.imn[x].suspect)
      p.mxe.switches[x][k] := by
  have switch : p.decideSwitches.mxe.switches[x][k] = if p.isPeer x = true then
      FallbackSwitch.decide (fallbackNamed p.mxe.fallback[x][k] k) (p.laneBad x k) (p.laneBad x) p.mxe.switches[x][k]
      else p.mxe.switches[x][k] := by
    simp [Part.decideSwitches]
  rw [switch]
  by_cases own : x = p.sul.own
  · rw [if_pos own, if_neg (by rw [Part.isPeer_iff]; exact not_not.mpr own)]
  · rw [if_neg own, if_pos ((p.isPeer_iff x).mpr own)]
    rfl

/-- The mix boundary of an entry reads the lanes and the switches as the entry leaves them. -/
theorem Part.mixBoundary_of_entry (p : Part) (lanes : Vector (Vector LaneRecord 9) 16) (switches : LaneTable FallbackSwitch)
    (f : Faults) (r : Pnl) :
    let e : Part := { p with plu := { p.plu with lanes := lanes }, mxe := { p.mxe with switches := switches } }
    let t : Part := { p with plu := { p.plu with lanes := lanes }, mxe := e.mixBoundary.mxe, faults := f, pnl := r }
    (p.Bounded t fun x => p.imn[x].suspect) ∧
      t.mxe.crossfade = (decide (p.mxe.takeCount % 2 = 1) && p.started) := by
  intro e t
  have bounded := e.mixBoundary_bounded
  exact ⟨⟨bounded.silenced, bounded.resolved, bounded.takeCount, bounded.banks, bounded.ramps, bounded.ducks⟩,
    e.mixBoundary_crossfade⟩

/-- An entry while playout is started. -/
theorem Part.enterBlock_entered {p : Part} (started : p.started = true) (pb : BlockNo) :
    p.Entered (p.enterBlock pb) pb fun x => p.imn[x].suspect := by
  have mxe := p.enterBlock_mxe pb
  have frame := p.enterBlock_frame pb
  rw [mxe] at frame
  have lanes := p.enterLanes_lane pb
  have switches := (p.enterLanes pb).decideSwitches_switch
  have entered : (p.enterLanes pb).decideSwitches = { p with
      plu := { p.plu with lanes := (p.enterLanes pb).plu.lanes }
      mxe := { p.mxe with switches := (p.enterLanes pb).decideSwitches.mxe.switches } } := rfl
  generalize (p.enterLanes pb).decideSwitches.mxe.switches = W at switches entered
  rw [entered] at frame
  have boundary := p.mixBoundary_of_entry (p.enterLanes pb).plu.lanes W (p.enterBlock pb).faults
    (p.pnl.withReports (p.enterBlock pb).pnl)
  generalize (p.enterBlock pb).faults = f at frame boundary
  generalize p.pnl.withReports (p.enterBlock pb).pnl = r at frame boundary
  rw [frame]
  refine ⟨lanes, switches, ?_, boundary.1⟩
  rw [boundary.2, started, Bool.and_true]

namespace Part.Entered
variable {p t : Part} {pb : BlockNo} {suspect : Station → Bool} (h : p.Entered t pb suspect)
include h

theorem drive : p.Entered t.drive pb suspect := by
  rw [Part.drive_frame]
  exact ⟨h.lanes, h.switches, h.crossfade, ⟨h.bounded.silenced, h.bounded.resolved, h.bounded.takeCount, h.bounded.banks,
    h.bounded.ramps, h.bounded.ducks⟩⟩

theorem digestCrossing (b b' : BlockNo) : p.Entered (t.digestCrossing b b') pb suspect := by
  rw [Part.digestCrossing_frame]
  exact ⟨h.lanes, h.switches, h.crossfade, ⟨h.bounded.silenced, h.bounded.resolved, h.bounded.takeCount, h.bounded.banks,
    h.bounded.ramps, h.bounded.ducks⟩⟩

/-- The store, the digest records and the fault list as the entry finds them matter by the lanes held of the block
alone. -/
theorem of_store {q : Part} {a : Ast} {u : Plu} {i : Vector DigestRecord 16} {f : Faults} {r : Pnl} {m : Moment}
    (same : p = { q with ast := a, plu := u, imn := i, faults := f, pnl := r, moment := m })
    (kept : u.lanes = q.plu.lanes) (held : ∀ x k, a.lane x pb k = q.ast.lane x pb k) : q.Entered t pb suspect := by
  subst same
  have lane (x : Station) (k : LaneNo) : u.lane x k = q.plu.lane x k := by rw [Plu.lane, kept, Plu.lane]
  refine ⟨fun x k => ?_, h.switches, h.crossfade, ⟨h.bounded.silenced, h.bounded.resolved, h.bounded.takeCount,
    h.bounded.banks, h.bounded.ramps, h.bounded.ducks⟩⟩
  rw [← lane, ← held]
  exact h.lanes x k

end Part.Entered

end Sys2Proof.Machine

/-! # LANE_LOSS and DIGEST_SUSPECT of an entry, and the digest records of a crossing (R134, R168, R173 to R175). -/

namespace Sys2Proof.Machine

/-! ## LANE_LOSS after an entry (R134) -/

/-- The programme lanes of the peers, in order. -/
def peerStreams (own : Station) : List (Station × ProgLane) :=
  ((List.finRange 16).filter fun x : Station => x ≠ own).flatMap fun x =>
    (List.finRange 8).map fun k : ProgLane => (x, k)

/-- LANE_LOSS of every programme lane of the peers, as a condition stands for each. -/
def Part.tellLosses (own : Station) (lost : Station → ProgLane → Bool) (p : Part) : Part :=
  p.settleFaults (fun x : Station × ProgLane => ⟨.laneLoss, .lane x.1 x.2⟩) (fun x => lost x.1 x.2) (peerStreams own)

/-- A programme lane stands MUTED, expected, with its record PRESENT (R134). -/
def Part.lost (p : Part) (u : Plu) (x : Station) (k : ProgLane) : Bool :=
  decide ((u.lane x k.lane).state = .muted ∧ (p.peer x).expects k.lane = true ∧ (p.peer x).state = .present)

theorem filter_flatMap_pair {α β : Type} (P : α → Bool) (xs : List α) (ys : List β) :
    (xs.flatMap fun x => ys.map fun y => (x, y)).filter (fun z => P z.1) =
      (xs.filter P).flatMap fun x => ys.map fun y => (x, y) := by
  induction xs with
  | nil => rfl
  | cons x xs ih =>
    rw [List.flatMap_cons, List.filter_append, ih, List.filter_map]
    by_cases h : P x = true
    · have all : (ys.filter ((fun z : α × β => P z.1) ∘ fun y => (x, y))) = ys :=
        List.filter_eq_self.mpr fun _ _ => h
      rw [all, List.filter_cons_of_pos h, List.flatMap_cons]
    · have none : (ys.filter ((fun z : α × β => P z.1) ∘ fun y => (x, y))) = [] :=
        List.filter_eq_nil_iff.mpr fun _ _ => h
      rw [none, List.filter_cons_of_neg h]
      rfl

theorem Part.laneLosses_eq (p : Part) : p.laneLosses = p.tellLosses p.sul.own (p.lost p.plu) := by
  have each (xs : List (Station × ProgLane)) (q : Part) (reports : p.OnlyReports q) : xs.foldl Part.laneLoss q =
      q.settleFaults (fun x : Station × ProgLane => ⟨.laneLoss, .lane x.1 x.2⟩) (fun x => p.lost p.plu x.1 x.2)
        (xs.filter fun x => p.isPeer x.1) := by
    induction xs generalizing q with
    | nil => rfl
    | cons x xs ih =>
      by_cases peer : p.isPeer x.1 = true
      · have step : q.laneLoss x = q.settleFault ⟨.laneLoss, .lane x.1 x.2⟩ (p.lost p.plu x.1 x.2) := by
          have here : q.isPeer x.1 = true := by rw [Part.isPeer, reports.sul]; exact peer
          rw [Part.laneLoss, if_pos here, Part.settleFault, Part.peer, reports.plu, reports.ptb]
          exact if_congr (decide_eq_true_iff ..).symm rfl rfl
        rw [List.foldl_cons, step, ih _ (reports.trans (q.settleFault_reports _ _)), List.filter_cons_of_pos (p := fun x : Station × ProgLane => p.isPeer x.1) peer]
        rfl
      · have step : q.laneLoss x = q := by
          have here : ¬ q.isPeer x.1 = true := by rw [Part.isPeer, reports.sul]; exact peer
          exact if_neg here
        rw [List.foldl_cons, step, ih _ reports, List.filter_cons_of_neg (p := fun x : Station × ProgLane => p.isPeer x.1) peer]
  have streams : allStreams.filter (fun x => p.isPeer x.1) = peerStreams p.sul.own := by
    refine (filter_flatMap_pair p.isPeer allStations allProgLanes).trans ?_
    have peers : allStations.filter p.isPeer = (List.finRange 16).filter fun x : Station => x ≠ p.sul.own :=
      List.filter_congr fun x _ => by simp [Part.isPeer, bne, beq_eq_decide]
    rw [peers]
    rfl
  rw [Part.laneLosses, each allStreams p (.refl p), streams]
  rfl

/-- The fault list and the reports of an entry are those of its lane losses. -/
theorem Part.enterBlock_told {p q : Part} (h : p.SameFaults q) (pb : BlockNo) :
    (p.enterBlock pb).SameFaults (q.tellLosses p.sul.own (p.lost (p.enterBlock pb).plu)) := by
  have plu : (p.enterBlock pb).plu = (p.enterLanes pb).plu := by
    rw [Part.enterBlock, Part.mixBoundary_plu, Part.decideSwitches_plu, Part.laneLosses_frame]
  have entered : (p.enterLanes pb).SameFaults q := ⟨h.faults, h.pnl, h.sc⟩
  have told := (p.enterLanes pb).laneLosses_eq
  have same : (p.enterBlock pb).SameFaults (p.enterLanes pb).laneLosses := by
    refine ⟨?_, ?_, ?_⟩ <;> simp [Part.enterBlock]
  refine same.trans ?_
  rw [told, plu]
  exact entered.settleFaults _

theorem peerStreams_keys_nodup (own : Station) :
    ((peerStreams own).map fun x : Station × ProgLane => (⟨.laneLoss, .lane x.1 x.2⟩ : FaultKey)).Nodup := by
  refine List.Nodup.map (fun x y same => ?_) ?_
  · simp only [FaultKey.mk.injEq, FaultSubject.lane.injEq, true_and] at same
    exact Prod.ext same.1 same.2
  · exact List.Nodup.product ((List.nodup_finRange 16).filter _) (List.nodup_finRange 8)

theorem mem_peerStreams {own x : Station} (h : x ≠ own) (k : ProgLane) : (x, k) ∈ peerStreams own := by
  simp [peerStreams, h]

theorem Part.tellLosses_marks {own x : Station} (h : x ≠ own) (k : ProgLane) (lost : Station → ProgLane → Bool) (p : Part) :
    ⟨.laneLoss, .lane x k⟩ ∈ (p.tellLosses own lost).faults.marks ↔ lost x k = true :=
  Part.settleFaults_marks (x := (x, k)) (peerStreams_keys_nodup own) (mem_peerStreams h k) p

/-! ## The window that playout leaves (R174, R175) -/

/-- A peer's digest record after playout has left window k: the outcome taken, if it holds an entry for it. -/
def DigestRecord.leave (k : Nat) (laneCount : Option Nat) (d : DigestRecord) : DigestRecord :=
  match d.entries.find? (·.window == k) with
  | some e => d.takeOutcome (e.evaluate laneCount)
  | none => d

/-- C_B of a peer, while it has announced one. -/
def Part.laneCountOf (p : Part) (x : Station) : Option Nat := (p.peer x).announced.map (·.laneCount)

theorem DigestRecord.takeOutcome_entries (o : DigestOutcome) (d : DigestRecord) : (d.takeOutcome o).entries = d.entries := by
  cases o <;> rfl

theorem DigestRecord.leave_entries (k : Nat) (c : Option Nat) (d : DigestRecord) : (d.leave k c).entries = d.entries := by
  unfold DigestRecord.leave
  split
  · exact d.takeOutcome_entries _
  · rfl

theorem DigestRecord.leave_none {k : Nat} {d : DigestRecord} (h : d.entries.find? (·.window == k) = none) (c : Option Nat) :
    d.leave k c = d := by
  rw [DigestRecord.leave, h]

theorem DigestRecord.leave_some {k : Nat} {d : DigestRecord} {e : WindowEntry} (h : d.entries.find? (·.window == k) = some e)
    (c : Option Nat) : d.leave k c = d.takeOutcome (e.evaluate c) := by
  rw [DigestRecord.leave, h]

/-- The peers that hold an entry for window k. -/
def Part.judges (p : Part) (k : Nat) (x : Station) : Bool :=
  decide (x ≠ p.sul.own) && p.imn[x].entries.any (·.window == k)

theorem Part.evaluateStation_eq (k : Nat) (p : Part) (x : Station) : p.evaluateStation k x =
    if p.judges k x = true then
      (p.mapDigest x (DigestRecord.leave k (p.laneCountOf x))).settleFault ⟨.digestSuspect, .station x⟩
        (p.imn[x].leave k (p.laneCountOf x)).suspect
    else p := by
  unfold Part.evaluateStation Part.judges
  by_cases peer : x ≠ p.sul.own
  · rw [if_pos ((p.isPeer_iff x).mpr peer), decide_eq_true peer, Bool.true_and]
    cases found : p.imn[x].entries.find? (·.window == k) with
    | none =>
      have held : p.imn[x].entries.any (·.window == k) = false := by
        rw [List.any_eq_false]
        simpa using List.find?_eq_none.mp found
      rw [held]
      rfl
    | some e =>
      have held : p.imn[x].entries.any (·.window == k) = true := by
        rw [List.any_eq_true]
        exact ⟨e, List.mem_of_find?_eq_some found, List.find?_some (p := fun w : WindowEntry => w.window == k) found⟩
      have same : p.mapDigest x (DigestRecord.leave k (p.laneCountOf x)) =
          p.mapDigest x (DigestRecord.takeOutcome (e.evaluate (p.laneCountOf x))) := by
        unfold Part.mapDigest vmodify
        rw [DigestRecord.leave_some found]
      rw [held, if_pos rfl, same, DigestRecord.leave_some found, Part.settleFault]
      have self : (p.mapDigest x (DigestRecord.takeOutcome (e.evaluate (p.laneCountOf x)))).imn[x] =
          p.imn[x].takeOutcome (e.evaluate (p.laneCountOf x)) := vmodify_get_self ..
      rw [← self]
      rfl
  · rw [if_neg (by rw [Part.isPeer_iff]; exact peer), decide_eq_false peer, Bool.false_and]
    rfl

theorem Part.settleFaults_congr {ι : Type} {key : ι → FaultKey} {a b : ι → Bool} {xs : List ι} (h : ∀ x ∈ xs, a x = b x)
    (p : Part) : p.settleFaults key a xs = p.settleFaults key b xs := by
  induction xs generalizing p with
  | nil => rfl
  | cons x xs ih =>
    change (p.settleFault (key x) (a x)).settleFaults key a xs = (p.settleFault (key x) (b x)).settleFaults key b xs
    rw [h x (by simp), ih fun y hy => h y (by simp [hy])]

/-- A peer that is not judged keeps its digest record. -/
theorem Part.leave_of_not_judged {k : Nat} {p : Part} {x : Station} (h : ¬ p.judges k x = true) (peer : x ≠ p.sul.own)
    (c : Option Nat) : p.imn[x].leave k c = p.imn[x] := by
  refine DigestRecord.leave_none (List.find?_eq_none.mpr fun e he held => h ?_) c
  rw [Part.judges, decide_eq_true peer, Bool.true_and, List.any_eq_true]
  exact ⟨e, he, held⟩

/-- One peer judged: its own digest record alone changes, and DIGEST_SUSPECT with it. -/
theorem Part.evaluateStation_imn (k : Nat) (p : Part) (x y : Station) : (p.evaluateStation k x).imn[y] =
    if y = x ∧ y ≠ p.sul.own then p.imn[y].leave k (p.laneCountOf y) else p.imn[y] := by
  rw [Part.evaluateStation_eq]
  by_cases judged : p.judges k x = true
  · have peer : x ≠ p.sul.own := of_decide_eq_true (Bool.and_eq_true_iff.mp judged).1
    rw [if_pos judged, (Part.settleFault_reports _ _ _).imn]
    refine (vmodify_get ..).trans ?_
    by_cases same : y = x
    · subst same
      simp [peer]
    · rw [if_neg (Ne.symm same), if_neg fun h => same h.1]
  · rw [if_neg judged]
    by_cases same : y = x ∧ y ≠ p.sul.own
    · obtain ⟨rfl, peer⟩ := same
      rw [if_pos ⟨rfl, peer⟩, Part.leave_of_not_judged judged peer]
    · rw [if_neg same]

theorem Part.evaluateStation_told (k : Nat) (p : Part) (x : Station) : (p.evaluateStation k x).SameFaults
    (if p.judges k x = true then
      p.settleFault ⟨.digestSuspect, .station x⟩ (p.imn[x].leave k (p.laneCountOf x)).suspect else p) := by
  rw [Part.evaluateStation_eq]
  split
  · have same : (p.mapDigest x (DigestRecord.leave k (p.laneCountOf x))).SameFaults p := ⟨rfl, rfl, rfl⟩
    exact same.settleFault _ _
  · exact .refl p

/-- Every peer judged in order. -/
theorem Part.foldl_evaluateStation (k : Nat) {xs : List Station} (distinct : xs.Nodup) (p : Part) :
    (∀ y : Station, (xs.foldl (Part.evaluateStation k) p).imn[y] =
      if y ∈ xs ∧ y ≠ p.sul.own then p.imn[y].leave k (p.laneCountOf y) else p.imn[y]) ∧
    (xs.foldl (Part.evaluateStation k) p).SameFaults
      (p.settleFaults (fun x : Station => ⟨.digestSuspect, .station x⟩)
        (fun x => (p.imn[x].leave k (p.laneCountOf x)).suspect) (xs.filter (p.judges k))) := by
  induction xs generalizing p with
  | nil => exact ⟨fun y => by simp, .refl p⟩
  | cons x xs ih =>
    obtain ⟨new, distinct⟩ := List.nodup_cons.mp distinct
    obtain ⟨imn, told⟩ := ih distinct (p.evaluateStation k x)
    have one := p.evaluateStation_imn k x
    have sul : (p.evaluateStation k x).sul = p.sul := by rw [p.evaluateStation_frame k x]
    have ptb : (p.evaluateStation k x).ptb = p.ptb := by rw [p.evaluateStation_frame k x]
    have count (y : Station) : (p.evaluateStation k x).laneCountOf y = p.laneCountOf y := by
      rw [Part.laneCountOf, Part.peer, ptb]
      rfl
    have apart : ∀ y ∈ xs, (p.evaluateStation k x).imn[y] = p.imn[y] := fun y hy => by
      rw [one]
      exact if_neg fun (h : y = x ∧ y ≠ p.sul.own) => new (h.1 ▸ hy)
    have judged : xs.filter ((p.evaluateStation k x).judges k) = xs.filter (p.judges k) :=
      List.filter_congr fun y hy => by rw [Part.judges, apart y hy, sul, Part.judges]
    refine ⟨fun y => ?_, ?_⟩
    · rw [List.foldl_cons, imn, sul, count]
      by_cases here : y = x
      · subst here
        rw [if_neg (fun h => new h.1), one]
        simp
      · have kept : (p.evaluateStation k x).imn[y] = p.imn[y] := (one y).trans (if_neg fun h => here h.1)
        rw [kept]
        simp [here]
    · have same : ∀ y ∈ xs.filter (p.judges k),
          ((p.evaluateStation k x).imn[y].leave k ((p.evaluateStation k x).laneCountOf y)).suspect =
            (p.imn[y].leave k (p.laneCountOf y)).suspect := fun y hy => by
        rw [apart y (List.mem_of_mem_filter hy), count]
      rw [judged, Part.settleFaults_congr same] at told
      refine told.trans ?_
      have first := (p.evaluateStation_told k x).settleFaults
        (key := fun x : Station => ⟨.digestSuspect, .station x⟩)
        (active := fun x => (p.imn[x].leave k (p.laneCountOf x)).suspect) (xs.filter (p.judges k))
      refine first.trans ?_
      by_cases on : p.judges k x = true
      · rw [if_pos on, List.filter_cons_of_pos on]
        exact .refl _
      · rw [if_neg on, List.filter_cons_of_neg on]
        exact .refl _

/-! ## A crossing at the Integrity Monitor -/

/-- The entries of the windows in range at pb: those held through a function, and fresh ones (R168). -/
theorem rangeEntries_eq (pb : BlockNo) (kept : WindowEntry → WindowEntry) (old : List WindowEntry) :
    rangeEntries pb kept old = (List.range (if pb.toNat % 64 = 0 then 16 else 17)).map fun i =>
      let window := (pb.toNat / 64 + i) % 67108864
      match old.find? (fun e => e.window == window) with
      | some e => kept e
      | none => { window := window, expected := none, sum := 0, fills := 0, spoiled := false } := by
  rw [rangeEntries, windowsFrom, List.map_map]
  refine List.map_congr_left fun i _ => ?_
  change (match old.find? (fun e => e.window == (pb.toNat / 64 + i) % 67108864) with
    | some e => kept e
    | none => WindowEntry.fresh ((pb.toNat / 64 + i) % 67108864)) = _
  dsimp only
  generalize (pb.toNat / 64 + i) % 67108864 = window
  cases old.find? (fun e => e.window == window) <;> rfl

/-- The digest record of a peer as a crossing out of block b judges it: at the last block of a window alone. -/
def Part.judged (p : Part) (b : BlockNo) (y : Station) : DigestRecord :=
  if b.toNat % 64 = 63 then p.imn[y].leave (b.toNat / 64) (p.laneCountOf y) else p.imn[y]

/-- The peers that a crossing out of block b judges. -/
def Part.judgedPeers (p : Part) (b : BlockNo) : List Station :=
  (List.finRange 16).filter fun x : Station => x ≠ p.sul.own ∧ b.toNat % 64 = 63 ∧
    p.imn[x].entries.any (fun e => e.window == b.toNat / 64) = true

theorem Part.judged_entries (p : Part) (b : BlockNo) (y : Station) : (p.judged b y).entries = p.imn[y].entries := by
  unfold Part.judged
  split
  · exact DigestRecord.leave_entries ..
  · rfl

theorem Part.mapDigests_imn (f : DigestRecord → DigestRecord) (p : Part) (y : Station) :
    (p.mapDigests f).imn[y] = if y = p.sul.own then p.imn[y] else f p.imn[y] := by
  have entry : (p.mapDigests f).imn[y] = if p.isPeer y = true then f p.imn[y] else p.imn[y] := by
    simp [Part.mapDigests]
  rw [entry]
  by_cases own : y = p.sul.own
  · rw [if_pos own, if_neg (by rw [Part.isPeer_iff]; exact not_not.mpr own)]
  · rw [if_neg own, if_pos ((p.isPeer_iff y).mpr own)]

theorem Part.mapDigests_sameFaults (f : DigestRecord → DigestRecord) (p : Part) : (p.mapDigests f).SameFaults p :=
  ⟨rfl, rfl, rfl⟩

/-- The peers judged as playout leaves the last block of a window. -/
theorem Part.windowLeft (p : Part) {b : BlockNo} (last : b.toNat % 64 = 63) :
    (∀ y : Station, y ≠ p.sul.own →
      (allStations.foldl (Part.evaluateStation (windowOf b)) p).imn[y] = p.judged b y) ∧
    (allStations.foldl (Part.evaluateStation (windowOf b)) p).imn[p.sul.own] = p.imn[p.sul.own] ∧
    (allStations.foldl (Part.evaluateStation (windowOf b)) p).SameFaults
      (p.settleFaults (fun x : Station => ⟨.digestSuspect, .station x⟩) (fun x => (p.judged b x).suspect)
        (p.judgedPeers b)) := by
  obtain ⟨imn, told⟩ := Part.foldl_evaluateStation (windowOf b) (xs := allStations) (List.nodup_finRange 16) p
  have left (x : Station) : p.imn[x].leave (windowOf b) (p.laneCountOf x) = p.judged b x := by
    rw [Part.judged, if_pos last]
    rfl
  refine ⟨fun y other => ?_, (imn _).trans (if_neg fun h => h.2 rfl), ?_⟩
  · exact (imn y).trans ((if_pos ⟨List.mem_finRange y, other⟩).trans (left y))
  · have peers : allStations.filter (p.judges (windowOf b)) = p.judgedPeers b :=
      List.filter_congr fun x _ => by
        refine Bool.eq_iff_iff.mpr ?_
        simp only [Part.judges, Bool.and_eq_true, decide_eq_true_eq, last, true_and]
        rfl
    rw [peers, Part.settleFaults_congr fun x _ => congrArg DigestRecord.suspect (left x)] at told
    exact told

/-- The digest records and the told faults of a crossing: the window left is judged, and the range follows. -/
theorem Part.digestCrossing_eq (p : Part) (b b' : BlockNo) :
    (∀ y : Station, (p.digestCrossing b b').imn[y] =
      if y = p.sul.own then p.imn[y] else { p.judged b y with entries := rangeEntries b' id p.imn[y].entries }) ∧
    (p.digestCrossing b b').SameFaults
      (p.settleFaults (fun x : Station => ⟨.digestSuspect, .station x⟩) (fun x => (p.judged b x).suspect)
        (p.judgedPeers b)) := by
  by_cases last : b.toNat % 64 = 63
  · obtain ⟨peers, self, told⟩ := p.windowLeft last
    have frame := Part.foldl_evaluateStation_frame (windowOf b) allStations p
    rw [Part.digestCrossing, if_pos last]
    have sul : (allStations.foldl (Part.evaluateStation (windowOf b)) p).sul = p.sul := by rw [frame]
    generalize allStations.foldl (Part.evaluateStation (windowOf b)) p = q at peers self told sul
    refine ⟨fun y => ?_, (q.mapDigests_sameFaults _).trans told⟩
    rw [Part.mapDigests_imn, sul]
    by_cases own : y = p.sul.own
    · rw [if_pos own, if_pos own, own, self]
    · rw [if_neg own, if_neg own, peers y own, Part.judged_entries]
  · have none : p.judgedPeers b = [] := List.filter_eq_nil_iff.mpr fun x _ => by simp [last]
    rw [Part.digestCrossing, if_neg last, none]
    refine ⟨fun y => ?_, p.mapDigests_sameFaults _⟩
    rw [Part.mapDigests_imn, Part.judged, if_neg last]

end Sys2Proof.Machine

/-! # A move of P as a whole: inside a block, across into the next, and as a re-anchor (R99, R103, R113, R117). -/

namespace Sys2Proof.Machine

/-! ## What a move leaves -/

/-- A part after a move of P: beside what `Part.PlaysOn` names, the maps, the meter count and setting, and the store's
counts stay. -/
structure Part.MovesOn (p q : Part) : Prop where
  plays : p.PlaysOn q
  store : q.ast = { p.ast with buffers := q.ast.buffers, free := q.ast.free }
  map : q.mxe.map = p.mxe.map
  fallback : q.mxe.fallback = p.mxe.fallback
  metersOn : q.mxe.metersOn = p.mxe.metersOn
  meterCount : q.mxe.meterCount = p.mxe.meterCount

namespace Part.MovesOn

theorem refl (p : Part) : p.MovesOn p := ⟨.refl p, rfl, rfl, rfl, rfl, rfl⟩

theorem trans {p q r : Part} (h : p.MovesOn q) (h' : q.MovesOn r) : p.MovesOn r :=
  ⟨h.plays.trans h'.plays, h'.store.trans (by rw [h.store]), h'.map.trans h.map, h'.fallback.trans h.fallback,
    h'.metersOn.trans h.metersOn, h'.meterCount.trans h.meterCount⟩

/-- P placed and buffers released. -/
theorem place (p : Part) (u : Plu) (gone : Buffer → Bool) :
    p.MovesOn { p with plu := u, ast := p.ast.release gone } :=
  ⟨.playout p _ u _, rfl, rfl, rfl, rfl, rfl⟩

theorem withPlu (p : Part) (u : Plu) : p.MovesOn { p with plu := u } := ⟨.playout p _ u _, rfl, rfl, rfl, rfl, rfl⟩

theorem mapDigests (f : DigestRecord → DigestRecord) (p : Part) : p.MovesOn (p.mapDigests f) :=
  ⟨.mapDigests f p, rfl, rfl, rfl, rfl, rfl⟩

theorem digestCrossing (b b' : BlockNo) (p : Part) : p.MovesOn (p.digestCrossing b b') := by
  have mxe : (p.digestCrossing b b').mxe = p.mxe := by rw [Part.digestCrossing_frame]
  have ast : (p.digestCrossing b b').ast = p.ast := by rw [Part.digestCrossing_frame]
  exact ⟨.digestCrossing b b' p, by rw [ast], by rw [mxe], by rw [mxe], by rw [mxe], by rw [mxe]⟩

theorem enterBlock (pb : BlockNo) (p : Part) : p.MovesOn (p.enterBlock pb) := by
  have ast : (p.enterBlock pb).ast = p.ast := by rw [Part.enterBlock_frame]
  refine ⟨.enterBlock pb p, by rw [ast], ?_, ?_, ?_, ?_⟩ <;> rw [Part.enterBlock_mxe] <;>
    dsimp only [Part.mixBoundary, Part.decideSwitches, Part.enterLanes]

theorem drive (p : Part) : p.MovesOn p.drive := by
  have mxe := congrArg Part.mxe p.drive_frame
  have ast : p.drive.ast = p.ast := by rw [Part.drive_frame]
  exact ⟨.drive p, by rw [ast], by rw [mxe], by rw [mxe], by rw [mxe], by rw [mxe]⟩

theorem crossTo (order : CrossOrder) (old pos : SampleCount) (p : Part) : p.MovesOn (p.crossTo order old pos) := by
  unfold Part.crossTo
  cases order with
  | evaluationFirst => exact ((place p _ _).trans (digestCrossing _ _ _)).trans (enterBlock _ _)
  | readersFirst => exact ((place p _ _).trans (enterBlock _ _)).trans (digestCrossing _ _ _)

theorem reanchorTo (pos : SampleCount) (p : Part) : p.MovesOn (p.reanchorTo pos) :=
  ((place p _ _).trans (mapDigests _ _)).trans (enterBlock _ _)

theorem moveBy (order : CrossOrder) (old : SampleCount) (step : Nat) (p : Part) :
    p.MovesOn (p.moveBy order old step) := by
  unfold Part.moveBy
  dsimp only
  split
  · exact reanchorTo _ p
  · split
    · exact withPlu p _
    · exact crossTo _ _ _ p

/-- A part after a move, but for what the move names. -/
theorem eq {p q : Part} (h : p.MovesOn q) : q = { p with
    plu := q.plu
    ast := { p.ast with buffers := q.ast.buffers, free := q.ast.free }
    mxe := { p.mxe with
      outputs := q.mxe.outputs, dither := q.mxe.dither, clipCount := q.mxe.clipCount, peaks := q.mxe.peaks
      clips := q.mxe.clips, switches := q.mxe.switches, resolved := q.mxe.resolved
      silenced := q.mxe.silenced, groups := q.mxe.groups, active := q.mxe.active
      pendingBank := q.mxe.pendingBank, takeCount := q.mxe.takeCount, crossfade := q.mxe.crossfade
      duckLevel := q.mxe.duckLevel, duckRamp := q.mxe.duckRamp }
    imn := q.imn, faults := q.faults, pnl := q.pnl } := by
  refine Part.eq_of_fields h.plays.sul h.plays.settings h.plays.liu h.plays.ptb h.plays.tau h.plays.cap h.store rfl ?_
    rfl rfl rfl h.plays.moment
  dsimp only
  rw [← h.map, ← h.fallback, ← h.metersOn, ← h.meterCount]

end Part.MovesOn

/-! ## A crossing -/

/-- One of two, by the order in which a crossing takes the digest evaluation and its readers (log 5). -/
def pickOrder {α : Type} (order : CrossOrder) (evaluated read : α) : α :=
  match order with
  | .evaluationFirst => evaluated
  | .readersFirst => read

/-- DIGEST_SUSPECT of the peers judged as playout leaves block b (R175). -/
def Part.tellSuspects (judged : List Station) (suspect : Station → Bool) (p : Part) : Part :=
  p.settleFaults (fun x : Station => ⟨.digestSuspect, .station x⟩) suspect judged

/-- What a crossing out of block b gives, in either order (R99, R113, R125, R134, R138, R142, R168, R174, R175). -/
structure Part.Crossed (p t : Part) (order : CrossOrder) (b : BlockNo) : Prop where
  buffers : t.ast.buffers = p.ast.buffers.filter fun x => x.block ≠ b
  total : t.ast.free + t.ast.buffers.length = p.ast.free + p.ast.buffers.length
  entered : p.Entered t (b + 1) fun x => pickOrder order t.imn[x].suspect p.imn[x].suspect
  told : t.SameFaults (pickOrder order
    ((p.tellSuspects (p.judgedPeers b) fun x => t.imn[x].suspect).tellLosses p.sul.own (p.lost t.plu))
    ((p.tellLosses p.sul.own (p.lost t.plu)).tellSuspects (p.judgedPeers b) fun x => t.imn[x].suspect))
  imn : ∀ y : Station, t.imn[y] =
    if y = p.sul.own then p.imn[y] else { p.judged b y with entries := rangeEntries (b + 1) id p.imn[y].entries }

theorem Ast.releaseBlock_buffers (a : Ast) (b : BlockNo) :
    (a.releaseBlock b).buffers = a.buffers.filter fun x => x.block ≠ b :=
  List.filter_congr fun x _ => by by_cases h : x.block = b <;> simp [h]

theorem BlockNo.ne_next (b : BlockNo) : b ≠ b + 1 := by bv_omega

theorem Part.judgedPeers_ne {p : Part} {b : BlockNo} {x : Station} (h : x ∈ p.judgedPeers b) : x ≠ p.sul.own := by
  have := (List.mem_filter.mp h).2
  simp only [decide_eq_true_eq] at this
  exact this.1

/-- P at a value in the next block, the buffers of the block left returned. -/
def Part.leftBlock (p : Part) (b : BlockNo) (pos : SampleCount) : Part :=
  { p with plu := { p.plu with position := some pos }, ast := p.ast.releaseBlock b }

section
variable (p : Part) (b : BlockNo) (pos : SampleCount)

theorem Part.leftBlock_sameFaults : (p.leftBlock b pos).SameFaults p := ⟨rfl, rfl, rfl⟩

theorem Part.leftBlock_judged (y : Station) : (p.leftBlock b pos).judged b y = p.judged b y := rfl

theorem Part.leftBlock_judgedPeers : (p.leftBlock b pos).judgedPeers b = p.judgedPeers b := rfl

end

/-- The suspect flags that a crossing tells are those of the records it leaves. -/
theorem Part.tellSuspects_left {p q r t : Part} {b : BlockNo} (told : q.SameFaults r)
    (imn : ∀ y : Station, t.imn[y] =
      if y = p.sul.own then p.imn[y] else { p.judged b y with entries := rangeEntries (b + 1) id p.imn[y].entries }) :
    (q.settleFaults (fun x : Station => ⟨.digestSuspect, .station x⟩) (fun x => (p.judged b x).suspect)
      (p.judgedPeers b)).SameFaults (r.tellSuspects (p.judgedPeers b) fun x => t.imn[x].suspect) := by
  have flags : ∀ x ∈ p.judgedPeers b, (p.judged b x).suspect = t.imn[x].suspect := fun x hx => by
    rw [imn, if_neg (Part.judgedPeers_ne hx)]
  rw [Part.settleFaults_congr flags]
  exact told.settleFaults _

theorem Part.crossTo_crossed (p : Part) (order : CrossOrder) {old pos : SampleCount}
    (next : blockOf pos = blockOf old + 1) : p.Crossed (p.crossTo order old pos) order (blockOf old) := by
  have apart := BlockNo.ne_next (blockOf old)
  have held (x : Station) (k : LaneNo) : (p.ast.releaseBlock (blockOf old)).lane x (blockOf old + 1) k =
      p.ast.lane x (blockOf old + 1) k :=
    Ast.release_lane _ (fun y block => by rw [block]; exact beq_false_of_ne apart.symm) x k
  unfold Part.crossTo
  rw [next]
  generalize blockOf old = b at held ⊢
  cases order with
  | evaluationFirst =>
    change p.Crossed (((p.leftBlock b pos).digestCrossing b (b + 1)).enterBlock (b + 1)) _ _
    obtain ⟨imn, told⟩ := (p.leftBlock b pos).digestCrossing_eq b (b + 1)
    have frame := (p.leftBlock b pos).digestCrossing_frame b (b + 1)
    generalize (p.leftBlock b pos).digestCrossing b (b + 1) = d at imn told frame
    have started : d.started = true := by rw [frame]; rfl
    have entered := Part.enterBlock_entered started (b + 1)
    have losses := Part.enterBlock_told told (b + 1)
    have enterFrame := d.enterBlock_frame (b + 1)
    have same : (d.enterBlock (b + 1)).imn = d.imn := by rw [enterFrame]
    have store : (d.enterBlock (b + 1)).ast = p.ast.releaseBlock b := by rw [enterFrame, frame]; rfl
    have own : d.sul = p.sul := by rw [frame]; rfl
    have lost : d.lost = p.lost := by rw [frame]; rfl
    generalize d.enterBlock (b + 1) = t at entered losses same store
    refine ⟨?_, ?_, ?_, ?_, ?_⟩
    · rw [store, Ast.releaseBlock_buffers]
    · rw [store]
      exact Ast.release_total ..
    · rw [same]
      exact entered.of_store frame rfl held
    · rw [own, lost] at losses
      refine losses.trans ?_
      refine Part.SameFaults.settleFaults ?_ _
      exact Part.tellSuspects_left (p := p) (p.leftBlock_sameFaults b pos) fun y => by rw [same]; exact imn y
    · rw [same]
      exact imn
  | readersFirst =>
    change p.Crossed (((p.leftBlock b pos).enterBlock (b + 1)).digestCrossing b (b + 1)) _ _
    have entered := Part.enterBlock_entered (p := p.leftBlock b pos) rfl (b + 1)
    have losses := Part.enterBlock_told (p.leftBlock_sameFaults b pos) (b + 1)
    have frame := (p.leftBlock b pos).enterBlock_frame (b + 1)
    generalize (p.leftBlock b pos).enterBlock (b + 1) = e at entered losses frame
    obtain ⟨imn, told⟩ := e.digestCrossing_eq b (b + 1)
    have after := e.digestCrossing_frame b (b + 1)
    have entered := entered.digestCrossing b (b + 1)
    have store : (e.digestCrossing b (b + 1)).ast = p.ast.releaseBlock b := by rw [after, frame]; rfl
    have plu : (e.digestCrossing b (b + 1)).plu = e.plu := by rw [after]
    generalize e.digestCrossing b (b + 1) = t at entered imn told store plu
    have own : e.sul = p.sul := by rw [frame]; rfl
    have held' : e.imn = p.imn := by rw [frame]; rfl
    have judged : e.judged b = p.judged b := by
      funext y
      rw [frame]
      rfl
    have peers : e.judgedPeers b = p.judgedPeers b := by rw [frame]; rfl
    refine ⟨?_, ?_, ?_, ?_, ?_⟩
    · rw [store, Ast.releaseBlock_buffers]
    · rw [store]
      exact Ast.release_total ..
    · exact entered.of_store rfl rfl held
    · rw [judged, peers] at told
      rw [own, held', judged] at imn
      rw [← plu] at losses
      exact told.trans (Part.tellSuspects_left losses imn)
    · rw [own, held', judged] at imn
      exact imn

/-! ## A re-anchor -/

/-- What a re-anchor to a position of block pb gives (R103, R125, R134, R138, R142, R173). -/
structure Part.Reanchored (p t : Part) (pb : BlockNo) : Prop where
  buffers : t.ast.buffers = p.ast.buffers.filter fun x => (x.block - pb).toNat ≤ 1023
  total : t.ast.free + t.ast.buffers.length = p.ast.free + p.ast.buffers.length
  entered : p.Entered t pb fun x => p.imn[x].suspect
  told : t.SameFaults (p.tellLosses p.sul.own (p.lost t.plu))
  imn : ∀ y : Station, t.imn[y] =
    if y = p.sul.own then p.imn[y]
    else { p.imn[y] with entries := rangeEntries pb WindowEntry.spoil p.imn[y].entries }

theorem Ast.releaseOutside_buffers (a : Ast) (pb : BlockNo) :
    (a.releaseOutside pb).buffers = a.buffers.filter fun x => (x.block - pb).toNat ≤ 1023 :=
  List.filter_congr fun x _ => by
    simp [inWindow, Config.windowBlocks, Nat.lt_succ_iff]

theorem Ast.releaseOutside_lane (a : Ast) (pb : BlockNo) (x : Station) (k : LaneNo) :
    (a.releaseOutside pb).lane x pb k = a.lane x pb k :=
  Ast.release_lane a (fun y block => by simp [block, inWindow, Config.windowBlocks]) x k

theorem Part.enterBlock_ast (p : Part) (pb : BlockNo) : (p.enterBlock pb).ast = p.ast := by rw [Part.enterBlock_frame]

theorem Part.enterBlock_imn (p : Part) (pb : BlockNo) : (p.enterBlock pb).imn = p.imn := by rw [Part.enterBlock_frame]

/-- An entry into block pb after the digest records have changed and the store has returned buffers of other blocks. -/
theorem Part.enterBlock_anchored (p : Part) (u : Plu) (a : Ast) (f : DigestRecord → DigestRecord) (pb : BlockNo)
    (pos : SampleCount) (lanes : u.lanes = p.plu.lanes) (at_ : u.position = some pos)
    (held : ∀ x k, a.lane x pb k = p.ast.lane x pb k) (flags : ∀ d : DigestRecord, (f d).suspect = d.suspect) :
    let t := ((({ p with plu := u, ast := a } : Part).mapDigests f).enterBlock pb)
    t.ast = a ∧ (p.Entered t pb fun x => p.imn[x].suspect) ∧ t.SameFaults (p.tellLosses p.sul.own (p.lost t.plu)) ∧
      ∀ y : Station, t.imn[y] = if y = p.sul.own then p.imn[y] else f p.imn[y] := by
  have imn := Part.mapDigests_imn f ({ p with plu := u, ast := a } : Part)
  have shape : (({ p with plu := u, ast := a } : Part).mapDigests f) = { p with
    plu := u, ast := a, imn := (({ p with plu := u, ast := a } : Part).mapDigests f).imn } := rfl
  dsimp only
  generalize (({ p with plu := u, ast := a } : Part).mapDigests f) = d at imn shape ⊢
  have started : d.started = true := by
    rw [shape, Part.started, at_]
    rfl
  have entered := Part.enterBlock_entered started pb
  have losses := Part.enterBlock_told (p := d) (q := p) (by rw [shape]; exact ⟨rfl, rfl, rfl⟩) pb
  have own : d.sul = p.sul := by rw [shape]
  have lost : d.lost = p.lost := by rw [shape]; rfl
  have store : (d.enterBlock pb).ast = a := (d.enterBlock_ast pb).trans (by rw [shape])
  have kept := d.enterBlock_imn pb
  generalize d.enterBlock pb = t at entered losses store kept
  have suspects : (fun x : Station => d.imn[x].suspect) = fun x => p.imn[x].suspect := by
    funext x
    rw [imn]
    split
    · rfl
    · exact flags _
  rw [own, lost] at losses
  rw [suspects] at entered
  exact ⟨store, entered.of_store shape lanes held, losses, fun y => by rw [kept]; exact imn y⟩

theorem Part.reanchorTo_reanchored (p : Part) (pos : SampleCount) : p.Reanchored (p.reanchorTo pos) (blockOf pos) := by
  obtain ⟨store, entered, told, imn⟩ := p.enterBlock_anchored { p.plu with position := some pos, slipPhase := 0 }
    (p.ast.releaseOutside (blockOf pos)) (fun d => { d with entries := rangeEntries (blockOf pos) WindowEntry.spoil d.entries })
    (blockOf pos) pos rfl rfl (p.ast.releaseOutside_lane _) fun _ => rfl
  change p.Reanchored ((({ p with
    plu := { p.plu with position := some pos, slipPhase := 0 }, ast := p.ast.releaseOutside (blockOf pos) } :
      Part).mapDigests fun d => { d with entries := rangeEntries (blockOf pos) WindowEntry.spoil d.entries }).enterBlock
        (blockOf pos)) _
  refine ⟨?_, ?_, entered, told, imn⟩
  · rw [store, Ast.releaseOutside_buffers]
  · rw [store]
    exact Ast.release_total ..

end Sys2Proof.Machine

/-! # The move of P that is owed, and the sample it reaches (R113, R117, R158 to R163). -/

namespace Sys2Proof.Machine

/-! ## What is not played yet -/

/-- The output lines, the dither registers, the clip count and the meters as they were. -/
structure Part.HoldsOutputs (p q : Part) : Prop where
  settings : q.settings = p.settings
  outputs : q.mxe.outputs = p.mxe.outputs
  dither : q.mxe.dither = p.mxe.dither
  clipCount : q.mxe.clipCount = p.mxe.clipCount
  peaks : q.mxe.peaks = p.mxe.peaks
  clips : q.mxe.clips = p.mxe.clips
  metersOn : q.mxe.metersOn = p.mxe.metersOn

/-- The part that a re-anchor leaves to its entry (R103, R173). -/
def Part.anchoring (p : Part) (pos : SampleCount) : Part :=
  Part.digestReanchor (blockOf pos) { p with
    plu := { p.plu with position := some pos, slipPhase := 0 }, ast := p.ast.releaseOutside (blockOf pos) }

theorem Part.reanchorTo_eq (p : Part) (pos : SampleCount) : p.reanchorTo pos = (p.anchoring pos).enterBlock (blockOf pos) :=
  rfl

namespace Part.HoldsOutputs

theorem refl (p : Part) : p.HoldsOutputs p := ⟨rfl, rfl, rfl, rfl, rfl, rfl, rfl⟩

theorem trans {p q r : Part} (h : p.HoldsOutputs q) (h' : q.HoldsOutputs r) : p.HoldsOutputs r :=
  ⟨h'.settings.trans h.settings, h'.outputs.trans h.outputs, h'.dither.trans h.dither, h'.clipCount.trans h.clipCount,
    h'.peaks.trans h.peaks, h'.clips.trans h.clips, h'.metersOn.trans h.metersOn⟩

theorem of_mxe {p q : Part} (settings : q.settings = p.settings) (mxe : q.mxe = p.mxe) : p.HoldsOutputs q := by
  refine ⟨settings, ?_, ?_, ?_, ?_, ?_, ?_⟩ <;> rw [mxe]

theorem digestCrossing (b b' : BlockNo) (p : Part) : p.HoldsOutputs (p.digestCrossing b b') :=
  of_mxe (by rw [Part.digestCrossing_frame]) (by rw [Part.digestCrossing_frame])

theorem enterBlock (pb : BlockNo) (p : Part) : p.HoldsOutputs (p.enterBlock pb) := by
  refine ⟨(Part.PlaysOn.enterBlock pb p).settings, ?_, ?_, ?_, ?_, ?_, ?_⟩ <;> rw [Part.enterBlock_mxe] <;>
    dsimp only [Part.mixBoundary, Part.decideSwitches, Part.enterLanes]

theorem crossTo (order : CrossOrder) (old pos : SampleCount) (p : Part) :
    p.HoldsOutputs (p.crossTo order old pos) := by
  have placed : p.HoldsOutputs ({ p.setPosition pos with ast := p.ast.releaseBlock (blockOf old) }) := of_mxe rfl rfl
  unfold Part.crossTo
  cases order with
  | evaluationFirst => exact (placed.trans (digestCrossing _ _ _)).trans (enterBlock _ _)
  | readersFirst => exact (placed.trans (enterBlock _ _)).trans (digestCrossing _ _ _)

theorem reanchorTo (pos : SampleCount) (p : Part) : p.HoldsOutputs (p.reanchorTo pos) :=
  trans (q := p.anchoring pos) (of_mxe rfl rfl) (enterBlock _ _)

theorem moveBy (order : CrossOrder) (old : SampleCount) (step : Nat) (p : Part) :
    p.HoldsOutputs (p.moveBy order old step) := by
  unfold Part.moveBy
  dsimp only
  split
  · exact reanchorTo _ p
  · split
    · exact of_mxe rfl rfl
    · exact crossTo _ _ _ p

/-- The sample at P driven after an event that played none. -/
theorem drives {p q : Part} (h : p.HoldsOutputs q) {pos : SampleCount} (at_ : q.plu.position = some pos) :
    p.Drives q.drive (pos.toNat % 48) :=
  (Part.drive_drives at_).of_same h.settings h.dither h.metersOn h.peaks h.clips h.clipCount

end Part.HoldsOutputs

theorem Part.drive_rest (p : Part) : p.drive.ast = p.ast ∧ p.drive.plu = p.plu ∧ p.drive.imn = p.imn ∧
    p.drive.faults = p.faults ∧ p.drive.pnl = p.pnl := by
  rw [Part.drive_frame]
  exact ⟨rfl, rfl, rfl, rfl, rfl⟩

theorem Part.SameFaults.drive {p q : Part} (h : p.SameFaults q) : p.drive.SameFaults q := by
  rw [Part.drive_frame]
  exact ⟨h.faults, h.pnl, h.sc⟩

theorem Part.Crossed.drive {p t : Part} {order : CrossOrder} {b : BlockNo} (h : p.Crossed t order b) :
    p.Crossed t.drive order b := by
  obtain ⟨ast, plu, imn, -, -⟩ := t.drive_rest
  refine ⟨?_, ?_, ?_, ?_, ?_⟩
  · rw [ast]; exact h.buffers
  · rw [ast]; exact h.total
  · rw [imn]; exact h.entered.drive
  · rw [imn, plu]; exact h.told.drive
  · rw [imn]; exact h.imn

theorem Part.Reanchored.drive {p t : Part} {pb : BlockNo} (h : p.Reanchored t pb) : p.Reanchored t.drive pb := by
  obtain ⟨ast, plu, imn, -, -⟩ := t.drive_rest
  refine ⟨?_, ?_, h.entered.drive, ?_, ?_⟩
  · rw [ast]; exact h.buffers
  · rw [ast]; exact h.total
  · rw [plu]; exact h.told.drive
  · rw [imn]; exact h.imn

/-! ## The move that is owed -/

/-- H as a move owed reads it: less the sample of that move (log 28). -/
def Part.owedHorizon (p : Part) (pos : SampleCount) : Int :=
  (p.tau.sc + BitVec.ofInt 48 p.tau.correction - pos).toInt - 1

/-- The samples that an owed move takes P on by (R113, R117). -/
def Part.owedStep (p : Part) (pos : SampleCount) (m : Move) : Nat :=
  match m with
  | .step => 1
  | .slip => if p.owedHorizon pos < p.plu.target then 0 else if p.owedHorizon pos = p.plu.target then 1 else 2

/-- The part as the move finds it, the move and its slip counted. -/
def Part.moving (p : Part) (step : Nat) : Part :=
  { p with plu := { p.plu with
      owed := none
      slipCount := if step = 1 then p.plu.slipCount else satAdd max32 p.plu.slipCount 1 } }

theorem Part.owedStep_le (p : Part) (pos : SampleCount) (m : Move) : p.owedStep pos m ≤ 2 := by
  cases m with
  | step => exact Nat.le_succ 1
  | slip =>
    unfold Part.owedStep
    dsimp only
    split
    · exact Nat.zero_le 2
    · split <;> decide

section
variable {p : Part} {pos : SampleCount} {m : Move} (owed : p.plu.owed = some m) (at_ : p.plu.position = some pos)
include owed at_

theorem Part.horizon_owed : p.horizon = p.owedHorizon pos := by
  simp only [Part.horizon, at_, owed, Option.isSome_some, if_true]
  rfl

theorem Part.takeMove_eq (order : CrossOrder) : p.takeMove order =
    ((p.moving (p.owedStep pos m)).moveBy order pos (p.owedStep pos m)).drive := by
  unfold Part.takeMove
  rw [at_, owed]
  cases m with
  | step => rfl
  | slip =>
    have step : slipStep p.horizon p.plu.target = p.owedStep pos .slip := by
      rw [Part.horizon_owed owed at_, slipStep, Part.owedStep]
      split
      · rfl
      · split <;> split <;> omega
    dsimp only
    rw [step]
    rfl

end

theorem Part.enterBlock_plu (p : Part) (pb : BlockNo) :
    (p.enterBlock pb).plu = { p.plu with lanes := (p.enterBlock pb).plu.lanes } := by
  rw [Part.enterBlock_frame]

theorem Part.crossTo_plu (p : Part) (order : CrossOrder) (old pos : SampleCount) : (p.crossTo order old pos).plu =
    { p.plu with position := some pos, lanes := (p.crossTo order old pos).plu.lanes } := by
  rw [(p.crossTo_frame order old pos).1]

theorem Part.reanchorTo_plu (p : Part) (pos : SampleCount) : (p.reanchorTo pos).plu =
    { p.plu with position := some pos, slipPhase := 0, lanes := (p.reanchorTo pos).plu.lanes } := by
  have plu : (p.anchoring pos).plu = { p.plu with position := some pos, slipPhase := 0 } := rfl
  rw [Part.reanchorTo_eq, Part.enterBlock_plu, plu]

theorem Part.moveBy_plu (p : Part) (order : CrossOrder) (old : SampleCount) (step : Nat) :
    (p.moveBy order old step).plu = { p.plu with
      position := some (old + BitVec.ofNat 48 step), lanes := (p.moveBy order old step).plu.lanes
      slipPhase := if old.toNat + step < 2 ^ 48 then p.plu.slipPhase else 0 } := by
  unfold Part.moveBy
  dsimp only
  by_cases past : 2 ^ 48 ≤ old.toNat + step
  · rw [if_pos past, if_neg (Nat.not_lt.mpr past)]
    exact Part.reanchorTo_plu ..
  · rw [if_neg past, if_pos (Nat.not_le.mp past)]
    split
    · rfl
    · exact Part.crossTo_plu ..

/-- A move that leaves the block within the count is a crossing into the next (R113). -/
theorem Part.moveBy_crossed {p : Part} {order : CrossOrder} {old : SampleCount} {step : Nat} (few : step ≤ 2)
    (within : old.toNat + step < 2 ^ 48) (leaves : blockOf (old + BitVec.ofNat 48 step) ≠ blockOf old) :
    p.Crossed (p.moveBy order old step) order (blockOf old) := by
  rw [Part.moveBy, if_neg (Nat.not_le.mpr within), if_neg leaves]
  exact p.crossTo_crossed order (blockOf_move few within leaves)

theorem Part.moveBy_inside {p : Part} {order : CrossOrder} {old : SampleCount} {step : Nat}
    (within : old.toNat + step < 2 ^ 48) (stays : blockOf (old + BitVec.ofNat 48 step) = blockOf old) :
    p.moveBy order old step = p.setPosition (old + BitVec.ofNat 48 step) := by
  rw [Part.moveBy, if_neg (Nat.not_le.mpr within), if_pos stays]

theorem Part.moveBy_reanchored {p : Part} {order : CrossOrder} {old : SampleCount} {step : Nat}
    (past : 2 ^ 48 ≤ old.toNat + step) :
    p.Reanchored (p.moveBy order old step) (blockOf (old + BitVec.ofNat 48 step)) := by
  rw [Part.moveBy, if_pos past]
  exact p.reanchorTo_reanchored _

section
variable {p : Part} {pos : SampleCount} {m : Move} (owed : p.plu.owed = some m) (at_ : p.plu.position = some pos)
  (order : CrossOrder)
include owed at_

/-- Playout after a move: P on, nothing owed, and the slip counted. -/
theorem Part.takeMove_plu : (p.takeMove order).plu = { p.plu with
    position := some (pos + BitVec.ofNat 48 (p.owedStep pos m)), owed := none, lanes := (p.takeMove order).plu.lanes
    slipPhase := if pos.toNat + p.owedStep pos m < 2 ^ 48 then p.plu.slipPhase else 0
    slipCount := if p.owedStep pos m = 1 then p.plu.slipCount else min (p.plu.slipCount + 1) 4294967295 } := by
  have moved := (p.moving (p.owedStep pos m)).moveBy_plu order pos (p.owedStep pos m)
  rw [Part.takeMove_eq owed at_, (Part.drive_rest _).2.1]
  exact moved

theorem Part.takeMove_movesOn : p.MovesOn (p.takeMove order) := by
  rw [Part.takeMove_eq owed at_]
  exact ((Part.MovesOn.withPlu p _).trans (Part.MovesOn.moveBy ..)).trans (Part.MovesOn.drive _)

theorem Part.takeMove_drives :
    p.Drives (p.takeMove order) ((pos + BitVec.ofNat 48 (p.owedStep pos m)).toNat % 48) := by
  have holds : p.HoldsOutputs ((p.moving (p.owedStep pos m)).moveBy order pos (p.owedStep pos m)) :=
    .trans (q := p.moving (p.owedStep pos m)) (.of_mxe rfl rfl) (Part.HoldsOutputs.moveBy ..)
  rw [Part.takeMove_eq owed at_]
  exact holds.drives (by rw [Part.moveBy_plu])

end

/-- Whether a move is still owed, and its slip counted, matters to no crossing. -/
theorem Part.Crossed.of_moving {p t : Part} {n : Nat} {order : CrossOrder} {b : BlockNo}
    (h : (p.moving n).Crossed t order b) : p.Crossed t order b := by
  have same : (p.moving n).SameFaults p := ⟨rfl, rfl, rfl⟩
  refine ⟨h.buffers, h.total, h.entered.of_store rfl rfl fun _ _ => rfl, h.told.trans ?_, h.imn⟩
  cases order with
  | evaluationFirst => exact (same.settleFaults _).settleFaults _
  | readersFirst => exact (same.settleFaults _).settleFaults _

theorem Part.Reanchored.of_moving {p t : Part} {n : Nat} {pb : BlockNo} (h : (p.moving n).Reanchored t pb) :
    p.Reanchored t pb := by
  have same : (p.moving n).SameFaults p := ⟨rfl, rfl, rfl⟩
  exact ⟨h.buffers, h.total, h.entered.of_store rfl rfl fun _ _ => rfl, h.told.trans (same.settleFaults _), h.imn⟩

section
variable {p : Part} {pos : SampleCount} {m : Move} (owed : p.plu.owed = some m) (at_ : p.plu.position = some pos)
  (order : CrossOrder)
include owed at_

theorem Part.takeMove_crossed (within : pos.toNat + p.owedStep pos m < 2 ^ 48)
    (leaves : blockOf (pos + BitVec.ofNat 48 (p.owedStep pos m)) ≠ blockOf pos) :
    p.Crossed (p.takeMove order) order (blockOf pos) := by
  rw [Part.takeMove_eq owed at_]
  exact (Part.moveBy_crossed (p.owedStep_le pos m) within leaves).drive.of_moving

theorem Part.takeMove_reanchored (past : 2 ^ 48 ≤ pos.toNat + p.owedStep pos m) :
    p.Reanchored (p.takeMove order) (blockOf (pos + BitVec.ofNat 48 (p.owedStep pos m))) := by
  rw [Part.takeMove_eq owed at_]
  exact (Part.moveBy_reanchored past).drive.of_moving

theorem Part.takeMove_inside (within : pos.toNat + p.owedStep pos m < 2 ^ 48)
    (stays : blockOf (pos + BitVec.ofNat 48 (p.owedStep pos m)) = blockOf pos) :
    p.takeMove order = { p with
      plu := { p.plu with
        position := some (pos + BitVec.ofNat 48 (p.owedStep pos m)), owed := none
        slipCount := (p.takeMove order).plu.slipCount }
      mxe := { p.mxe with
        outputs := (p.takeMove order).mxe.outputs, dither := (p.takeMove order).mxe.dither
        clipCount := (p.takeMove order).mxe.clipCount, peaks := (p.takeMove order).mxe.peaks
        clips := (p.takeMove order).mxe.clips } } := by
  rw [Part.takeMove_eq owed at_, Part.moveBy_inside within stays, Part.drive_frame]
  rfl

end

end Sys2Proof.Machine

/-! # O53: what a crossing and a re-anchor say clause by clause, and the move that is owed (R113, R117, R174, R175). -/

namespace Sys2Proof.Machine

/-! ## The marks of a crossing -/

section
variable {p t : Part} {order : CrossOrder} {b : BlockNo} (h : p.Crossed t order b)
include h

theorem Part.Crossed.losses_marks {x : Station} (peer : x ≠ p.sul.own) (k : ProgLane) :
    ⟨.laneLoss, .lane x k⟩ ∈ t.faults.marks ↔ p.lost t.plu x k = true := by
  rw [h.told.faults]
  cases order with
  | evaluationFirst => exact Part.tellLosses_marks peer k _ _
  | readersFirst =>
    refine Iff.trans (Part.settleFaults_marks_of_ne (fun y _ same => ?_) _) (Part.tellLosses_marks peer k _ _)
    exact nomatch congrArg FaultKey.kind same

theorem Part.Crossed.suspect_marks {y : Station} (judged : y ∈ p.judgedPeers b) :
    ⟨.digestSuspect, .station y⟩ ∈ t.faults.marks ↔ t.imn[y].suspect = true := by
  have distinct : ((p.judgedPeers b).map fun x : Station => (⟨.digestSuspect, .station x⟩ : FaultKey)).Nodup :=
    ((List.nodup_finRange 16).filter _).map fun x z same => by simpa using same
  rw [h.told.faults]
  cases order with
  | evaluationFirst =>
    refine Iff.trans (Part.settleFaults_marks_of_ne (fun x _ same => ?_) _)
      (Part.settleFaults_marks (active := fun x : Station => t.imn[x].suspect) distinct judged _)
    exact nomatch congrArg FaultKey.kind same
  | readersFirst => exact Part.settleFaults_marks (active := fun x : Station => t.imn[x].suspect) distinct judged _

/-! ## The digest records of a crossing -/

theorem Part.Crossed.imn_entries {y : Station} (peer : y ≠ p.sul.own) :
    t.imn[y].entries = (List.range (if (b + 1).toNat % 64 = 0 then 16 else 17)).map fun i =>
      let window := ((b + 1).toNat / 64 + i) % 67108864
      match p.imn[y].entries.find? (fun e => e.window == window) with
      | some e => e
      | none => { window := window, expected := none, sum := 0, fills := 0, spoiled := false } := by
  rw [h.imn, if_neg peer]
  exact rangeEntries_eq (b + 1) id _

theorem Part.Crossed.imn_unjudged {y : Station} (peer : y ≠ p.sul.own)
    (none : b.toNat % 64 ≠ 63 ∨ p.imn[y].entries.find? (fun e => e.window == b.toNat / 64) = none) :
    t.imn[y].mismatchRun = p.imn[y].mismatchRun ∧ t.imn[y].suspect = p.imn[y].suspect ∧
      t.imn[y].outcome = p.imn[y].outcome := by
  have kept : p.judged b y = p.imn[y] := by
    unfold Part.judged
    split
    · next last => exact DigestRecord.leave_none (none.resolve_left (not_not.mpr last)) _
    · rfl
  rw [h.imn, if_neg peer, kept]
  exact ⟨rfl, rfl, rfl⟩

end

theorem rangeEntries_window {pb : BlockNo} {old : List WindowEntry} {e : WindowEntry} (h : e ∈ rangeEntries pb id old) :
    ∃ i < if pb.toNat % 64 = 0 then 16 else 17, e.window = (pb.toNat / 64 + i) % 67108864 := by
  rw [rangeEntries_eq] at h
  obtain ⟨i, hi, rfl⟩ := List.mem_map.mp h
  refine ⟨i, List.mem_range.mp hi, ?_⟩
  dsimp only
  generalize (pb.toNat / 64 + i) % 67108864 = window
  cases found : old.find? fun e => e.window == window with
  | none => rfl
  | some e => simpa using List.find?_some found

/-- The windows in range after a crossing out of the last block of a window are others (R168). -/
theorem window_left {b : BlockNo} (last : b.toNat % 64 = 63) {old : List WindowEntry} {w : WindowEntry}
    (h : w ∈ rangeEntries (b + 1) id old) : w.window ≠ b.toNat / 64 := by
  obtain ⟨i, hi, window⟩ := rangeEntries_window h
  have next : (b + 1).toNat = (b.toNat + 1) % 4294967296 := by
    rw [BitVec.toNat_add]
    rfl
  have range := b.isLt
  rw [window, next]
  rw [next] at hi
  split at hi <;> omega

/-! ## The outcome of a window (R174) -/

/-- The window was filled whole, unspoiled, by a peer that announced its lanes, and its digest is known (R174). -/
def WindowEntry.whole (e : WindowEntry) (announced : Option Announced) : Prop :=
  e.expected.isSome = true ∧ e.spoiled = false ∧
    ∃ a, announced = some a ∧ 1 ≤ a.laneCount ∧ e.fills = 64 * a.laneCount

theorem WindowEntry.evaluate_whole {e : WindowEntry} {announced : Option Announced} (h : e.whole announced) :
    e.evaluate (announced.map (·.laneCount)) = if e.expected = some e.sum then .agreed else .mismatch := by
  obtain ⟨known, clean, a, rfl, lanes, fills⟩ := h
  obtain ⟨d, known⟩ := Option.isSome_iff_exists.mp known
  unfold WindowEntry.evaluate
  rw [known]
  have filled : ¬(e.spoiled = true ∨ a.laneCount = 0 ∨ e.fills ≠ 64 * a.laneCount) := by
    rw [clean, fills]
    simp only [Bool.false_eq_true, false_or, ne_eq, not_true_eq_false, or_false]
    omega
  refine (if_neg filled).trans (if_congr ?_ rfl rfl)
  rw [Option.some.injEq, eq_comm]

theorem WindowEntry.evaluate_not_whole {e : WindowEntry} {announced : Option Announced} (h : ¬e.whole announced) :
    e.evaluate (announced.map (·.laneCount)) = .incomplete := by
  unfold WindowEntry.evaluate
  cases known : e.expected with
  | none => rfl
  | some d =>
    cases announced with
    | none => rfl
    | some a =>
      refine if_pos (by_contra fun filled => h ?_)
      simp only [not_or, Bool.not_eq_true, not_not, ne_eq] at filled
      obtain ⟨clean, lanes, fills⟩ := filled
      exact ⟨by rw [known]; rfl, clean, a, rfl, Nat.one_le_iff_ne_zero.mpr lanes, fills⟩

/-- What a crossing out of the last block of a window gives a peer that holds an entry for it (R174, R175). -/
theorem Part.Crossed.window {p t : Part} {order : CrossOrder} {b : BlockNo} (h : p.Crossed t order b) {y : Station}
    {e : WindowEntry} (last : b.toNat % 64 = 63) (peer : y ≠ p.sul.own)
    (found : p.imn[y].entries.find? (fun w => w.window == b.toNat / 64) = some e) :
    let whole := e.whole (p.peer y).announced
    let d := p.imn[y]
    (∀ w ∈ t.imn[y].entries, w.window ≠ b.toNat / 64) ∧
    (whole → e.expected = some e.sum →
      t.imn[y].outcome = some .agreed ∧ t.imn[y].mismatchRun = 0 ∧ t.imn[y].suspect = false) ∧
    (whole → e.expected ≠ some e.sum →
      t.imn[y].outcome = some .mismatch ∧ t.imn[y].mismatchRun = min (d.mismatchRun + 1) 3 ∧
        t.imn[y].suspect = (d.suspect || decide (2 ≤ d.mismatchRun))) ∧
    (¬whole → t.imn[y].outcome = some .incomplete ∧ t.imn[y].mismatchRun = d.mismatchRun ∧
      t.imn[y].suspect = d.suspect) ∧
    (⟨.digestSuspect, .station y⟩ ∈ t.faults.marks ↔ t.imn[y].suspect = true) ∧
    (whole → e.expected ≠ some e.sum → d.suspect = false → d.mismatchRun = 2 →
      ⟨.digestSuspect, .station y⟩ ∈ t.faults.marks) ∧
    (whole → e.expected = some e.sum → ⟨.digestSuspect, .station y⟩ ∉ t.faults.marks) := by
  intro whole d
  have judged : p.judged b y = d.takeOutcome (e.evaluate ((p.peer y).announced.map (·.laneCount))) := by
    rw [Part.judged, if_pos last]
    exact DigestRecord.leave_some found _
  have imn := h.imn y
  rw [if_neg peer, judged] at imn
  have member : y ∈ p.judgedPeers b := by
    refine List.mem_filter.mpr ⟨List.mem_finRange y, decide_eq_true ⟨peer, last, List.any_eq_true.mpr ?_⟩⟩
    exact ⟨e, List.mem_of_find?_eq_some found, List.find?_some (p := fun w : WindowEntry => w.window == _) found⟩
  have marks := h.suspect_marks member
  have agreed (all : whole) (same : e.expected = some e.sum) :
      t.imn[y].outcome = some .agreed ∧ t.imn[y].mismatchRun = 0 ∧ t.imn[y].suspect = false := by
    rw [imn, WindowEntry.evaluate_whole all, if_pos same]
    exact ⟨rfl, rfl, rfl⟩
  have mismatch (all : whole) (other : e.expected ≠ some e.sum) :
      t.imn[y].outcome = some .mismatch ∧ t.imn[y].mismatchRun = min (d.mismatchRun + 1) 3 ∧
        t.imn[y].suspect = (d.suspect || decide (2 ≤ d.mismatchRun)) := by
    rw [imn, WindowEntry.evaluate_whole all, if_neg other]
    exact ⟨rfl, rfl, rfl⟩
  refine ⟨fun w hw => ?_, agreed, mismatch, fun part => ?_, marks, fun all other clear run => ?_, fun all same => ?_⟩
  · rw [imn] at hw
    exact window_left last hw
  · rw [imn, WindowEntry.evaluate_not_whole part]
    exact ⟨rfl, rfl, rfl⟩
  · rw [marks, (mismatch all other).2.2, run]
    simp
  · rw [marks, (agreed all same).2.2]
    decide

/-- The digest records after a re-anchor (R173). -/
theorem Part.Reanchored.imn_entries {p t : Part} {pb : BlockNo} (r : p.Reanchored t pb) (x : Station) :
    t.imn[x] = if x = p.sul.own then p.imn[x] else { p.imn[x] with
      entries := (List.range (if pb.toNat % 64 = 0 then 16 else 17)).map fun i =>
        let window := (pb.toNat / 64 + i) % 67108864
        match p.imn[x].entries.find? (fun e => e.window == window) with
        | some e => { e with spoiled := true }
        | none => { window := window, expected := none, sum := 0, fills := 0, spoiled := false } } := by
  have entries := rangeEntries_eq pb WindowEntry.spoil p.imn[x].entries
  rw [r.imn, entries]
  rfl

/-- Settles O53: the move owed, inside its block, across into the next, and past 2^48 − 1. -/
theorem slipDecisionMovesP : Obligations.SlipDecisionMovesP := by
  refine ⟨fun s order pos owed at_ => ?_, fun p order pos m owed at_ => ?_⟩
  · intro h target
    have plu := Part.takeMove_plu owed at_ order
    have tau := s.part.takeMove_tau order
    have step : s.part.owedStep pos .slip = if h < target then 0 else if h = target then 1 else 2 := rfl
    refine ⟨_, next_withPart s (if_pos owed), rfl, ?_⟩
    generalize s.part.takeMove order = t at plu tau
    rw [step] at plu
    rw [plu]
    refine ⟨rfl, rfl, tau, fun below => ?_, fun same => ?_, fun above => ?_, ?_⟩
    · rw [if_pos below]
      exact congrArg some (BitVec.add_zero pos)
    · rw [if_neg (by omega), if_pos same]
      rfl
    · rw [if_neg (by omega), if_neg (by omega)]
      rfl
    · by_cases same : h = target
      · rw [if_neg (by omega), if_pos same, if_pos rfl, if_pos same]
      · rw [if_neg same, if_neg same]
        by_cases below : h < target
        · rw [if_pos below]
          rfl
        · rw [if_neg below]
          rfl
  · have plu := Part.takeMove_plu owed at_ order
    have moves := (Part.takeMove_movesOn owed at_ order).eq
    have drives := Part.takeMove_drives owed at_ order
    have inside := Part.takeMove_inside owed at_ order
    have crossed := Part.takeMove_crossed owed at_ order
    have reanchored := Part.takeMove_reanchored owed at_ order
    intro h target step next b
    have steps : p.owedStep pos m = step := by
      cases m <;> rfl
    rw [steps] at plu drives inside crossed reanchored
    generalize p.takeMove order = q at plu moves drives inside crossed reanchored
    intro t
    rw [plu] at moves
    refine ⟨moves, drives, inside, fun within leaves => ?_, fun y e within leaves last peer found => ?_, fun past => ?_⟩
    · have c := crossed within leaves
      have told := c.told
      have entered := c.entered
      have bounded := entered.bounded
      refine ⟨c.buffers, c.total, entered.lanes, entered.switches,
        ⟨fun x k peer => c.losses_marks peer k, ?_, ?_⟩, bounded.silenced, bounded.resolved, bounded.takeCount, entered.crossfade,
        bounded.banks, fun y => ⟨fun own => ?_, c.imn_entries, c.imn_unjudged⟩, bounded.ramps, bounded.ducks⟩
      · exact told.faults
      · exact told.pnl
      · exact (c.imn y).trans (if_pos own)
    · exact (crossed within leaves).window last peer found
    · have r := reanchored past
      have told := r.told
      have entered := r.entered
      have bounded := entered.bounded
      exact ⟨congrArg Part.ast moves, r.buffers, r.total, entered.lanes, r.imn_entries, entered.switches,
        ⟨told.faults, told.pnl⟩, bounded.silenced, bounded.resolved, bounded.takeCount, entered.crossfade,
        bounded.banks, bounded.ramps, bounded.ducks⟩

end Sys2Proof.Machine

/-! # O36, O39: the sample period that crosses into the next block, or wraps (R45, R46, R68, R99, R113, R174). -/

namespace Sys2Proof.Machine

/-- The part as the move of a sample period taken at once finds it (R45, R113). -/
def Part.stepping (p : Part) (x : InputSample) : Part :=
  { p.advance x with plu := { p.plu with slipPhase := p.plu.slipPhase + 1, owed := some .step } }

section
variable {p : Part} {pos : SampleCount} (idle : p.moment.idle) (owed : p.plu.owed = none)
  (at_ : p.plu.position = some pos) (short : p.plu.slipPhase + 1 < p.settings.slipRate)
include idle owed at_ short

theorem Part.samplePeriod_stepping (x : InputSample) (order : CrossOrder) :
    p.samplePeriod x .now order = (p.stepping x).takeMove order := by
  rw [Part.samplePeriod_now p x order pos idle owed at_ short,
    Part.takeMove_step (p.stepping x) order pos at_ rfl]
  have same : ({ p.stepping x with plu := { (p.stepping x).plu with owed := none } } : Part) =
      { p.advance x with plu := { p.plu with slipPhase := p.plu.slipPhase + 1 } } := by
    simp only [Part.stepping, ← owed]
  rw [same]

end

theorem Cap.takeSample_eq (tick : Bool) (x : InputSample) (c : Cap) : c.takeSample tick x = { c with
    input := x
    block := match c.block, tick with
      | some b, false => some { b with samples := b.samples ++ [x] }
      | b, _ => b } := by
  rw [Cap.takeSample]
  cases c.block <;> cases tick <;> rfl

/-- The moment that a sample period begins, and the sample taken. -/
theorem Part.advance_eq (p : Part) (x : InputSample) :
    let sc := p.tau.sc + 1
    let tick := decide (sc.toNat % 48 = 0)
    let instant := decide (sc.toNat % 4800 = 0)
    p.advance x = { p with
      tau := { p.tau with sc := sc }
      cap := { p.cap with
        input := x
        block := match p.cap.block, tick with
          | some b, false => some { b with samples := b.samples ++ [x] }
          | b, _ => b }
      moment := { tick := tick, done := [], tauDue := instant, trimDue := instant, pluDue := instant
                  controlDue := instant, stepped := false } } := by
  intro sc tick instant
  refine (congrArg (fun c => { p with tau := { p.tau with sc := sc }, moment := momentAt sc, cap := c })
    (p.cap.takeSample_eq (momentAt sc).tick x)).trans ?_
  have due : (sc.toNat % Config.blockSamples == 0) = tick := beq_eq_decide ..
  have at_ : (sc.toNat % Config.intervalSamples == 0) = instant := beq_eq_decide ..
  rw [momentAt, due, at_]

/-- What a crossing tells, from two parts whose fault lists agree. -/
theorem Part.SameFaults.pickOrder {p q : Part} (h : p.SameFaults q) (order : CrossOrder) (own : Station)
    (lost : Station → ProgLane → Bool) (judged : List Station) (suspect : Station → Bool) :
    (Machine.pickOrder order ((p.tellSuspects judged suspect).tellLosses own lost)
      ((p.tellLosses own lost).tellSuspects judged suspect)).SameFaults
    (Machine.pickOrder order ((q.tellSuspects judged suspect).tellLosses own lost)
      ((q.tellLosses own lost).tellSuspects judged suspect)) := by
  cases order with
  | evaluationFirst => exact (h.settleFaults _).settleFaults _
  | readersFirst => exact (h.settleFaults _).settleFaults _

/-- Playout after the move of a sample period taken at once (R113). -/
theorem Part.stepping_plu {p t : Part} {x : InputSample} {pos : SampleCount} (owed : p.plu.owed = none) {u : Plu}
    (plu : u = { (p.stepping x).plu with
      position := some (pos + BitVec.ofNat 48 1), owed := none, lanes := t.plu.lanes
      slipPhase := if pos.toNat + 1 < 2 ^ 48 then (p.stepping x).plu.slipPhase else 0
      slipCount := if 1 = 1 then (p.stepping x).plu.slipCount else
        min ((p.stepping x).plu.slipCount + 1) 4294967295 }) :
    u = { p.plu with
      position := some (pos + 1), lanes := t.plu.lanes
      slipPhase := if pos.toNat + 1 < 2 ^ 48 then p.plu.slipPhase + 1 else 0 } :=
  plu.trans (congrArg (fun o => { p.plu with
    position := some (pos + 1), lanes := t.plu.lanes
    slipPhase := if pos.toNat + 1 < 2 ^ 48 then p.plu.slipPhase + 1 else 0
    owed := o }) owed.symm)

/-- Settles O36: the crossing and the wrap, each a move of P by one. -/
theorem crossingEntersTheNextBlock : Obligations.CrossingEntersTheNextBlock := by
  refine ⟨fun s slots talk order pos idle owed at_ last within short => ?_,
    fun s slots talk order pos idle owed at_ past short => ?_⟩
  · intro b sc tick instant begun
    have same : begun = s.part.advance ⟨slots, talk⟩ := (s.part.advance_eq _).symm
    have acts := Part.samplePeriod_stepping idle owed at_ short ⟨slots, talk⟩ order
    have plu := Part.takeMove_plu (p := s.part.stepping ⟨slots, talk⟩) (m := .step) rfl at_ order
    have moves := (Part.takeMove_movesOn (p := s.part.stepping ⟨slots, talk⟩) (m := .step) rfl at_ order).eq
    have drives := Part.takeMove_drives (p := s.part.stepping ⟨slots, talk⟩) (m := .step) rfl at_ order
    have crossed := Part.takeMove_crossed (p := s.part.stepping ⟨slots, talk⟩) (m := .step) rfl at_ order within
      (blockOf_crossing pos last within).2
    refine ⟨_, next_withPart s acts, ?_⟩
    generalize (s.part.stepping ⟨slots, talk⟩).takeMove order = t at plu moves drives crossed
    have plu := Part.stepping_plu owed plu
    rw [if_pos within] at plu
    rw [plu] at moves
    clear_value begun
    subst same
    have told := crossed.told
    have entered := crossed.entered
    have bounded := entered.bounded
    have fresh : (s.part.stepping ⟨slots, talk⟩).SameFaults (s.part.advance ⟨slots, talk⟩) := ⟨rfl, rfl, rfl⟩
    refine ⟨moves, fun y => ⟨fun own => (crossed.imn y).trans (if_pos own), crossed.imn_entries, crossed.imn_unjudged⟩,
      congrArg Plu.position plu, congrArg Plu.slipPhase plu, (congrArg Plu.owed plu).trans owed, ?_, crossed.buffers,
      crossed.total, entered.lanes, entered.switches, ⟨fun x k peer => crossed.losses_marks peer k, ?_, ?_⟩,
      bounded.silenced, bounded.resolved, bounded.takeCount, entered.crossfade, bounded.banks⟩
    · have start : (pos + BitVec.ofNat 48 1).toNat % 48 = 0 := by
        have next : (pos + BitVec.ofNat 48 1).toNat = pos.toNat + 1 := by
          rw [BitVec.toNat_add, BitVec.toNat_ofNat]
          exact Nat.mod_eq_of_lt within
        omega
      change Part.Drives _ t ((pos + BitVec.ofNat 48 1).toNat % 48) at drives
      rw [start] at drives
      exact drives
    · exact (told.trans (fresh.pickOrder ..)).faults
    · exact (told.trans (fresh.pickOrder ..)).pnl
  · intro sc tick instant begun
    have same : begun = s.part.advance ⟨slots, talk⟩ := (s.part.advance_eq _).symm
    have acts := Part.samplePeriod_stepping idle owed at_ short ⟨slots, talk⟩ order
    have plu := Part.takeMove_plu (p := s.part.stepping ⟨slots, talk⟩) (m := .step) rfl at_ order
    have moves := (Part.takeMove_movesOn (p := s.part.stepping ⟨slots, talk⟩) (m := .step) rfl at_ order).eq
    have drives := Part.takeMove_drives (p := s.part.stepping ⟨slots, talk⟩) (m := .step) rfl at_ order
    have reanchored := Part.takeMove_reanchored (p := s.part.stepping ⟨slots, talk⟩) (m := .step) rfl at_ order
      (Nat.le_of_eq past.symm)
    have zero : pos + BitVec.ofNat 48 1 = 0 := BitVec.eq_of_toNat_eq (by
      rw [BitVec.toNat_add, BitVec.toNat_ofNat]
      change (pos.toNat + 1) % 2 ^ 48 = 0
      rw [past, Nat.mod_self])
    refine ⟨_, next_withPart s acts, ?_⟩
    generalize (s.part.stepping ⟨slots, talk⟩).takeMove order = t at plu moves drives reanchored
    have plu := Part.stepping_plu owed plu
    change Part.Drives _ t ((pos + BitVec.ofNat 48 1).toNat % 48) at drives
    change Part.Reanchored _ t (blockOf (pos + BitVec.ofNat 48 1)) at reanchored
    have next : pos + 1 = 0 := zero
    rw [if_neg (Nat.not_lt.mpr (Nat.le_of_eq past.symm)), next] at plu
    rw [zero] at drives reanchored
    rw [plu] at moves
    clear_value begun
    subst same
    have entered := reanchored.entered
    have bounded := entered.bounded
    have fresh : (s.part.stepping ⟨slots, talk⟩).SameFaults (s.part.advance ⟨slots, talk⟩) := ⟨rfl, rfl, rfl⟩
    have told := reanchored.told.trans (fresh.settleFaults _)
    refine ⟨moves, entered.switches, ⟨told.faults, told.pnl⟩, bounded.silenced, bounded.resolved, bounded.takeCount,
      entered.crossfade, bounded.banks, bounded.ramps, bounded.ducks, congrArg Plu.position plu,
      congrArg Plu.slipPhase plu, (congrArg Plu.owed plu).trans owed, (congrArg Plu.slipCount plu :),
      (congrArg Plu.target plu :), drives, ?_, reanchored.total, entered.lanes, fun x peer => ?_⟩
    · rw [reanchored.buffers]
      refine List.filter_congr fun y _ => ?_
      have whole : y.block - blockOf 0 = y.block := BitVec.sub_zero _
      rw [whole]
    · exact (reanchored.imn_entries x).trans (if_neg peer)

/-- Settles O39: the crossing out of the last block of a window judges each peer that holds an entry for it. -/
theorem windowsAreEvaluatedAsPlayoutLeavesThem : Obligations.WindowsAreEvaluatedAsPlayoutLeavesThem := by
  intro s slots talk order pos idle owed at_ last within short y e windowEnd peer found whole d
  have acts := Part.samplePeriod_stepping idle owed at_ short ⟨slots, talk⟩ order
  have crossed := Part.takeMove_crossed (p := s.part.stepping ⟨slots, talk⟩) (m := .step) rfl at_ order within
    (blockOf_crossing pos last within).2
  exact ⟨_, next_withPart s acts, crossed.window windowEnd peer found⟩

end Sys2Proof.Machine

/-! # O52: the start of playout (R112, R115, R116, R125, R168). -/

namespace Sys2Proof.Machine

/-! ## The horizon target (R115, R116) -/

/-- The largest lag peak of the settled peers plus G (R115). -/
def Part.lagTarget (p : Part) : Nat :=
  (p.settledPeers.map fun x => max (p.peer x).lagCurrent (p.peer x).lagPrevious).foldl max 0 + p.settings.guardTime

/-- The target that the lag peaks give, within its limits (R115). -/
def Part.nextTarget (p : Part) : Nat := max p.settings.hmin (min p.settings.hmax p.lagTarget)

theorem Part.settleFault_decide (key : FaultKey) (c : Prop) [Decidable c] (p : Part) :
    p.settleFault key (decide c) = if c then p.raiseFault key else p.endFault key :=
  if_congr (decide_eq_true_iff ..) rfl rfl

theorem Part.formTarget_eq {p : Part} (peers : p.settledPeers ≠ []) : p.formTarget =
    ({ p with plu := { p.plu with target := p.nextTarget } } : Part).settleFault ⟨.horizonLimit, .none⟩
      (decide (p.settings.hmax < p.lagTarget)) := by
  have raw : p.rawTarget = some p.lagTarget := by
    rw [Part.rawTarget, Part.settledPeers_isEmpty peers]
    rfl
  rw [Part.settleFault_decide, Part.formTarget, raw]
  rfl

theorem Part.formTarget_none {p : Part} (none : p.settledPeers = []) : p.formTarget = p := by
  rw [Part.formTarget, Part.rawTarget, none]
  rfl

section
variable {p : Part} (peers : p.settledPeers ≠ [])
include peers

/-- Forming the target changes the target, the fault list and the reports. -/
theorem Part.formTarget_shape : p.formTarget = { p with
    plu := { p.plu with target := p.nextTarget }, faults := p.formTarget.faults
    pnl := p.pnl.withReports p.formTarget.pnl } := by
  rw [Part.formTarget_eq peers]
  exact (Part.settleFault_reports ..).eq

theorem Part.formTarget_told : p.formTarget.SameFaults
    (p.settleFault ⟨.horizonLimit, .none⟩ (decide (p.settings.hmax < p.lagTarget))) := by
  have same : ({ p with plu := { p.plu with target := p.nextTarget } } : Part).SameFaults p := ⟨rfl, rfl, rfl⟩
  rw [Part.formTarget_eq peers]
  exact same.settleFault _ _

end

/-! ## The start (R112) -/

/-- P placed at a start, with the digest entries begun afresh (R112, R168). -/
def Part.placing (p : Part) (pos : SampleCount) : Part :=
  Part.digestStart (blockOf pos) { p with plu := { p.plu with position := some pos, slipPhase := 0, owed := none } }

/-- P placed at a start, and its first entry (R112). -/
def Part.startAt (p : Part) (pos : SampleCount) : Part := (p.placing pos).enterBlock (blockOf pos)

theorem Part.beginPlayout_eq (p : Part) : p.beginPlayout = (p.formTarget.startAt p.formTarget.anchor).drive := rfl

theorem Part.startAt_plu (p : Part) (pos : SampleCount) : (p.startAt pos).plu =
    { p.plu with position := some pos, slipPhase := 0, owed := none, lanes := (p.startAt pos).plu.lanes } := by
  have plu : (p.placing pos).plu = { p.plu with position := some pos, slipPhase := 0, owed := none } := rfl
  rw [Part.startAt, Part.enterBlock_plu, plu]

theorem Part.startAt_movesOn (p : Part) (pos : SampleCount) : p.MovesOn (p.startAt pos) := by
  let u : Plu := { p.plu with position := some pos, slipPhase := 0, owed := none }
  have placed : p.MovesOn (p.placing pos) := .trans (q := { p with plu := u }) (.withPlu p u)
    (.mapDigests (fun d => { d with entries := freshEntries (blockOf pos) }) { p with plu := u })
  exact placed.trans (q := p.placing pos) (.enterBlock (blockOf pos) (p.placing pos))

theorem Part.startAt_holdsOutputs (p : Part) (pos : SampleCount) : p.HoldsOutputs (p.startAt pos) :=
  .trans (q := p.placing pos) (.of_mxe rfl rfl) (.enterBlock _ _)

theorem Part.startAt_entered (p : Part) (pos : SampleCount) : (p.startAt pos).ast = p.ast ∧
    (p.Entered (p.startAt pos) (blockOf pos) fun x => p.imn[x].suspect) ∧
    (p.startAt pos).SameFaults (p.tellLosses p.sul.own (p.lost (p.startAt pos).plu)) ∧
    ∀ y : Station, (p.startAt pos).imn[y] =
      if y = p.sul.own then p.imn[y] else { p.imn[y] with entries := freshEntries (blockOf pos) } :=
  p.enterBlock_anchored { p.plu with position := some pos, slipPhase := 0, owed := none } p.ast
    (fun d => { d with entries := freshEntries (blockOf pos) }) (blockOf pos) pos rfl rfl (fun _ _ => rfl) fun _ => rfl

/-- What a start gives: the entry at the anchor, with digest entries begun afresh (R112, R168). -/
structure Part.Started (p t : Part) (pos : SampleCount) : Prop where
  plu : t.plu = { p.plu with position := some pos, target := p.nextTarget, slipPhase := 0, owed := none, lanes := t.plu.lanes }
  ast : t.ast = p.ast
  moves : p.MovesOn t
  drives : p.Drives t (pos.toNat % 48)
  entered : p.Entered t (blockOf pos) fun x => p.imn[x].suspect
  told : t.SameFaults ((p.settleFault ⟨.horizonLimit, .none⟩ (decide (p.settings.hmax < p.lagTarget))).tellLosses p.sul.own
    (p.lost t.plu))
  imn : ∀ y : Station, t.imn[y] =
    if y = p.sul.own then p.imn[y] else { p.imn[y] with entries := freshEntries (blockOf pos) }

theorem Part.beginPlayout_started {p : Part} (peers : p.settledPeers ≠ []) :
    p.Started p.beginPlayout (p.now - BitVec.ofNat 48 p.nextTarget) := by
  have shape := Part.formTarget_shape peers
  have told := Part.formTarget_told peers
  have anchor : p.formTarget.anchor = p.now - BitVec.ofNat 48 p.nextTarget := by
    rw [shape]
    rfl
  rw [Part.beginPlayout_eq, anchor]
  generalize p.now - BitVec.ofNat 48 p.nextTarget = pos
  generalize p.formTarget = f at shape told
  have plu := f.startAt_plu pos
  have moves := f.startAt_movesOn pos
  have holds := f.startAt_holdsOutputs pos
  obtain ⟨ast, entered, losses, imn⟩ := f.startAt_entered pos
  generalize f.startAt pos = e at plu moves holds ast entered losses imn
  obtain ⟨ast', plu', imn', -, -⟩ := e.drive_rest
  have formed : p.MovesOn f := by
    rw [shape]
    exact ⟨.of_eq (p := p) rfl, rfl, rfl, rfl, rfl, rfl⟩
  have holds : p.HoldsOutputs e := .trans (q := f) (by rw [shape]; exact .of_mxe rfl rfl) holds
  have own : f.sul = p.sul := by rw [shape]
  have lost : f.lost = p.lost := by rw [shape]; rfl
  have kept : f.imn = p.imn := by rw [shape]
  refine ⟨?_, ?_, formed.trans (moves.trans (.drive e)), ?_, ?_, ?_, ?_⟩
  · rw [plu', plu, shape]
  · rw [ast', ast, shape]
  · exact holds.drives (by rw [plu])
  · rw [kept] at entered
    exact entered.drive.of_store shape rfl fun _ _ => rfl
  · rw [plu']
    rw [own, lost] at losses
    exact (losses.trans (told.settleFaults _)).drive
  · rw [imn']
    rw [own, kept] at imn
    exact imn

theorem Part.settleFault_active (key : FaultKey) (on : Bool) (p : Part) :
    (p.settleFault key on).faults.isActive key = on := by
  cases on
  · exact p.endFault_inactive key
  · exact p.raiseFault_active key

/-- Telling the lane losses leaves the other faults as they stand. -/
theorem Part.settleFault_tellLosses_active (limit : Bool) (own : Station) (lost : Station → ProgLane → Bool) (p : Part) :
    ((p.settleFault ⟨.horizonLimit, .none⟩ limit).tellLosses own lost).faults.isActive ⟨.horizonLimit, .none⟩ = limit := by
  refine Eq.trans (Bool.eq_iff_iff.mpr ?_) (Part.settleFault_active ⟨.horizonLimit, .none⟩ limit p)
  rw [Faults.isActive, Faults.isActive, List.contains_iff_mem, List.contains_iff_mem]
  exact Part.settleFaults_marks_of_ne (fun _ _ h => FaultKind.noConfusion (congrArg FaultKey.kind h)) _

/-- The part as the Playout Unit's turn at an instant finds it. -/
def Part.pluTurn (p : Part) : Part := { p with moment := { p.moment with pluDue := false } }

theorem Part.startTurn_due {p : Part} (due : p.moment.pluDue = true) (stopped : p.plu.position = none) :
    p.startTurn = if p.tau.mode.settled = true ∧ p.settledPeers ≠ [] then p.pluTurn.beginPlayout else p.pluTurn := by
  have idle : p.started = false := by rw [Part.started, stopped]; rfl
  have starts : p.canStart = true ↔ p.tau.mode.settled = true ∧ p.settledPeers ≠ [] := by
    simp [Part.canStart, idle]
  rw [Part.startTurn, if_pos (by rw [due, idle]; rfl)]
  exact if_congr starts rfl rfl

/-- Settles O52: the turn that starts playout, and the turn that does not. -/
theorem playoutStartPlacesP : Obligations.PlayoutStartPlacesP := by
  intro s due stopped peers raw target
  have turn := Part.startTurn_due due stopped
  refine ⟨fun settled some_ => ?_, fun idle => next_withPart s ?_⟩
  · have acts := turn.trans (if_pos ⟨settled, some_⟩)
    have started := Part.beginPlayout_started (p := s.part.pluTurn) some_
    refine ⟨_, next_withPart s acts, ?_⟩
    generalize s.part.pluTurn.beginPlayout = t at started
    obtain ⟨plu, ast, moves, drives, entered, told, imn⟩ := started
    have moves := moves.eq
    have moment := congrArg Part.moment moves
    rw [plu] at moves
    have position : t.plu.position = some (s.part.tau.sc + BitVec.ofInt 48 s.part.tau.correction - BitVec.ofNat 48 target) :=
      congrArg Plu.position plu
    have block (pb : BlockNo) (h : t.plu.position.map blockOf = some pb) :
        blockOf (s.part.tau.sc + BitVec.ofInt 48 s.part.tau.correction - BitVec.ofNat 48 target) = pb := by
      rw [position] at h
      exact Option.some.inj h
    have bounded := entered.bounded
    have limit : (s.part.pluTurn.settleFault ⟨.horizonLimit, .none⟩ (decide (s.part.settings.hmax < raw))).SameFaults
        (if s.part.settings.hmax < raw then s.part.raiseFault ⟨.horizonLimit, .none⟩
          else s.part.endFault ⟨.horizonLimit, .none⟩) := by
      have same : s.part.pluTurn.SameFaults s.part := ⟨rfl, rfl, rfl⟩
      rw [← Part.settleFault_decide]
      exact same.settleFault _ _
    have horizon := told
    have told := told.trans (limit.settleFaults _)
    refine ⟨congrArg Plu.target plu, congrArg Plu.slipPhase plu, position, fun pb h y peer => ?_, ?_, fun pb h x j => ?_,
      entered.switches, ⟨?_, ?_⟩, bounded.silenced, bounded.resolved, bounded.takeCount, entered.crossfade, bounded.banks,
      bounded.ramps, bounded.ducks, ?_, ast, moment, ?_⟩
    · rw [← block pb h]
      refine (imn y).trans ((if_neg peer).trans ?_)
      rw [freshEntries, windowsFrom, List.map_map]
      rfl
    · rw [position]
      exact drives
    · rw [← block pb h]
      exact entered.lanes x j
    · exact told.faults
    · exact told.pnl
    · refine moves.trans ?_
      rw [position, ast, moment]
      rfl
    · rw [horizon.faults]
      exact Part.settleFault_tellLosses_active ..
  · refine turn.trans (if_neg fun h => ?_)
    rcases idle with free | none
    · rw [h.1] at free
      exact Bool.noConfusion free
    · exact h.2 none

end Sys2Proof.Machine

/-! # O54: the release of the talk lane and the return of a fallback switch (R132, R136, R138). -/

namespace Sys2Proof.Machine

/-- A muted talk lane at count 100 that finds itself absent goes to rest, expected or not (R132). -/
theorem LaneRecord.enter_released {r : LaneRecord} (muted : r.state = .muted) (count : r.mutedCount = 100) (expected : Bool) :
    r.enter talkLane expected none = LaneRecord.reset := by
  have entered := LaneRecord.enter_none (r := r) (k := talkLane) expected (by simp [muted])
  rw [entered, LaneRecord.enterAbsent]
  simp only [muted, count]
  cases expected <;> rfl

theorem ProgLane.lane_ne_talkLane (k : ProgLane) : k.lane ≠ talkLane := Fin.ne_of_val_ne (Nat.ne_of_lt k.isLt)

/-- A programme lane that plays and finds itself present and unflagged is not bad, its peer not suspect (R126, R136). -/
theorem LaneRecord.enter_clear {r : LaneRecord} (playing : r.state = .playing) (k : ProgLane) {y : StoredLane}
    (loud : y.silent = false) (moving : y.stuck = false) (expected : Bool) :
    (r.enter k.lane expected (some y)).bad false = false := by
  have entered := LaneRecord.enter_some (r := r) (k := k.lane) expected y fun h => ProgLane.lane_ne_talkLane k h.1
  rw [entered, LaneRecord.enterPresent]
  simp only [playing, loud, moving]
  rfl

section
variable {named : Option ProgLane} {primaryBad : Bool} {bad : ProgLane → Bool} {w : FallbackSwitch}

/-- A switch ON_FALLBACK at an entry (R138). -/
theorem FallbackSwitch.decide_onFallback (h : w.state = .onFallback) : FallbackSwitch.decide named primaryBad bad w =
    if named = none ∨ named ≠ w.inUse then { w with state := .toPrimary, clearRun := 0 }
    else if primaryBad then { w with clearRun := 0 }
    else if 100 ≤ w.clearRun + 1 then { w with state := .toPrimary, clearRun := 0 }
    else { w with clearRun := w.clearRun + 1 } := by
  obtain ⟨state, inUse, clearRun⟩ := w
  obtain rfl : state = .onFallback := h
  rfl

/-- A switch ON_PRIMARY at an entry (R138). -/
theorem FallbackSwitch.decide_onPrimary (h : w.state = .onPrimary) : FallbackSwitch.decide named primaryBad bad w =
    match named with
    | none => w
    | some f => if primaryBad && !bad f then ⟨.toFallback, some f, 0⟩ else w := by
  obtain ⟨state, inUse, clearRun⟩ := w
  obtain rfl : state = .onPrimary := h
  rfl

/-- A switch on its way to its fallback decides as one there (R138). -/
theorem FallbackSwitch.decide_toFallback (h : w.state = .toFallback) : FallbackSwitch.decide named primaryBad bad w =
    FallbackSwitch.decide named primaryBad bad { w with state := .onFallback } := by
  obtain ⟨state, inUse, clearRun⟩ := w
  obtain rfl : state = .toFallback := h
  rfl

/-- A switch on its way to its primary decides as one there (R138). -/
theorem FallbackSwitch.decide_toPrimary (h : w.state = .toPrimary) : FallbackSwitch.decide named primaryBad bad w =
    FallbackSwitch.decide named primaryBad bad { w with state := .onPrimary, inUse := none } := by
  obtain ⟨state, inUse, clearRun⟩ := w
  obtain rfl : state = .toPrimary := h
  rfl

end

/-- Settles O54: the two commands are the crossing, read at one lane and at one switch. -/
theorem talkLaneAndFallbackReturn : Obligations.TalkLaneAndFallbackReturn := by
  refine ⟨fun s pos x owed at_ last within peer => ?_, fun named primaryBad bad w => ?_, fun r suspect => ?_⟩
  · intro b
    have plu := Part.takeMove_plu owed at_ .evaluationFirst
    have crossed := Part.takeMove_crossed owed at_ .evaluationFirst within (blockOf_crossing pos last within).2
    have entered := crossed.entered
    refine ⟨fun muted count absent => ?_, fun k u y held named other playing found loud moving trusted inside => ?_⟩
    · have released : (s.part.takeMove .evaluationFirst).plu.lane x talkLane = LaneRecord.reset := by
        rw [entered.lanes, if_neg peer, absent]
        exact LaneRecord.enter_released muted count _
      have due : s.part.talkReleases x = true := by
        rw [Part.talkReleases, muted, count, released]
        rfl
      exact ⟨_, next_withPart s (if_pos due), rfl, congrArg Plu.position plu, congrArg Plu.owed plu, released⟩
    · have suspect : (s.part.takeMove .evaluationFirst).imn[x].suspect = false :=
        (crossed.imn_unjudged peer (.inl inside)).2.1.trans trusted
      have clear : ((s.part.takeMove .evaluationFirst).plu.lane x k.lane).bad
          (s.part.takeMove .evaluationFirst).imn[x].suspect = false := by
        rw [entered.lanes, if_neg peer, found, suspect]
        exact LaneRecord.enter_clear playing k loud moving _
      have entry : (if s.part.mxe.fallback[x][k] = some k then none else s.part.mxe.fallback[x][k]) = some u := by
        rw [named, if_neg fun h => other (Option.some.inj h)]
      have returned : (s.part.takeMove .evaluationFirst).mxe.switches[x][k] = ⟨.toPrimary, some u, 0⟩ := by
        have good : ¬((s.part.takeMove .evaluationFirst).plu.lane x k.lane).bad
          (s.part.takeMove .evaluationFirst).imn[x].suspect = true := Bool.eq_false_iff.mp clear
        rw [entered.switches, if_neg peer, entry, held, FallbackSwitch.decide_onFallback rfl, if_neg (by simp)]
        exact (if_neg good).trans (if_pos (Nat.le_refl 100))
      have due : s.part.switchReturns x k = true := by
        rw [Part.switchReturns, held, returned, fallbackNamed, entry]
        simp
      exact ⟨_, next_withPart s (if_pos due), rfl, congrArg Plu.position plu, congrArg Plu.owed plu, returned⟩
  · intro v
    refine ⟨fun h => ?_, FallbackSwitch.decide_toFallback, fun h => ?_, FallbackSwitch.decide_toPrimary⟩
    · have decided := FallbackSwitch.decide_onPrimary (named := named) (primaryBad := primaryBad) (bad := bad) h
      refine ⟨fun none => decided.trans (by rw [none]), fun f some b good => decided.trans (by simp [some, b, good]),
        fun f some kept => decided.trans ?_⟩
      rw [some]
      exact if_neg (by rcases kept with h | h <;> simp [h])
    · have decided := FallbackSwitch.decide_onFallback (named := named) (primaryBad := primaryBad) (bad := bad) h
      refine ⟨fun left => decided.trans (if_pos left), fun f some used => ?_⟩
      have stays := decided.trans (if_neg (by simp [some, used]))
      refine ⟨fun b => stays.trans (if_pos b), fun good short => stays.trans ?_, fun good long => stays.trans ?_⟩
      · rw [if_neg (by simp [good]), if_neg (by omega)]
      · rw [if_neg (by simp [good]), if_pos (by omega)]
  · simp [LaneRecord.bad, or_assoc]

end Sys2Proof.Machine

/-! # O51: a step of K and what follows from it (R40, R56, R57, R61, R119, R120). -/

namespace Sys2Proof.Machine

/-! ## A horizon out of bounds (R120) -/

/-- P is placed, and its horizon lies outside 48 to 49,104. -/
def Part.OutOfBounds (p : Part) : Prop := p.plu.position ≠ none ∧ ¬(48 ≤ p.horizon ∧ p.horizon ≤ 49104)

/-- The part with no move of P owed. -/
def Part.unowed (p : Part) : Part := { p with plu := { p.plu with owed := none } }

/-- What a re-anchor at a step gives, the sample at the new P played in place of a move still owed (R120, log 27). -/
structure Part.StepAnchored (p t : Part) : Prop where
  plu : t.plu = { p.plu with position := some p.anchor, slipPhase := 0, owed := none, lanes := t.plu.lanes }
  anchored : p.Reanchored t (blockOf p.anchor)
  holds : p.plu.owed = none → p.HoldsOutputs t
  drives : p.plu.owed ≠ none → p.Drives t (p.anchor.toNat % 48)

theorem Part.stepPlayout_condition (p : Part) :
    (p.started = true ∧ (p.horizon < 48 ∨ 49104 < p.horizon)) ↔ p.OutOfBounds := by
  rw [Part.OutOfBounds, Part.started, Option.isSome_iff_ne_none]
  refine and_congr_right fun _ => ?_
  omega

theorem Part.stepPlayout_within {p : Part} (h : ¬p.OutOfBounds) : p.stepPlayout = p :=
  if_neg (mt p.stepPlayout_condition.mp h)

theorem Part.stepPlayout_out {p : Part} (h : p.OutOfBounds) : p.stepPlayout =
    if p.plu.owed.isSome then (p.unowed.reanchorTo p.anchor).drive else p.unowed.reanchorTo p.anchor :=
  if_pos (p.stepPlayout_condition.mpr h)

theorem Part.unowed_movesOn (p : Part) : p.MovesOn p.unowed := .withPlu p _

theorem Part.stepPlayout_movesOn (p : Part) : p.MovesOn p.stepPlayout := by
  have moved : p.MovesOn (p.unowed.reanchorTo p.anchor) := .trans (q := p.unowed) p.unowed_movesOn (.reanchorTo ..)
  by_cases out : p.OutOfBounds
  · rw [Part.stepPlayout_out out]
    split
    · exact moved.trans (.drive _)
    · exact moved
  · rw [Part.stepPlayout_within out]
    exact .refl p

/-- Whether a move is owed matters to no re-anchor. -/
theorem Part.Reanchored.of_unowed {p t : Part} {pb : BlockNo} (h : p.unowed.Reanchored t pb) : p.Reanchored t pb := by
  have same : p.unowed.SameFaults p := ⟨rfl, rfl, rfl⟩
  exact ⟨h.buffers, h.total, h.entered.of_store rfl rfl fun _ _ => rfl, h.told.trans (same.settleFaults _), h.imn⟩

theorem Part.stepPlayout_anchored {p : Part} (out : p.OutOfBounds) : p.StepAnchored p.stepPlayout := by
  have holds : p.HoldsOutputs (p.unowed.reanchorTo p.anchor) :=
    .trans (q := p.unowed) (.of_mxe rfl rfl) (.reanchorTo ..)
  have anchored := (p.unowed.reanchorTo_reanchored p.anchor).of_unowed
  have plu := p.unowed.reanchorTo_plu p.anchor
  rw [Part.stepPlayout_out out]
  generalize p.unowed.reanchorTo p.anchor = q at holds anchored plu
  have plu : q.plu = { p.plu with position := some p.anchor, slipPhase := 0, owed := none, lanes := q.plu.lanes } := plu
  by_cases owed : p.plu.owed = none
  · rw [if_neg (by simp [owed])]
    exact ⟨plu, anchored, fun _ => holds, fun h => absurd owed h⟩
  · rw [if_pos (Option.isSome_iff_ne_none.mpr owed)]
    refine ⟨?_, anchored.drive, fun h => absurd h owed, fun _ => holds.drives (by rw [plu])⟩
    rw [q.drive_rest.2.1]
    exact plu

/-! ## K, the records and the Capture Unit (R40, R56, R57) -/

theorem correctionAfter_eq (k m : Int) : correctionAfter k m = max (-140737488355296) (min 140737488355296
    (k - 48 * if 0 ≤ m then (m + 384) / 768 else -((384 - m) / 768))) := by
  have nearest : nearestDiv m 768 = if 0 ≤ m then (m + 384) / 768 else -((384 - m) / 768) := by
    unfold nearestDiv
    split <;> omega
  rw [← nearest]
  rfl

/-- The part as a step has corrected it, before the Playout Unit finds its horizon. -/
def Part.corrected (m : Int) (p : Part) : Part :=
  (({ p with
      tau := p.tau.stepped m
      moment := { p.moment with stepped := true } } : Part).stepPeers (p.tau.stepDelta m)).stepCapture

theorem Part.takeStep_eq (m : Int) (p : Part) : p.takeStep m = (p.corrected m).stepPlayout := rfl

theorem Part.corrected_shape (m : Int) (p : Part) : p.corrected m = { p with
    tau := p.tau.stepped m
    moment := { p.moment with stepped := true }
    ptb := { p.ptb with records := (p.corrected m).ptb.records }
    cap := { p.cap with digest := (p.corrected m).cap.digest, audio := (p.corrected m).cap.audio } } := rfl

theorem Part.corrected_peer (m : Int) (p : Part) (x : Station) : (p.corrected m).peer x =
    if x = p.sul.own ∨ (p.peer x).state = .absent then p.peer x else (p.peer x).stepped (p.tau.stepDelta m) := by
  have record : (p.corrected m).peer x =
      if p.isPeer x && (p.peer x).state != .absent then (p.peer x).stepped (p.tau.stepDelta m) else p.peer x :=
    Vector.getElem_ofFn x.isLt
  rw [record]
  by_cases own : x = p.sul.own
  · rw [if_neg (by simp [Part.isPeer, own]), if_pos (.inl own)]
  · by_cases absent : (p.peer x).state = .absent
    · rw [if_neg (by simp [absent]), if_pos (.inr absent)]
    · rw [if_pos (by simp [Part.isPeer, own, absent]), if_neg (by simp [own, absent])]

/-- A step leaves what a record announces. -/
theorem Part.corrected_reads (m : Int) (p : Part) (x : Station) : ((p.corrected m).peer x).announced = (p.peer x).announced ∧
    ((p.corrected m).peer x).state = (p.peer x).state ∧ ((p.corrected m).peer x).expects = (p.peer x).expects := by
  rw [Part.corrected_peer]
  split
  · exact ⟨rfl, rfl, rfl⟩
  · exact ⟨rfl, rfl, rfl⟩

/-- An entry of the corrected part is one of the part before the step. -/
theorem Part.Entered.of_corrected {m : Int} {p t : Part} {pb : BlockNo} {suspect : Station → Bool}
    (h : (p.corrected m).Entered t pb suspect) : p.Entered t pb suspect := by
  have reads := p.corrected_reads m
  have shape := p.corrected_shape m
  generalize p.corrected m = q at h reads shape
  have sul : q.sul = p.sul := by rw [shape]
  have plu : q.plu = p.plu := by rw [shape]
  have ast : q.ast = p.ast := by rw [shape]
  have mxe : q.mxe = p.mxe := by rw [shape]
  have settings : q.settings = p.settings := by rw [shape]
  obtain ⟨lanes, switches, crossfade, silenced, resolved, takeCount, banks, ramps, ducks⟩ := h
  unfold Part.RampsAt at ramps
  unfold Part.DucksAt at ducks
  rw [mxe] at crossfade banks ramps
  rw [sul, mxe, settings] at ducks
  refine ⟨fun x k => ?_, fun x k => ?_, crossfade, fun x => ?_, fun x k => ?_, takeCount, banks, ramps, ducks⟩
  · rw [lanes, sul, plu, ast, (reads x).2.2]
  · rw [switches, sul, mxe]
  · rw [silenced, sul]
  · rw [resolved, mxe, (reads x).1]

theorem Part.Reanchored.of_corrected {m : Int} {p t : Part} {pb : BlockNo} (h : (p.corrected m).Reanchored t pb) :
    p.Reanchored t pb := by
  have lost : (p.corrected m).lost = p.lost := by
    have reads := p.corrected_reads m
    generalize p.corrected m = q at reads
    funext u x k
    rw [Part.lost, Part.lost, (reads x).2.1, (reads x).2.2]
  have entered := h.entered.of_corrected
  have shape := p.corrected_shape m
  obtain ⟨buffers, total, -, told, imn⟩ := h
  generalize p.corrected m = q at buffers total told imn shape lost entered
  have same : q.SameFaults p := by rw [shape]; exact ⟨rfl, rfl, rfl⟩
  have sul : q.sul = p.sul := by rw [shape]
  have ast : q.ast = p.ast := by rw [shape]
  have digests : q.imn = p.imn := by rw [shape]
  rw [lost, sul] at told
  rw [ast] at buffers total
  rw [sul, digests] at imn
  rw [digests] at entered
  exact ⟨buffers, total, entered, told.trans (same.settleFaults _), imn⟩

theorem SenderDigest.spoilAt_spoiled (b : Option BlockNo) (b' : BlockNo) (r : SenderDigest) :
    (r.spoilAt b b').spoiled = true ↔ r.spoiled = true ∨ r.window = b.map windowOf ∨ r.window = some (windowOf b') := by
  unfold SenderDigest.spoilAt
  split
  · next h => simp [h]
  · next h => simp [h]

theorem Assembly.spoilAt_spoiled {b : Option BlockNo} {b' : BlockNo} {a : Assembly}
    (h : some (windowOf a.firstBlock) = b.map windowOf ∨ some (windowOf a.firstBlock) = some (windowOf b')) :
    a.spoilAt b b' = { a with digest := none } := if_pos (h.imp_right Option.some.inj)

theorem Assembly.spoilAt_kept {b : Option BlockNo} {b' : BlockNo} {a : Assembly}
    (h : ¬(some (windowOf a.firstBlock) = b.map windowOf ∨ some (windowOf a.firstBlock) = some (windowOf b'))) :
    a.spoilAt b b' = a := if_neg (mt (Or.imp_right (congrArg some)) h)

/-- The third large error in a run takes the step of M (R61). -/
theorem Part.largeRun_steps {p : Part} (due : p.moment.tauDue = true) (outside : p.cap.station ≠ .loading)
    (tracking : p.tau.mode = .tracking) (echo : p.liu.echoCount = 4) (peers : p.settledPeers ≠ [])
    (large : 7680 ≤ p.trackingError.natAbs) (run : p.tau.largeRun = 2) :
    p.largeRunDue = true ∧ p.tauWork = Part.takeStep p.trackingError { p with
      tau := { p.tau with emptyRun := 0, largeRun := 0 }
      moment := { p.moment with tauDue := false } } := by
  have valid : p.liu.echoValid = true := by simp [Liu.echoValid, echo]
  have some_ := Part.settledPeers_isEmpty peers
  refine ⟨?_, ?_⟩
  · simp [Part.largeRunDue, due, Part.running, outside, tracking, valid, peers, large, run]
  · rw [Part.tauWork_running due outside, Part.modeWork]
    have mode : p.tauTurn.tau.mode = .tracking := tracking
    rw [mode]
    dsimp only
    rw [Part.trackingWork, if_neg (by rw [show p.tauTurn.liu.echoValid = true from valid]; decide),
      if_neg (by rw [show p.tauTurn.settledPeers.isEmpty = false from some_]; decide), Part.consensusWork]
    refine (if_pos large).trans ((if_pos ?_).trans rfl)
    exact Nat.le_of_eq (congrArg (· + 1) run.symm)

/-- Settles O51: the step of any M, by the Playout Unit's re-anchor of the part as corrected, and the third large error
as one. -/
theorem largeRunTakesAStep : Obligations.LargeRunTakesAStep := by
  refine (and_iff_right_of_imp fun step s due outside tracking echo peers large run => ?_).mpr fun p m => ?_
  · intro m k blocks k' tau' q
    obtain ⟨falls, work⟩ := Part.largeRun_steps due outside tracking echo peers large run
    obtain ⟨shape, peers, digest, spoiled, no_audio, audio, kept, -, -, anchored⟩ := step { s.part with
      tau := { s.part.tau with emptyRun := 0, largeRun := 0 }
      moment := { s.part.moment with tauDue := false } } m
    have acts : (if s.part.largeRunDue = true then s.part.tauWork else s.part) = Part.takeStep m { s.part with
        tau := { s.part.tau with emptyRun := 0, largeRun := 0 }
        moment := { s.part.moment with tauDue := false } } := (if_pos falls).trans work
    refine ⟨_, next_withPart s acts, rfl, ?_⟩
    generalize Part.takeStep m { s.part with
      tau := { s.part.tau with emptyRun := 0, largeRun := 0 }
      moment := { s.part.moment with tauDue := false } } = t at *
    have plu := congrArg Part.plu shape
    have inside (near : s.part.plu.position = none ∨ (48 ≤ q.horizon ∧ q.horizon ≤ 49104)) :
        ¬(s.part.plu.position ≠ none ∧ ¬(48 ≤ q.horizon ∧ q.horizon ≤ 49104)) :=
      fun far => near.elim far.1 far.2
    refine ⟨(congrArg Part.tau shape :), (congrArg (fun p => p.moment.tauDue) shape :),
      (congrArg (fun p => p.moment.stepped) shape :), fun x still => (peers x).trans (if_pos still),
      fun x peer present => (peers x).trans (if_neg (not_or.mpr ⟨peer, present⟩)), ?_,
      ⟨(congrArg Part.cap shape :), digest, spoiled, no_audio, audio⟩, fun near => ?_, fun pos placed far at_ => ?_⟩
    · by_cases near : s.part.plu.position = none ∨ (48 ≤ q.horizon ∧ q.horizon ≤ 49104)
      · rw [if_pos near]
        exact congrArg Plu.position (plu.trans (if_neg (inside near)))
      · rw [if_neg near]
        exact congrArg Plu.position (plu.trans (if_pos (not_or.mp near)))
    · obtain ⟨ast, imn, mxe, -, -⟩ := kept (inside near)
      exact ⟨plu.trans (if_neg (inside near)), ast, imn, mxe⟩
    · have plu := plu.trans (if_pos ⟨placed, far⟩)
      obtain ⟨-, buffers, total, lanes, imn, -⟩ := anchored ⟨placed, far⟩
      obtain rfl := Option.some.inj (at_.symm.trans (congrArg Plu.position plu))
      exact ⟨(congrArg Plu.slipPhase plu :), (congrArg Plu.owed plu :), (congrArg Plu.slipCount plu :),
        (congrArg Plu.target plu :), buffers, total, lanes, fun x peer => (imn x).trans (if_neg peer)⟩
  · intro k blocks k' q out anchor spoils t
    have correction : correctionAfter k m = k' := correctionAfter_eq k m
    have shape := p.corrected_shape m
    have peer := p.corrected_peer m
    have delta : p.tau.stepDelta m = k - k' := congrArg (k - ·) correction
    have digest : (p.corrected m).cap.digest =
      p.cap.digest.spoilAt (p.cap.block.map (·.number)) (blockOf (commonTime p.tau.sc (correctionAfter k m))) := rfl
    have audio : (p.corrected m).cap.audio = p.cap.audio.map
      (Assembly.spoilAt (p.cap.block.map (·.number)) (blockOf (commonTime p.tau.sc (correctionAfter k m)))) := rfl
    have within := Part.stepPlayout_within (p := p.corrected m)
    have anchored := Part.stepPlayout_anchored (p := p.corrected m)
    have moves := (p.corrected m).stepPlayout_movesOn
    have reanchored (pb : BlockNo) := Part.Reanchored.of_corrected (m := m) (p := p) (t := t) (pb := pb)
    have taken : t = (p.corrected m).stepPlayout := rfl
    clear_value t
    rw [← taken] at within anchored moves
    generalize p.corrected m = r at *
    have tau : r.tau = { p.tau with correction := k', resyncTimer := 200, trim := p.tau.integral } := by
      rw [shape, ← correction]
      rfl
    have plu : r.plu = p.plu := by rw [shape]
    have horizon : r.horizon = q.horizon := by
      rw [Part.horizon, Part.now, tau, plu]
      rfl
    have anchor_eq : r.anchor = anchor := by
      rw [Part.anchor, Part.now, tau, plu]
      rfl
    have bounds : r.OutOfBounds ↔ out := by
      rw [Part.OutOfBounds, horizon, plu]
    have cap : t.cap = r.cap := moves.plays.cap
    have ptb : t.ptb = r.ptb := moves.plays.ptb
    have ast : r.ast = p.ast := by rw [shape]
    have mxe : r.mxe = p.mxe := by rw [shape]
    have placed : t.plu = if out then
        { p.plu with position := some anchor, slipPhase := 0, owed := none, lanes := t.plu.lanes } else p.plu := by
      by_cases far : out
      · rw [if_pos far, (anchored (bounds.mpr far)).plu, anchor_eq, plu]
      · rw [if_neg far, within (mt bounds.mp far), plu]
    refine ⟨Part.eq_of_fields ?_ ?_ ?_ ?_ (moves.plays.tau.trans tau) ?_ ?_ placed ?_ rfl rfl rfl ?_, fun x => ?_, ?_, ?_,
      fun none => ?_, fun a some_ => ⟨fun h => ?_, fun h => ?_⟩, fun near => ?_, fun far owed => ?_, fun far owed => ?_,
      fun far => ?_⟩
    · rw [moves.plays.sul, shape]
    · rw [moves.plays.settings, shape]
    · rw [moves.plays.liu, shape]
    · rw [ptb, shape]
    · rw [cap, shape]
    · rw [moves.store, ast]
    · rw [← mxe]
      dsimp only
      rw [← moves.map, ← moves.fallback, ← moves.metersOn, ← moves.meterCount]
    · rw [moves.plays.moment, shape]
    · rw [Part.peer, ptb]
      refine (peer x).trans (if_congr Iff.rfl rfl ?_)
      rw [delta]
      rfl
    · rw [cap, digest]
      exact SenderDigest.spoilAt_frame ..
    · rw [cap, digest, SenderDigest.spoilAt_spoiled, Option.map_map, correction]
      rfl
    · rw [cap, audio, none]
      rfl
    · rw [cap, audio, some_, correction]
      refine congrArg some (Assembly.spoilAt_spoiled ?_)
      rw [Option.map_map]
      exact h
    · rw [cap, audio, some_, correction]
      refine congrArg some (Assembly.spoilAt_kept ?_)
      rw [Option.map_map]
      exact h
    · rw [within (mt bounds.mp near), shape]
      exact ⟨rfl, rfl, rfl, rfl, rfl⟩
    · obtain ⟨-, outputs, dither, clipCount, peaks, clips, -⟩ := (anchored (bounds.mpr far)).holds (by rw [plu]; exact owed)
      rw [← mxe]
      exact ⟨outputs, dither, clipCount, peaks, clips⟩
    · have drives := (anchored (bounds.mpr far)).drives (by rw [plu]; exact owed)
      rw [anchor_eq] at drives
      have settings : r.settings = p.settings := by rw [shape]
      exact drives.of_same settings (by rw [mxe]) (by rw [mxe]) (by rw [mxe]) (by rw [mxe]) (by rw [mxe])
    · have back := reanchored (blockOf anchor) (by rw [← anchor_eq]; exact (anchored (bounds.mpr far)).anchored)
      have same : p.SameFaults q := ⟨rfl, rfl, rfl⟩
      have told := back.told.trans (same.settleFaults _)
      have entered := back.entered
      have bounded := entered.bounded
      exact ⟨by rw [moves.store, ast], back.buffers, back.total, entered.lanes, back.imn_entries, entered.switches,
        ⟨told.faults, told.pnl⟩, bounded.silenced, bounded.resolved, bounded.takeCount, entered.crossfade,
        bounded.banks, bounded.ramps, bounded.ducks⟩

end Sys2Proof.Machine

/-! # What the mode work of an agreement instant reads and writes, and the Playout Unit's turn at it (R50, R115, R116). -/

namespace Sys2Proof.Machine

/-! ## What the mode work reads -/

namespace Part.SameInstant
variable {p q : Part} (h : p.SameInstant q)
include h

theorem echoValid : q.liu.echoValid = p.liu.echoValid := by rw [h.liu]

theorem acquiringError : q.acquiringError = p.acquiringError := by
  simp only [Part.acquiringError, Part.settledOffsets, Part.settledPeers, Part.peer, h.ptb]

theorem foundingLimit : q.foundingLimit = p.foundingLimit := by simp only [Part.foundingLimit, h.sul]

theorem running : q.running = p.running := by simp only [Part.running, h.cap]

theorem mapTau (f : Tau → Tau) : (p.mapTau f).SameInstant (q.mapTau f) :=
  ⟨h.sul, h.liu, h.ptb, congrArg f h.tau, h.cap, h.tauDue, h.trimDue⟩

theorem tauTurn : p.tauTurn.SameInstant q.tauTurn := ⟨h.sul, h.liu, h.ptb, h.tau, h.cap, rfl, h.trimDue⟩

theorem mapTau_tau (f : Tau → Tau) : (q.mapTau f).tau = (p.mapTau f).tau := congrArg f h.tau

theorem consensusWork_tau : q.consensusWork.tau = p.consensusWork.tau := by
  unfold Part.consensusWork
  rw [h.trackingError, h.tau]
  dsimp only
  split
  · split
    · rw [Part.takeStep_tau, Part.takeStep_tau, h.mapTau_tau]
    · exact h.mapTau_tau _
  · exact h.mapTau_tau _

theorem trackingWork_tau : q.trackingWork.tau = p.trackingWork.tau := by
  unfold Part.trackingWork
  rw [h.echoValid, h.settledPeers, h.tau]
  split
  · exact h.mapTau_tau _
  · split
    · split
      · exact h.mapTau_tau _
      · exact (h.mapTau _).consensusWork_tau
    · exact (h.mapTau _).consensusWork_tau

theorem acquiringWork_tau : q.acquiringWork.tau = p.acquiringWork.tau := by
  unfold Part.acquiringWork
  rw [h.echoValid, h.settledPeers, h.tau, h.foundingLimit, h.acquiringError]
  dsimp only
  split
  · exact h.mapTau_tau _
  · split
    · split
      · exact h.mapTau_tau _
      · exact h.mapTau_tau _
    · split
      · rw [Part.takeStep_tau, Part.takeStep_tau, h.mapTau_tau]
      · exact h.mapTau_tau _

theorem modeWork_tau : q.modeWork.tau = p.modeWork.tau := by
  unfold Part.modeWork
  rw [h.tau]
  cases p.tau.mode with
  | free =>
    dsimp only [Part.freeWork]
    rw [h.echoValid]
    split
    · exact h.mapTau_tau _
    · exact h.tau
  | acquiring => exact h.acquiringWork_tau
  | tracking => exact h.trackingWork_tau
  | holdover =>
    dsimp only [Part.holdoverWork]
    rw [h.echoValid, h.settledPeers, h.trackingError]
    split
    · exact h.mapTau_tau _
    · exact h.tau

theorem tauWork_tau : q.tauWork.tau = p.tauWork.tau := by
  unfold Part.tauWork
  rw [h.tauDue]
  dsimp only
  split
  · have running : q.tauTurn.running = p.tauTurn.running := h.tauTurn.running
    change (if q.tauTurn.running = true then q.tauTurn.modeWork else q.tauTurn).tau =
      (if p.tauTurn.running = true then p.tauTurn.modeWork else p.tauTurn).tau
    rw [running]
    split
    · exact h.tauTurn.modeWork_tau
    · exact h.tauTurn.tau
  · exact h.tau

end Part.SameInstant

/-! ## Mode work without a step -/

/-- The mode work of this instant takes no step: no settled peer, no valid E, or an error too small (R54, R56, R61). -/
def Part.NoStep (p : Part) : Prop :=
  p.liu.echoCount = 4 → p.settledPeers ≠ [] →
    (p.tau.mode = .acquiring → p.acquiringError.natAbs < 384) ∧
      (p.tau.mode = .tracking → p.trackingError.natAbs < 7680 ∨ p.tau.largeRun + 1 < 3)

/-- The Time Agreement Unit's registers set. -/
def Part.withTau (p : Part) (u : Tau) : Part := { p with tau := u }

theorem Part.withTau_self (p : Part) : p.withTau p.tau = p := rfl

theorem Liu.echoValid_iff (l : Liu) : l.echoValid = true ↔ l.echoCount = 4 := beq_iff_eq

theorem Part.settledPeers_isEmpty_iff (p : Part) : p.settledPeers.isEmpty = true ↔ p.settledPeers = [] := List.isEmpty_iff

theorem Part.acquiringWork_plain {p : Part} (mode : p.tau.mode = .acquiring) (h : p.NoStep) :
    p.acquiringWork = p.withTau p.acquiringWork.tau := by
  unfold Part.acquiringWork
  split
  · rfl
  · next valid =>
    split
    · split
      · rfl
      · rfl
    · next some_ =>
      have echo : p.liu.echoCount = 4 := (Liu.echoValid_iff _).mp (by simpa using valid)
      have small := (h echo (mt p.settledPeers_isEmpty_iff.mpr some_)).1 mode
      dsimp only
      rw [if_neg (Nat.not_le.mpr small)]
      rfl

theorem Part.consensusWork_plain {p : Part} (h : p.trackingError.natAbs < 7680 ∨ p.tau.largeRun + 1 < 3) :
    p.consensusWork = p.withTau p.consensusWork.tau := by
  unfold Part.consensusWork
  dsimp only
  split
  · next large =>
    rw [if_neg (Nat.not_le.mpr (h.resolve_left (Nat.not_lt.mpr large)))]
    rfl
  · rfl

/-- Alone, the station counts itself at 0 (R51). -/
theorem Part.trackingError_alone {p : Part} (alone : p.settledPeers = []) : p.trackingError = 0 := by
  rw [Part.trackingError, Part.settledOffsets, alone]
  change consensus [0] = 0
  decide

theorem Part.trackingWork_plain {p : Part} (mode : p.tau.mode = .tracking) (h : p.NoStep) :
    p.trackingWork = p.withTau p.trackingWork.tau := by
  unfold Part.trackingWork
  split
  · rfl
  · next valid =>
    split
    · next alone =>
      split
      · rfl
      · have small : p.trackingError = 0 := Part.trackingError_alone (p.settledPeers_isEmpty_iff.mp alone)
        exact Part.consensusWork_plain (p := p.mapTau fun t => { t with emptyRun := t.emptyRun + 1 })
          (.inl (lt_of_eq_of_lt (congrArg Int.natAbs small) (by decide)))
    · next some_ =>
      have echo : p.liu.echoCount = 4 := (Liu.echoValid_iff _).mp (by simpa using valid)
      exact Part.consensusWork_plain (p := p.mapTau fun t => { t with emptyRun := 0 })
        ((h echo (mt p.settledPeers_isEmpty_iff.mpr some_)).2 mode)

theorem Part.modeWork_plain {p : Part} (h : p.NoStep) : p.modeWork = p.withTau p.modeWork.tau := by
  unfold Part.modeWork
  split
  · unfold Part.freeWork
    split
    · rfl
    · rfl
  · next mode => exact Part.acquiringWork_plain mode h
  · next mode => exact Part.trackingWork_plain mode h
  · unfold Part.holdoverWork
    split
    · rfl
    · rfl

theorem Part.SameInstant.noStep {p q : Part} (h : p.SameInstant q) (plain : p.NoStep) : q.NoStep := by
  unfold Part.NoStep
  rw [h.liu, h.settledPeers, h.tau, h.acquiringError, h.trackingError]
  exact plain

/-- A due instant's work without a step changes the Time Agreement Unit alone. -/
theorem Part.tauWork_plain {p : Part} (h : p.moment.tauDue = true → p.cap.station ≠ .loading → p.NoStep) :
    p.tauWork = p.tauTurn.withTau p.tauWork.tau := by
  by_cases due : p.moment.tauDue = true
  · by_cases loading : p.cap.station = .loading
    · have idle : p.tauWork = p.tauTurn := by
        have waits : p.running = false := by rw [Part.running, loading]; rfl
        rw [Part.tauWork, if_pos due, waits]
        rfl
      rw [idle]
      rfl
    · rw [Part.tauWork_running due loading]
      exact Part.modeWork_plain (p := p.tauTurn) (h due loading)
  · have taken : p.moment.tauDue = false := Bool.eq_false_iff.mpr due
    have same : p.tauTurn = p := by rw [Part.tauTurn, ← taken]
    rw [Part.tauWork_taken p taken, same]
    rfl

/-- The work of the instant on every part that reads the same at it. -/
theorem Part.SameInstant.tauWork_plain {p q : Part} (same : p.SameInstant q)
    (h : p.moment.tauDue = true → p.cap.station ≠ .loading → p.NoStep) :
    q.tauWork = q.tauTurn.withTau p.tauWork.tau := by
  rw [← same.tauWork_tau]
  refine Part.tauWork_plain fun due outside => same.noStep (h ?_ ?_)
  · rw [← same.tauDue]
    exact due
  · rw [← same.cap]
    exact outside

/-! ## The Playout Unit's turn (R115, R116) -/

/-- The turn forms a target: due, playout started, a settled peer. -/
def Part.Forms (p : Part) : Prop := p.moment.pluDue = true ∧ p.plu.position ≠ none ∧ p.settledPeers ≠ []

/-- The moment after the Playout Unit's turn. -/
def Part.targetMoment (p : Part) : Moment := { p.moment with pluDue := p.moment.pluDue && p.plu.position.isNone }

theorem Part.targetTurn_idle {p : Part} (h : p.moment.pluDue = false ∨ p.plu.position = none) : p.targetTurn = p := by
  refine if_neg fun due => ?_
  obtain ⟨due, started⟩ := Bool.and_eq_true_iff.mp due
  rcases h with taken | stopped
  · rw [due] at taken
    exact Bool.noConfusion taken
  · rw [Part.started, stopped] at started
    exact Bool.noConfusion started

theorem Part.targetTurn_due {p : Part} (due : p.moment.pluDue = true) (started : p.plu.position ≠ none) :
    p.targetTurn = p.pluTurn.formTarget :=
  if_pos (by rw [due, Part.started, Option.isSome_iff_ne_none.mpr started]; rfl)

theorem Part.targetTurn_forms {p : Part} (h : p.Forms) : p.targetTurn =
    { p with
      plu := { p.plu with target := p.nextTarget }
      faults := (p.settleFault ⟨.horizonLimit, .none⟩ (decide (p.settings.hmax < p.lagTarget))).faults
      pnl := (p.settleFault ⟨.horizonLimit, .none⟩ (decide (p.settings.hmax < p.lagTarget))).pnl
      moment := p.targetMoment } := by
  obtain ⟨due, started, peers⟩ := h
  have shape := Part.formTarget_shape (p := p.pluTurn) peers
  have told := Part.formTarget_told (p := p.pluTurn) peers
  have same : p.pluTurn.SameFaults p := ⟨rfl, rfl, rfl⟩
  have told : p.pluTurn.formTarget.SameFaults
      (p.settleFault ⟨.horizonLimit, .none⟩ (decide (p.settings.hmax < p.lagTarget))) := told.trans (same.settleFault _ _)
  have moment : p.targetMoment = p.pluTurn.moment := by
    rw [Part.targetMoment, due, Option.isNone_eq_false_iff.mpr (Option.isSome_iff_ne_none.mpr started)]
    rfl
  rw [Part.targetTurn_due due started, moment, ← told.faults, ← told.pnl]
  generalize p.pluTurn.formTarget = t at shape
  have pnl := congrArg Part.pnl shape
  exact shape.trans (congrArg (fun r : Pnl => { p with
    plu := { p.plu with target := p.nextTarget }, faults := t.faults, pnl := r, moment := p.pluTurn.moment }) pnl.symm)

theorem Part.targetTurn_waits {p : Part} (h : ¬p.Forms) : p.targetTurn = { p with moment := p.targetMoment } := by
  by_cases due : p.moment.pluDue = true ∧ p.plu.position ≠ none
  · have alone : p.settledPeers = [] := by
      by_contra some_
      exact h ⟨due.1, due.2, some_⟩
    have moment : p.targetMoment = p.pluTurn.moment := by
      rw [Part.targetMoment, due.1, Option.isNone_eq_false_iff.mpr (Option.isSome_iff_ne_none.mpr due.2)]
      rfl
    rw [Part.targetTurn_due due.1 due.2, moment]
    exact Part.formTarget_none (p := p.pluTurn) alone
  · have idle : p.moment.pluDue = false ∨ p.plu.position = none := by
      by_cases d : p.moment.pluDue = true
      · exact .inr (not_not.mp (mt (And.intro d) due))
      · exact .inl (Bool.eq_false_iff.mpr d)
    have moment : p.targetMoment = p.moment := by
      rcases idle with taken | stopped
      · rw [Part.targetMoment, taken, Bool.false_and, ← taken]
      · rw [Part.targetMoment, stopped, Option.isNone_none, Bool.and_true]
    rw [Part.targetTurn_idle idle, moment]

end Sys2Proof.Machine

/-! # O49: the agreement instant in each clock mode (R50, R52 to R57, R59, R60, R63, R64, R115, R116). -/

namespace Sys2Proof.Machine

/-! ## What keeps the horizon target -/

/-- The target, HORIZON_LIMIT's mark, and whether playout is started are the same. -/
structure Part.KeepsTarget (p q : Part) : Prop where
  target : q.plu.target = p.plu.target
  mark : ⟨.horizonLimit, .none⟩ ∈ q.faults.marks ↔ ⟨.horizonLimit, .none⟩ ∈ p.faults.marks
  stopped : q.plu.position = none ↔ p.plu.position = none

/-- Telling the lane losses keeps HORIZON_LIMIT. -/
theorem Part.horizonLimit_tellLosses (own : Station) (lost : Station → ProgLane → Bool) (p : Part) :
    ⟨.horizonLimit, .none⟩ ∈ (p.tellLosses own lost).faults.marks ↔ ⟨.horizonLimit, .none⟩ ∈ p.faults.marks :=
  Part.settleFaults_marks_of_ne (fun _ _ h => FaultKind.noConfusion (congrArg FaultKey.kind h)) p

/-- Telling the digest suspicions keeps HORIZON_LIMIT. -/
theorem Part.horizonLimit_tellSuspects (judged : List Station) (suspect : Station → Bool) (p : Part) :
    ⟨.horizonLimit, .none⟩ ∈ (p.tellSuspects judged suspect).faults.marks ↔ ⟨.horizonLimit, .none⟩ ∈ p.faults.marks :=
  Part.settleFaults_marks_of_ne (fun _ _ h => FaultKind.noConfusion (congrArg FaultKey.kind h)) p

theorem Part.Crossed.horizonLimit {p t : Part} {order : CrossOrder} {b : BlockNo} (h : p.Crossed t order b) :
    ⟨.horizonLimit, .none⟩ ∈ t.faults.marks ↔ ⟨.horizonLimit, .none⟩ ∈ p.faults.marks := by
  rw [h.told.faults]
  cases order with
  | evaluationFirst => exact (Part.horizonLimit_tellLosses ..).trans (Part.horizonLimit_tellSuspects ..)
  | readersFirst => exact (Part.horizonLimit_tellSuspects ..).trans (Part.horizonLimit_tellLosses ..)

theorem Part.Reanchored.horizonLimit {p t : Part} {pb : BlockNo} (h : p.Reanchored t pb) :
    ⟨.horizonLimit, .none⟩ ∈ t.faults.marks ↔ ⟨.horizonLimit, .none⟩ ∈ p.faults.marks := by
  rw [h.told.faults]
  exact Part.horizonLimit_tellLosses ..

/-- A move that is not owed, or has no P to take on, is none. -/
theorem Part.takeMove_idle {p : Part} (h : p.plu.owed = none ∨ p.plu.position = none) (order : CrossOrder) :
    p.takeMove order = p := by
  unfold Part.takeMove
  split
  · next pos m at_ owed =>
    rcases h with h | h
    · exact absurd (owed.symm.trans h) (Option.some_ne_none m)
    · exact absurd (at_.symm.trans h) (Option.some_ne_none pos)
  · rfl

namespace Part.KeepsTarget

theorem refl (p : Part) : p.KeepsTarget p := ⟨rfl, Iff.rfl, Iff.rfl⟩

theorem trans {p q r : Part} (h : p.KeepsTarget q) (h' : q.KeepsTarget r) : p.KeepsTarget r :=
  ⟨h'.target.trans h.target, h'.mark.trans h.mark, h'.stopped.trans h.stopped⟩

theorem of_eq {p q : Part} (plu : q.plu = p.plu) (faults : q.faults = p.faults) : p.KeepsTarget q := by
  refine ⟨?_, ?_, ?_⟩
  · rw [plu]
  · rw [faults]
  · rw [plu]

theorem trimTurn (p : Part) : p.KeepsTarget p.trimTurn := of_eq p.trimTurn_plu p.trimTurn_faults

theorem takeMove (order : CrossOrder) (p : Part) : p.KeepsTarget (p.takeMove order) := by
  cases owed : p.plu.owed with
  | none => rw [Part.takeMove_idle (.inl owed)]; exact .refl p
  | some m =>
    cases at_ : p.plu.position with
    | none => rw [Part.takeMove_idle (.inr at_)]; exact .refl p
    | some pos =>
      have plu := Part.takeMove_plu owed at_ order
      have inside := Part.takeMove_inside owed at_ order
      have crossed := Part.takeMove_crossed owed at_ order
      have reanchored := Part.takeMove_reanchored owed at_ order
      generalize p.takeMove order = t at plu inside crossed reanchored
      refine ⟨by rw [plu], ?_, by rw [plu, at_]; exact iff_of_false (Option.some_ne_none _) (Option.some_ne_none _)⟩
      by_cases within : pos.toNat + p.owedStep pos m < 2 ^ 48
      · by_cases stays : blockOf (pos + BitVec.ofNat 48 (p.owedStep pos m)) = blockOf pos
        · rw [inside within stays]
        · exact (crossed within stays).horizonLimit
      · exact (reanchored (Nat.not_lt.mp within)).horizonLimit

theorem completeStep (p : Part) : p.KeepsTarget p.completeStep := by
  unfold Part.completeStep
  split
  · exact takeMove _ p
  · exact refl p

theorem stepPlayout (p : Part) : p.KeepsTarget p.stepPlayout := by
  by_cases out : p.OutOfBounds
  · obtain ⟨plu, anchored, -, -⟩ := Part.stepPlayout_anchored out
    generalize p.stepPlayout = t at plu anchored
    exact ⟨by rw [plu], anchored.horizonLimit, by rw [plu]; exact iff_of_false (Option.some_ne_none _) out.1⟩
  · rw [Part.stepPlayout_within out]
    exact refl p

theorem takeStep (m : Int) (p : Part) : p.KeepsTarget (p.takeStep m) := by
  have shape := p.corrected_shape m
  rw [Part.takeStep_eq]
  generalize p.corrected m = q at shape
  exact (of_eq (by rw [shape]) (by rw [shape])).trans (stepPlayout q)

theorem mapTau (f : Tau → Tau) (p : Part) : p.KeepsTarget (p.mapTau f) := of_eq rfl rfl

theorem consensusWork (p : Part) : p.KeepsTarget p.consensusWork := by
  unfold Part.consensusWork
  dsimp only
  split
  · split
    · exact (mapTau _ p).trans (takeStep _ _)
    · exact mapTau _ p
  · exact mapTau _ p

theorem modeWork (p : Part) : p.KeepsTarget p.modeWork := by
  unfold Part.modeWork
  split
  · unfold Part.freeWork
    split
    · exact mapTau _ p
    · exact refl p
  · unfold Part.acquiringWork
    split
    · exact mapTau _ p
    · split
      · split
        · exact mapTau _ p
        · exact mapTau _ p
      · dsimp only
        split
        · exact (mapTau _ p).trans (takeStep _ _)
        · exact mapTau _ p
  · unfold Part.trackingWork
    split
    · exact mapTau _ p
    · split
      · split
        · exact mapTau _ p
        · exact (mapTau _ p).trans (consensusWork _)
      · exact (mapTau _ p).trans (consensusWork _)
  · unfold Part.holdoverWork
    split
    · exact mapTau _ p
    · exact refl p

theorem tauWork (p : Part) : p.KeepsTarget p.tauWork := by
  have begun : p.KeepsTarget p.tauTurn := of_eq rfl rfl
  unfold Part.tauWork
  split
  · dsimp only
    split
    · exact begun.trans (modeWork p.tauTurn)
    · exact begun
  · exact refl p

end Part.KeepsTarget

end Sys2Proof.Machine

/-! # O49: the agreement instant in each clock mode (R50, R52 to R57, R59, R60, R63, R64, R115, R116). -/

namespace Sys2Proof.Machine

/-- The Time Agreement Unit's registers and what is due at it, set. -/
def Part.timed (u : Tau) (tauDue trimDue : Bool) (p : Part) : Part :=
  { p with tau := u, moment := { p.moment with tauDue := tauDue, trimDue := trimDue } }

/-- The Playout Unit's turn reads nothing of the Time Agreement Unit but SC. -/
theorem Part.targetTurn_timed {p : Part} {u : Tau} (sc : u.sc = p.tau.sc) (a b : Bool) :
    (p.timed u a b).targetTurn = p.targetTurn.timed u a b := by
  have same : (p.timed u a b).SameFaults p := ⟨rfl, rfl, sc⟩
  by_cases forms : p.Forms
  · have told := same.settleFault ⟨.horizonLimit, .none⟩ (decide (p.settings.hmax < p.lagTarget))
    have formed := Part.targetTurn_forms (p := p.timed u a b) forms
    rw [formed, Part.targetTurn_forms forms]
    refine Part.eq_of_fields rfl rfl rfl rfl rfl rfl rfl rfl rfl rfl ?_ ?_ rfl
    · exact told.faults
    · exact told.pnl
  · rw [Part.targetTurn_waits forms]
    exact Part.targetTurn_waits (p := p.timed u a b) forms

theorem Part.tauWork_sc (p : Part) : p.tauWork.tau.sc = p.tau.sc := by
  by_cases due : p.moment.tauDue = true
  · exact (Part.tauWork_worksTime due).sc
  · rw [Part.tauWork_taken p (Bool.eq_false_iff.mpr due)]

theorem Part.tauWork_pluDue (p : Part) : p.tauWork.moment.pluDue = p.moment.pluDue := by
  by_cases due : p.moment.tauDue = true
  · rw [(Part.tauWork_worksTime due).moment]
    rfl
  · rw [Part.tauWork_taken p (Bool.eq_false_iff.mpr due)]

section
variable {p : Part} {o : InstantOrder} (due : p.moment.trimDue = true) (takes : o ≠ .targetOnly)
include due takes

/-- An instant without a step: the target, the registers and the trim word, then a held move. -/
theorem Part.agreementWork_plain (plain : p.moment.tauDue = true → p.cap.station ≠ .loading → p.NoStep) :
    p.agreementWork o = (p.targetTurn.timed p.tauWork.tau.sendTrim false false).completeStep := by
  cases o with
  | timeFirst =>
    rw [Part.agreementWork_timeFirst due, Part.tauWork_plain plain]
    exact congrArg Part.completeStep (Part.targetTurn_timed (u := p.tauWork.tau.sendTrim) p.tauWork_sc false false)
  | playoutFirst =>
    rw [Part.agreementWork_playoutFirst due, p.targetTurn_sameInstant.tauWork_plain plain]
    rfl
  | targetOnly => exact absurd rfl takes

omit takes in
theorem Part.tauWork_trimDue : p.tauWork.moment.trimDue = true := by
  by_cases work : p.moment.tauDue = true
  · rw [(Part.tauWork_worksTime work).moment]
    exact due
  · rw [Part.tauWork_taken p (Bool.eq_false_iff.mpr work)]
    exact due

/-- An instant without a turn of the Playout Unit: the mode work and the trim word, then a held move. -/
theorem Part.agreementWork_idle (idle : p.moment.pluDue = false ∨ p.plu.position = none) :
    p.agreementWork o = p.tauWork.trimTurn.completeStep := by
  cases o with
  | timeFirst =>
    have still : p.tauWork.trimTurn.moment.pluDue = false ∨ p.tauWork.trimTurn.plu.position = none :=
      idle.imp p.tauWork_pluDue.trans (Part.KeepsTarget.tauWork p).stopped.mpr
    rw [Part.agreementWork_timeFirst due, Part.targetTurn_idle still]
  | playoutFirst => rw [Part.agreementWork_playoutFirst due, Part.targetTurn_idle idle]
  | targetOnly => exact absurd rfl takes

theorem Part.agreementWork_tau : (p.agreementWork o).tau = p.tauWork.tau.sendTrim :=
  Part.agreementWork_tau_eq due takes fun _ same => same.tauWork_tau

end

/-! ## The work of each mode -/

theorem Part.takeStep_moment (m : Int) (p : Part) : (p.takeStep m).moment = { p.moment with stepped := true } :=
  (Part.PlaysOn.stepPlayout (p.corrected m)).moment.trans (congrArg Part.moment (p.corrected_shape m))

theorem Tau.trimUpdate_zero {t : Tau} (least : -10000 ≤ t.integral) (most : t.integral ≤ 10000) :
    t.trimUpdate 0 = { t with trim := t.integral } := by
  have kept : clampInt (-trimLimit) trimLimit t.integral = t.integral := by
    change max (-10000) (min 10000 t.integral) = t.integral
    omega
  have same : t.integral - truncDiv 0 16 = t.integral := by
    change t.integral - 0 = t.integral
    omega
  have still : t.integral - 4 * 0 = t.integral := by omega
  rw [Tau.trimUpdate, same, kept, still, kept]

section
variable {p : Part}

theorem Part.freeWork_hears (valid : p.liu.echoValid = true) :
    p.freeWork = p.mapTau fun t => { t with mode := .acquiring, foundingCount := 0 } := if_pos valid

theorem Part.freeWork_waits (deaf : p.liu.echoValid ≠ true) : p.freeWork = p := if_neg deaf

theorem Part.acquiringWork_deaf (deaf : p.liu.echoValid ≠ true) :
    p.acquiringWork = p.mapTau fun t => { t with mode := .free, foundingCount := 0 } :=
  if_pos (by simp [deaf])

theorem Part.acquiringWork_counts (valid : p.liu.echoValid = true) (alone : p.settledPeers = [])
    (short : p.tau.foundingCount + 1 < p.foundingLimit) :
    p.acquiringWork = p.mapTau fun t => { t with foundingCount := t.foundingCount + 1 } := by
  rw [Part.acquiringWork, if_neg (by simp [valid]), if_pos (p.settledPeers_isEmpty_iff.mpr alone),
    if_neg (Nat.not_le.mpr short)]

theorem Part.acquiringWork_joins (valid : p.liu.echoValid = true) (peers : p.settledPeers ≠ [])
    (small : p.acquiringError.natAbs < 384) : p.acquiringWork = p.mapTau Tau.enterTracking := by
  rw [Part.acquiringWork, if_neg (by simp [valid]), if_neg (by simp [Part.settledPeers_isEmpty peers])]
  exact if_neg (Nat.not_le.mpr small)

theorem Part.acquiringWork_steps (valid : p.liu.echoValid = true) (peers : p.settledPeers ≠ [])
    (large : 384 ≤ p.acquiringError.natAbs) :
    p.acquiringWork = (p.mapTau Tau.enterTracking).takeStep p.acquiringError := by
  rw [Part.acquiringWork, if_neg (by simp [valid]), if_neg (by simp [Part.settledPeers_isEmpty peers])]
  exact if_pos large

theorem Part.trackingWork_deaf (deaf : p.liu.echoValid ≠ true) : p.trackingWork = p.mapTau Tau.enterHoldover :=
  if_pos (by simp [deaf])

theorem Part.trackingWork_counts (valid : p.liu.echoValid = true) (alone : p.settledPeers = [])
    (short : p.tau.emptyRun < 9) (least : -10000 ≤ p.tau.integral) (most : p.tau.integral ≤ 10000) :
    p.trackingWork = p.mapTau fun t => { t with emptyRun := t.emptyRun + 1, largeRun := 0, trim := t.integral } := by
  have error : (p.mapTau fun t => { t with emptyRun := t.emptyRun + 1 }).trackingError = 0 :=
    Part.trackingError_alone (p := p.mapTau fun t => { t with emptyRun := t.emptyRun + 1 }) alone
  rw [Part.trackingWork, if_neg (by simp [valid]), if_pos (p.settledPeers_isEmpty_iff.mpr alone),
    if_neg (by omega), Part.consensusWork, error]
  refine (if_neg (by decide)).trans ?_
  exact congrArg p.withTau (Tau.trimUpdate_zero (t := { p.tau with emptyRun := p.tau.emptyRun + 1, largeRun := 0 }) least most)

theorem Part.holdoverWork_returns (valid : p.liu.echoValid = true) (peers : p.settledPeers ≠ []) :
    p.holdoverWork = p.mapTau fun t =>
      ({ t with mode := .tracking, largeRun := 0 } : Tau).trimUpdate p.trackingError :=
  if_pos (by simp [valid, Part.settledPeers_isEmpty peers])

theorem Part.holdoverWork_waits (h : p.liu.echoValid ≠ true ∨ p.settledPeers = []) : p.holdoverWork = p := by
  refine if_neg fun both => ?_
  obtain ⟨valid, some_⟩ := Bool.and_eq_true_iff.mp both
  rcases h with deaf | alone
  · exact deaf valid
  · rw [p.settledPeers_isEmpty_iff.mpr alone] at some_
    exact Bool.noConfusion some_

end

theorem Part.modeWork_free {p : Part} (h : p.tau.mode = .free) : p.modeWork = p.freeWork := by
  rw [Part.modeWork, h]

theorem Part.modeWork_acquiring {p : Part} (h : p.tau.mode = .acquiring) : p.modeWork = p.acquiringWork := by
  rw [Part.modeWork, h]

theorem Part.modeWork_tracking {p : Part} (h : p.tau.mode = .tracking) : p.modeWork = p.trackingWork := by
  rw [Part.modeWork, h]

theorem Part.modeWork_holdover {p : Part} (h : p.tau.mode = .holdover) : p.modeWork = p.holdoverWork := by
  rw [Part.modeWork, h]

/-- The step mark of an instant whose work steps. -/
theorem Part.agreementWork_stepped {p : Part} {o : InstantOrder} (due : p.moment.trimDue = true) (takes : o ≠ .targetOnly)
    (steps : ∀ q, p.SameInstant q → q.tauWork.moment.stepped = true) : (p.agreementWork o).moment.stepped = true := by
  have same : p.SameInstant p := ⟨rfl, rfl, rfl, rfl, rfl, rfl, rfl⟩
  cases o with
  | timeFirst =>
    rw [Part.agreementWork_timeFirst due, (Part.PlaysOn.completeStep _).moment, Part.targetTurn_moment]
    exact steps p same
  | playoutFirst =>
    rw [Part.agreementWork_playoutFirst due, (Part.PlaysOn.completeStep _).moment]
    exact steps _ p.targetTurn_sameInstant
  | targetOnly => exact absurd rfl takes

/-- A founding, an empty run's end or a step taken by its own command leaves the rest of the instant as it was. -/
theorem Part.agreementWork_worked {p : Part} {o : InstantOrder} (due : p.moment.trimDue = true) (takes : o ≠ .targetOnly)
    (h : o = .timeFirst ∨ (p.moment.pluDue = false ∨ p.plu.position = none) ∨
      (p.moment.tauDue = true → p.cap.station ≠ .loading → p.NoStep)) :
    p.tauWork.agreementWork o = p.agreementWork o := by
  have due' := Part.tauWork_trimDue due
  have taken : p.tauWork.moment.tauDue = false := by
    by_cases work : p.moment.tauDue = true
    · exact Part.tauWork_tauDue work
    · rw [Part.tauWork_taken p (Bool.eq_false_iff.mpr work)]
      exact Bool.eq_false_iff.mpr work
  have done : p.tauWork.tauWork = p.tauWork := Part.tauWork_taken _ taken
  rcases h with rfl | idle | plain
  · rw [Part.agreementWork_timeFirst due, Part.agreementWork_timeFirst due', done]
  · rw [Part.agreementWork_idle due takes idle, Part.agreementWork_idle due' takes
      (idle.imp p.tauWork_pluDue.trans (Part.KeepsTarget.tauWork p).stopped.mpr), done]
  · rw [Part.agreementWork_plain due takes plain, Part.agreementWork_plain due' takes (fun h => absurd h (by simp [taken])),
      done]
    refine congrArg Part.completeStep ?_
    have timed : p.tauWork = p.timed p.tauWork.tau false p.moment.trimDue := Part.tauWork_plain plain
    have sc := p.tauWork_sc
    generalize p.tauWork.tau = u at timed sc
    rw [timed, Part.targetTurn_timed sc]
    rfl

end Sys2Proof.Machine

/-! # O49: the agreement instant in each clock mode. -/

namespace Sys2Proof.Machine

/-- A command that takes the mode work alone, if it is due. -/
theorem Part.worked_next {s u : State} {due : Bool} (ran : .next (s.withPart (if due = true then s.part.tauWork else s.part)) =
    (.next u : Host.Outcome State Fault Refusal)) : u = s.withPart (if due = true then s.part.tauWork else s.part) :=
  (Host.Outcome.next.inj ran).symm

/-- The work of an instant by itself, then the instant (log 6). -/
theorem agreementInstant_worked {s u : State} {o : InstantOrder} {due : Bool} (trim : s.part.moment.trimDue = true)
    (takes : o ≠ .targetOnly)
    (h : due = true → o = .timeFirst ∨ (s.part.moment.pluDue = false ∨ s.part.plu.position = none) ∨
      (s.part.moment.tauDue = true → s.part.cap.station ≠ .loading → s.part.NoStep))
    (ran : .next (s.withPart (if due = true then s.part.tauWork else s.part)) =
      (.next u : Host.Outcome State Fault Refusal)) :
    exec (.agreementInstant o) s = exec (.agreementInstant o) u := by
  obtain rfl := Part.worked_next ran
  refine congrArg (fun q => Host.Outcome.next (s.withPart q)) ?_
  cases due with
  | false => rfl
  | true => exact (Part.agreementWork_worked trim takes (h rfl)).symm

/-- The target and its fault after the Playout Unit's turn (R115, R116). -/
theorem Part.targetTurn_target {p : Part} (due : p.moment.pluDue = true) (started : p.plu.position ≠ none) :
    (p.settledPeers ≠ [] → p.targetTurn.plu.target = p.nextTarget ∧
      (⟨.horizonLimit, .none⟩ ∈ p.targetTurn.faults.marks ↔ p.settings.hmax < p.lagTarget)) ∧
    (p.settledPeers = [] → p.targetTurn.plu.target = p.plu.target ∧
      (⟨.horizonLimit, .none⟩ ∈ p.targetTurn.faults.marks ↔ ⟨.horizonLimit, .none⟩ ∈ p.faults.marks)) := by
  refine ⟨fun peers => ?_, fun alone => ?_⟩
  · rw [Part.targetTurn_forms ⟨due, started, peers⟩]
    refine ⟨rfl, (Part.mem_marks_settleFault ..).trans ?_⟩
    simp
  · rw [Part.targetTurn_waits fun forms => forms.2.2 alone]
    exact ⟨rfl, Iff.rfl⟩

/-- The same, read after the rest of the instant from the records the turn reads. -/
theorem Part.target_read {p t read : Part} {set : Settings} (due : p.moment.pluDue = true)
    (started : p.plu.position ≠ none) (peer : read.peer = p.peer) (settings : p.settings = set)
    (keeps : p.targetTurn.KeepsTarget t) :
    let peers := (List.finRange 16).filter fun x : Station => (read.peer x).settled
    let raw := (peers.map fun x => max (read.peer x).lagCurrent (read.peer x).lagPrevious).foldl max 0 + set.guardTime
    (peers ≠ [] → t.plu.target = max set.hmin (min set.hmax raw) ∧
      (⟨.horizonLimit, .none⟩ ∈ t.faults.marks ↔ set.hmax < raw)) ∧
    (peers = [] → t.plu.target = p.plu.target ∧
      (⟨.horizonLimit, .none⟩ ∈ t.faults.marks ↔ ⟨.horizonLimit, .none⟩ ∈ p.faults.marks)) := by
  subst settings
  rw [peer, keeps.target, keeps.mark]
  exact Part.targetTurn_target due started

theorem Part.targetTurn_after (p : Part) :
    p.targetTurn.moment.pluDue = (p.moment.pluDue && p.plu.position.isNone) ∧
      p.targetTurn.plu.position = p.plu.position := by
  by_cases forms : p.Forms
  · rw [Part.targetTurn_forms forms]
    exact ⟨rfl, rfl⟩
  · rw [Part.targetTurn_waits forms]
    exact ⟨rfl, rfl⟩

theorem Part.targetTurn_pluDue {p : Part} (started : p.plu.position ≠ none) : p.targetTurn.moment.pluDue = false := by
  rw [p.targetTurn_after.1, Option.isNone_eq_false_iff.mpr (Option.isSome_iff_ne_none.mpr started), Bool.and_false]

theorem Part.targetTurn_idle_after (p : Part) :
    p.targetTurn.moment.pluDue = false ∨ p.targetTurn.plu.position = none := by
  rw [p.targetTurn_after.2]
  exact or_iff_not_imp_right.mpr Part.targetTurn_pluDue

theorem Part.tauWork_settings (p : Part) : p.tauWork.settings = p.settings := by
  by_cases due : p.moment.tauDue = true
  · exact (Part.tauWork_worksTime due).settings
  · rw [Part.tauWork_taken p (Bool.eq_false_iff.mpr due)]

theorem Part.tauWork_loading {p : Part} (due : p.moment.tauDue = true) (loading : p.cap.station = .loading) :
    p.tauWork = p.tauTurn := by
  have waits : p.running = false := by rw [Part.running, loading]; rfl
  rw [Part.tauWork, if_pos due, waits]
  rfl

/-- Settles O49: each mode by its own work, the target by the Playout Unit's turn, and the orders by their commuting. -/
theorem clockModesMoveOnTheirEcho : Obligations.ClockModesMoveOnTheirEcho := by
  refine ⟨fun s o takes due work outside => ?_, fun s due => ?_, fun s o due turn started => ?_,
    fun s o due takes idle => ?_, fun s due u ran => ?_, fun s o due takes plain => ?_, fun s u o c due takes named ran => ?_⟩
  · intro valid sent tau joined limit
    have echo : valid ↔ s.part.liu.echoValid = true := s.part.liu.echoValid_iff.symm
    have result {u : Tau} (h : s.part.tauTurn.modeWork.tau = u) : (s.part.agreementWork o).tau = sent u := by
      rw [Part.agreementWork_tau due takes, Part.tauWork_running work outside, h]
      rfl
    refine ⟨_, rfl, fun mode hears => result ?_, fun mode deaf => result ?_, fun mode deaf => result ?_,
      fun mode hears alone short => result ?_, fun mode deaf => result ?_, fun mode waits => result ?_,
      fun mode hears peers => ?_, fun mode hears alone short least most => result ?_, fun mode hears peers => result ?_⟩
    · rw [Part.modeWork_free (p := s.part.tauTurn) mode, Part.freeWork_hears (p := s.part.tauTurn) (echo.mp hears)]
      rfl
    · rw [Part.modeWork_free (p := s.part.tauTurn) mode, Part.freeWork_waits (p := s.part.tauTurn) (mt echo.mpr deaf)]
      rfl
    · rw [Part.modeWork_acquiring (p := s.part.tauTurn) mode,
        Part.acquiringWork_deaf (p := s.part.tauTurn) (mt echo.mpr deaf)]
      rfl
    · rw [Part.modeWork_acquiring (p := s.part.tauTurn) mode,
        Part.acquiringWork_counts (p := s.part.tauTurn) (echo.mp hears) alone short]
      rfl
    · rw [Part.modeWork_tracking (p := s.part.tauTurn) mode,
        Part.trackingWork_deaf (p := s.part.tauTurn) (mt echo.mpr deaf)]
      rfl
    · rw [Part.modeWork_holdover (p := s.part.tauTurn) mode,
        Part.holdoverWork_waits (p := s.part.tauTurn) (waits.imp_left (mt echo.mpr))]
      rfl
    · intro m blocks
      refine ⟨fun small => ⟨result ?_, ?_⟩, fun large => ⟨?_, result ?_⟩⟩
      · rw [Part.modeWork_acquiring (p := s.part.tauTurn) mode,
          Part.acquiringWork_joins (p := s.part.tauTurn) (echo.mp hears) peers small]
        rfl
      · have plain : s.part.NoStep := fun _ _ =>
          ⟨fun _ => small, fun tracking => ClockMode.noConfusion (mode.symm.trans tracking)⟩
        rw [Part.agreementWork_plain due takes fun _ _ => plain, (Part.PlaysOn.completeStep _).moment]
        exact (congrArg Moment.stepped s.part.targetTurn_moment :)
      · refine Part.agreementWork_stepped due takes fun q same => ?_
        have settled : q.tauTurn.settledPeers ≠ [] := same.settledPeers.trans_ne peers
        have valid : q.tauTurn.liu.echoValid = true := same.echoValid.trans (echo.mp hears)
        have error : 384 ≤ q.tauTurn.acquiringError.natAbs := large.trans_eq (congrArg Int.natAbs same.acquiringError.symm)
        rw [Part.tauWork_running (same.tauDue.trans work) (by rw [same.cap]; exact outside),
          Part.modeWork_acquiring (p := q.tauTurn) ((congrArg Tau.mode same.tau).trans mode),
          Part.acquiringWork_steps valid settled error, Part.takeStep_moment]
      · rw [Part.modeWork_acquiring (p := s.part.tauTurn) mode,
          Part.acquiringWork_steps (p := s.part.tauTurn) (echo.mp hears) peers large, Part.takeStep_tau]
        exact congrArg (fun k => ({ joined with correction := k, resyncTimer := 200, trim := tau.integral } : Tau))
          (correctionAfter_eq tau.correction m)
    · rw [Part.modeWork_tracking (p := s.part.tauTurn) mode,
        Part.trackingWork_counts (p := s.part.tauTurn) (echo.mp hears) alone short least most]
      rfl
    · rw [Part.modeWork_holdover (p := s.part.tauTurn) mode,
        Part.holdoverWork_returns (p := s.part.tauTurn) (echo.mp hears) peers]
      rfl
  · intro peers raw formed
    have turn : s.part.agreementWork .targetOnly = s.part.targetTurn := Part.agreementWork_targetOnly due
    refine ⟨_, next_withPart s turn, s.part.targetTurn_tau, ?_⟩
    by_cases forms : s.part.moment.pluDue = true ∧ s.part.plu.position ≠ none ∧ peers ≠ []
    · have target : formed = max s.part.settings.hmin (min s.part.settings.hmax raw) := if_pos forms
      rw [Part.targetTurn_forms forms, target, if_pos forms]
      refine ⟨rfl, rfl, ?_⟩
      rw [← Part.settleFault_decide]
      exact ⟨rfl, rfl⟩
    · have target : formed = s.part.plu.target := if_neg forms
      rw [Part.targetTurn_waits forms, target, if_neg forms]
      exact ⟨rfl, rfl, rfl, rfl⟩
  · cases o with
    | timeFirst =>
      have acts : s.part.agreementWork .timeFirst = s.part.tauWork.trimTurn.targetTurn.completeStep :=
        Part.agreementWork_timeFirst due
      have turn : s.part.tauWork.trimTurn.moment.pluDue = true := s.part.tauWork_pluDue.trans turn
      have worked := Part.KeepsTarget.tauWork s.part
      have started : s.part.tauWork.trimTurn.plu.position ≠ none := mt worked.stopped.mp started
      have settings : s.part.tauWork.trimTurn.settings = s.part.settings := s.part.tauWork_settings
      have mark : ⟨.horizonLimit, .none⟩ ∈ s.part.tauWork.trimTurn.faults.marks ↔
        ⟨.horizonLimit, .none⟩ ∈ s.part.faults.marks := worked.mark
      have target : s.part.tauWork.trimTurn.plu.target = s.part.plu.target := worked.target
      refine ⟨_, next_withPart s acts, ?_⟩
      rw [if_pos rfl]
      generalize s.part.tauWork.trimTurn = r at *
      have ptb : r.targetTurn.completeStep.ptb = r.ptb :=
        (Part.PlaysOn.completeStep _).ptb.trans r.targetTurn_playsOn.ptb
      have peer : r.targetTurn.completeStep.peer = r.peer := by
        funext x
        rw [Part.peer, ptb, Part.peer]
      obtain ⟨forms, waits⟩ := Part.target_read turn started peer settings (.completeStep r.targetTurn)
      rw [target, mark] at waits
      refine ⟨?_, forms, waits⟩
      rw [(Part.PlaysOn.completeStep _).moment]
      exact Part.targetTurn_pluDue started
    | playoutFirst =>
      have acts : s.part.agreementWork .playoutFirst = s.part.targetTurn.tauWork.trimTurn.completeStep :=
        Part.agreementWork_playoutFirst due
      have keeps : s.part.targetTurn.KeepsTarget s.part.targetTurn.tauWork.trimTurn.completeStep :=
        ((Part.KeepsTarget.tauWork _).trans (.trimTurn _)).trans (.completeStep _)
      refine ⟨_, next_withPart s acts, ?_⟩
      rw [if_neg InstantOrder.noConfusion]
      refine ⟨?_, Part.target_read turn started rfl rfl keeps⟩
      rw [(Part.PlaysOn.completeStep _).moment]
      exact (Part.tauWork_pluDue _).trans (Part.targetTurn_pluDue started)
    | targetOnly =>
      refine ⟨_, next_withPart s (Part.agreementWork_targetOnly due), ?_⟩
      rw [if_neg InstantOrder.noConfusion]
      exact ⟨Part.targetTurn_pluDue started, Part.target_read turn started rfl rfl (.refl _)⟩
  · intro sent completed begun
    have acts : s.part.agreementWork o = s.part.tauWork.trimTurn.completeStep := Part.agreementWork_idle due takes idle
    refine ⟨fun taken => next_withPart s (acts.trans ?_), fun work loading => next_withPart s (acts.trans ?_),
      fun work outside mode hears peers large => next_withPart s (acts.trans ?_)⟩
    · rw [Part.tauWork_taken _ taken]
      rfl
    · rw [Part.tauWork_loading work loading]
      rfl
    · rw [Part.tauWork_running work outside, Part.modeWork_acquiring (p := s.part.tauTurn) mode,
        Part.acquiringWork_steps (p := s.part.tauTurn) (s.part.liu.echoValid_iff.mpr hears) peers large]
      rfl
  · have turn : s.part.agreementWork .targetOnly = s.part.targetTurn := Part.agreementWork_targetOnly due
    obtain rfl : s.withPart (s.part.agreementWork .targetOnly) = u := Host.Outcome.next.inj ran
    refine congrArg (fun q => Host.Outcome.next (s.withPart q)) ?_
    have due' : s.part.targetTurn.moment.trimDue = true := s.part.targetTurn_sameInstant.trimDue.trans due
    change s.part.agreementWork .playoutFirst = (s.part.agreementWork .targetOnly).agreementWork .timeFirst
    rw [turn, Part.agreementWork_playoutFirst due,
      Part.agreementWork_idle due' InstantOrder.noConfusion s.part.targetTurn_idle_after]
  · intro peers raw forms told completed
    refine ⟨_, next_withPart s (Part.agreementWork_plain due takes plain), ?_, ?_⟩
    · rw [Part.completeStep_tau]
      change Part.completeStep _ = Part.completeStep _
      refine congrArg Part.completeStep ?_
      by_cases h : forms
      · have told_eq : told = s.part.settleFault ⟨.horizonLimit, .none⟩ (decide (s.part.settings.hmax < raw)) :=
          (if_pos h).trans (Part.settleFault_decide ..).symm
        rw [Part.targetTurn_forms h, told_eq, if_pos h]
        rfl
      · have told_eq : told = s.part := if_neg h
        rw [Part.targetTurn_waits h, told_eq, if_neg h]
        rfl
    · intro still
      rw [Part.completeStep_tau]
      refine congrArg Tau.sendTrim ?_
      by_cases work : s.part.moment.tauDue = true
      · rw [Part.tauWork_loading work (still.resolve_left (by simp [work]))]
        rfl
      · rw [Part.tauWork_taken _ (Bool.eq_false_iff.mpr work)]
  · rcases named with rfl | rfl | ⟨rfl, apart⟩
    · refine agreementInstant_worked due takes (fun falls => .inr (.inr fun _ _ _ peers => absurd ?_ peers)) ran
      simp only [Part.foundingDue, Bool.and_eq_true, Part.settledPeers_isEmpty_iff] at falls
      exact falls.1.2
    · refine agreementInstant_worked due takes (fun falls => .inr (.inr fun _ _ _ peers => absurd ?_ peers)) ran
      simp only [Part.emptyRunDue, Bool.and_eq_true, Part.settledPeers_isEmpty_iff] at falls
      exact falls.1.2
    · exact agreementInstant_worked due takes (fun _ => apart.imp_right .inl) ran

end Sys2Proof.Machine

/-! # The mode work of an instant: the registers alone, or a step (R50, R56). -/

namespace Sys2Proof.Machine

/-! ## A step or none -/

/-- Work that sets the Time Agreement Unit's registers, SC apart, and may then take a step. -/
def Part.SetsTime (p q : Part) : Prop :=
  ∃ u : Tau, u.sc = p.tau.sc ∧ (q = p.withTau u ∨ ∃ m, q = (p.withTau u).takeStep m)

theorem Part.SetsTime.refl (p : Part) : p.SetsTime p := ⟨p.tau, rfl, .inl rfl⟩

theorem Part.SetsTime.mapTau {f : Tau → Tau} {p : Part} (h : (f p.tau).sc = p.tau.sc) : p.SetsTime (p.mapTau f) :=
  ⟨f p.tau, h, .inl rfl⟩

theorem Part.SetsTime.steps {f : Tau → Tau} {p : Part} (h : (f p.tau).sc = p.tau.sc) (m : Int) :
    p.SetsTime ((p.mapTau f).takeStep m) := ⟨f p.tau, h, .inr ⟨m, rfl⟩⟩

/-- The work set over registers already set. -/
theorem Part.SetsTime.after {f : Tau → Tau} {p q : Part} (h : (f p.tau).sc = p.tau.sc) (work : (p.mapTau f).SetsTime q) :
    p.SetsTime q := by
  obtain ⟨u, sc, rest⟩ := work
  exact ⟨u, sc.trans h, rest⟩

theorem Part.consensusWork_setsTime (p : Part) : p.SetsTime p.consensusWork := by
  unfold Part.consensusWork
  dsimp only
  split
  · split
    · exact .steps rfl _
    · exact .mapTau rfl
  · exact .mapTau rfl

theorem Part.modeWork_setsTime (p : Part) : p.SetsTime p.modeWork := by
  unfold Part.modeWork
  split
  · unfold Part.freeWork
    split
    · exact .mapTau rfl
    · exact .refl p
  · unfold Part.acquiringWork
    split
    · exact .mapTau rfl
    · split
      · split
        · exact .mapTau rfl
        · exact .mapTau rfl
      · dsimp only
        split
        · exact .steps rfl _
        · exact .mapTau rfl
  · unfold Part.trackingWork
    split
    · exact .mapTau rfl
    · split
      · split
        · exact .mapTau rfl
        · exact .after rfl (Part.consensusWork_setsTime (p.mapTau fun t => { t with emptyRun := t.emptyRun + 1 }))
      · exact .after rfl (Part.consensusWork_setsTime (p.mapTau fun t => { t with emptyRun := 0 }))
  · unfold Part.holdoverWork
    split
    · exact .mapTau rfl
    · exact .refl p

theorem Part.tauWork_setsTime {p : Part} (due : p.moment.tauDue = true) : p.tauTurn.SetsTime p.tauWork := by
  by_cases loading : p.cap.station = .loading
  · rw [Part.tauWork_loading due loading]
    exact .refl _
  · rw [Part.tauWork_running due loading]
    exact p.tauTurn.modeWork_setsTime

/-! ## What the work leaves -/

/-- What a step may change of the Peer Table, the store, playout, the mix and the faults; nothing of playout, the store
and the mix while playout is not started (R40, R56, R120). -/
structure Part.StepsTime (p q : Part) : Prop where
  ptb : q.ptb = { p.ptb with records := q.ptb.records }
  peer : ∀ x, q.peer x = { p.peer x with
    offset := (q.peer x).offset, lagCurrent := (q.peer x).lagCurrent, lagPrevious := (q.peer x).lagPrevious }
  ast : q.ast = { p.ast with buffers := q.ast.buffers, free := q.ast.free }
  metersOn : q.mxe.metersOn = p.mxe.metersOn
  meterCount : q.mxe.meterCount = p.mxe.meterCount
  idle : p.plu.position = none → q.plu = p.plu ∧ q.ast = p.ast ∧ q.mxe = p.mxe ∧ q.imn = p.imn
  stopped : q.plu.position = none ↔ p.plu.position = none
  owed : p.plu.owed = none → q.plu.owed = none
  marks : ∀ key : FaultKey, key.kind ≠ .laneLoss → (key ∈ q.faults.marks ↔ key ∈ p.faults.marks)
  conflict : q.faults.conflict = p.faults.conflict

theorem Part.StepsTime.of_rest {p q : Part} (ptb : q.ptb = p.ptb) (ast : q.ast = p.ast) (plu : q.plu = p.plu)
    (mxe : q.mxe = p.mxe) (imn : q.imn = p.imn) (faults : q.faults = p.faults) : p.StepsTime q := by
  have peer (x : Station) : q.peer x = p.peer x := by rw [Part.peer, ptb, Part.peer]
  exact ⟨by rw [ptb], fun x => by rw [peer], by rw [ast], by rw [mxe], by rw [mxe], fun _ => ⟨plu, ast, mxe, imn⟩,
    by rw [plu], fun h => by rw [plu]; exact h, fun _ _ => by rw [faults], by rw [faults]⟩

theorem Part.StepsTime.trans {p q r : Part} (h : p.StepsTime q) (h' : q.StepsTime r) : p.StepsTime r := by
  refine ⟨h'.ptb.trans (by rw [h.ptb]), fun x => (h'.peer x).trans (by rw [h.peer x]), h'.ast.trans (by rw [h.ast]),
    h'.metersOn.trans h.metersOn, h'.meterCount.trans h.meterCount, fun still => ?_, h'.stopped.trans h.stopped,
    fun none => h'.owed (h.owed none), fun key other => (h'.marks key other).trans (h.marks key other),
    h'.conflict.trans h.conflict⟩
  obtain ⟨plu, ast, mxe, imn⟩ := h.idle still
  obtain ⟨plu', ast', mxe', imn'⟩ := h'.idle (h.stopped.mpr still)
  exact ⟨plu'.trans plu, ast'.trans ast, mxe'.trans mxe, imn'.trans imn⟩

theorem Part.settleFault_conflict (key : FaultKey) (on : Bool) (p : Part) :
    (p.settleFault key on).faults.conflict = p.faults.conflict := by
  cases on <;> rfl

theorem Part.settleFaults_conflict {ι : Type} {key : ι → FaultKey} {active : ι → Bool} (xs : List ι) (p : Part) :
    (p.settleFaults key active xs).faults.conflict = p.faults.conflict := by
  induction xs generalizing p with
  | nil => rfl
  | cons x xs ih => exact (ih _).trans (p.settleFault_conflict _ _)

theorem Part.stepPlayout_stepsTime (p : Part) : p.StepsTime p.stepPlayout := by
  by_cases out : p.OutOfBounds
  · have moves := p.stepPlayout_movesOn
    obtain ⟨plu, anchored, -, -⟩ := Part.stepPlayout_anchored out
    generalize p.stepPlayout = t at moves plu anchored
    have peer (x : Station) : t.peer x = p.peer x := by rw [Part.peer, moves.plays.ptb, Part.peer]
    refine ⟨by rw [moves.plays.ptb], fun x => by rw [peer], moves.store, moves.metersOn, moves.meterCount,
      fun still => absurd still out.1, ?_, fun _ => by rw [plu], fun key other => ?_, ?_⟩
    · rw [plu]
      exact iff_of_false (Option.some_ne_none _) out.1
    · rw [anchored.told.faults]
      exact Part.settleFaults_marks_of_ne (fun _ _ same => other (congrArg FaultKey.kind same).symm) p
    · rw [anchored.told.faults]
      exact Part.settleFaults_conflict _ p
  · rw [Part.stepPlayout_within out]
    exact .of_rest rfl rfl rfl rfl rfl rfl

theorem Part.takeStep_stepsTime (m : Int) (p : Part) : p.StepsTime (p.takeStep m) := by
  have shape := p.corrected_shape m
  have peer := p.corrected_peer m
  rw [Part.takeStep_eq]
  generalize p.corrected m = q at shape peer
  have corrected : p.StepsTime q := by
    have plu : q.plu = p.plu := by rw [shape]
    have ast : q.ast = p.ast := by rw [shape]
    have mxe : q.mxe = p.mxe := by rw [shape]
    have imn : q.imn = p.imn := by rw [shape]
    have faults : q.faults = p.faults := by rw [shape]
    refine ⟨by rw [shape], fun x => ?_, by rw [ast], by rw [mxe], by rw [mxe], fun _ => ⟨plu, ast, mxe, imn⟩,
      by rw [plu], fun h => by rw [plu]; exact h, fun _ _ => by rw [faults], by rw [faults]⟩
    rw [peer]
    split
    · rfl
    · rfl
  exact corrected.trans q.stepPlayout_stepsTime

theorem Part.SetsTime.stepsTime {p q : Part} (h : p.SetsTime q) : p.StepsTime q := by
  obtain ⟨u, -, rfl | ⟨m, rfl⟩⟩ := h
  · exact .of_rest rfl rfl rfl rfl rfl rfl
  · exact .trans (q := p.withTau u) (.of_rest rfl rfl rfl rfl rfl rfl) ((p.withTau u).takeStep_stepsTime m)

theorem Part.tauWork_stepsTime (p : Part) : p.StepsTime p.tauWork := by
  by_cases due : p.moment.tauDue = true
  · exact .trans (q := p.tauTurn) (.of_rest rfl rfl rfl rfl rfl rfl) (Part.tauWork_setsTime due).stepsTime
  · rw [Part.tauWork_taken p (Bool.eq_false_iff.mpr due)]
    exact .of_rest rfl rfl rfl rfl rfl rfl

end Sys2Proof.Machine

/-! # O42: a count that stands above its limit (R7, R46). -/

namespace Sys2Proof.Machine

/-- A parcel waiting in the queue. -/
def waitingTalk : Parcel :=
  { kind := .talk, firstBlock := 0, laneCount := 1, destination := 1, endFlag := false, digest := none
    laneFlags := [], blocks := [] }

/-- A block tick in LISTENING with eight parcels queued, the quiet count 5 already taken, a NOTICE due, and TX_DROPPED at
2^32, above the 4,294,967,295 at which R7 stops it: no step reaches such a state. -/
def overcounted : State :=
  let p := Part.powerOn 1 0 .venue
  { pending := []
    part := { p with
      cap := { p.cap with station := .listening }
      liu := { p.liu with
        queue := List.replicate 8 waitingTalk, noticeCount := 99, txQuiet := 5, txDropped := 4294967296 }
      moment := { p.moment with tick := true, done := [.txQuiet] } } }

theorem overcounted_after : overcounted.part.tickWork.liu.txQuiet = 0 ∧
    overcounted.part.tickWork.liu.txDropped = 4294967295 := by decide +kernel

theorem blockTick_ran {s : State} {t : Part} (ran : exec .blockTick s = .next (s.withPart t)) : s.part.tickWork = t :=
  congrArg State.part (Host.Outcome.next.inj ran)

theorem overcounted_due : overcounted.part.moment.tick = true ∧ overcounted.part.cap.station = .listening ∧
    overcounted.part.moment.done = [.txQuiet] ∧ overcounted.part.liu.txQuiet = 5 ∧
    overcounted.part.liu.txDropped = 4294967296 := ⟨rfl, rfl, rfl, rfl, rfl⟩

/-- Refutes O42: at `overcounted` the NOTICE evicts a parcel, which sets the quiet count from 5 to 0 though its job is
already taken, and brings TX_DROPPED down to its limit, so that none of the three cases that the statement allows
holds. It fails only where TX_DROPPED stands above its limit. -/
theorem not_blockTickCountsOnce : ¬Obligations.BlockTickCountsOnce := by
  obtain ⟨reset, limit⟩ := overcounted_after
  obtain ⟨tick, listening, done, held, count⟩ := overcounted_due
  generalize overcounted = s at *
  intro h
  obtain ⟨t, ran, -, -, -, -, -, -, -, kept, -⟩ := h.1 s tick (by rw [listening]; exact StationState.noConfusion)
  obtain rfl := blockTick_ran ran
  obtain ⟨-, -, -, quiet, -⟩ := kept
  rcases quiet (by rw [done]; exact List.mem_singleton.mpr rfl) with same | more | full
  · omega
  · omega
  · omega

end Sys2Proof.Machine

/-! # The closing of a block: what it changes (R70 to R76, R78, R84). -/

namespace Sys2Proof.Machine

/-! ## The frame of a closing -/

/-- What the closing of a block changes: the Capture Unit but for its request and its inputs, the transmit queue with its
drop and quiet counts, the capture faults and TX_OVERRUN, the reports, and the quiet count's job. -/
structure Part.ClosesOn (p q : Part) : Prop where
  sul : q.sul = p.sul
  settings : q.settings = p.settings
  liu : q.liu = { p.liu with queue := q.liu.queue, txDropped := q.liu.txDropped, txQuiet := q.liu.txQuiet }
  ptb : q.ptb = p.ptb
  tau : q.tau = p.tau
  cap : q.cap = { q.cap with contribute := p.cap.contribute, input := p.cap.input }
  ast : q.ast = p.ast
  plu : q.plu = p.plu
  mxe : q.mxe = p.mxe
  imn : q.imn = p.imn
  pnl : q.pnl = p.pnl.withReports q.pnl
  moment : q.moment = { p.moment with done := q.moment.done }
  conflict : q.faults.conflict = p.faults.conflict
  marks : ∀ m : FaultKey, m.kind ≠ .captureSilent → m.kind ≠ .captureStuck → m.kind ≠ .txOverrun →
    (m ∈ q.faults.marks ↔ m ∈ p.faults.marks)
  done : ∀ j ∈ q.moment.done, j ∈ p.moment.done ∨ j = .txQuiet
  quiet : q.liu.txQuiet = p.liu.txQuiet ∧ q.liu.txDropped = p.liu.txDropped ∨
    min (p.liu.txDropped + 1) 4294967295 ≤ q.liu.txDropped

namespace Part.ClosesOn

theorem refl (p : Part) : p.ClosesOn p :=
  ⟨rfl, rfl, rfl, rfl, rfl, rfl, rfl, rfl, rfl, rfl, rfl, rfl, rfl, fun _ _ _ _ => Iff.rfl, fun _ => .inl, .inl ⟨rfl, rfl⟩⟩

theorem trans {p q r : Part} (h : p.ClosesOn q) (h' : q.ClosesOn r) : p.ClosesOn r where
  sul := h'.sul.trans h.sul
  settings := h'.settings.trans h.settings
  liu := h'.liu.trans (by rw [h.liu])
  ptb := h'.ptb.trans h.ptb
  tau := h'.tau.trans h.tau
  cap := h'.cap.trans (by rw [h.cap])
  ast := h'.ast.trans h.ast
  plu := h'.plu.trans h.plu
  mxe := h'.mxe.trans h.mxe
  imn := h'.imn.trans h.imn
  pnl := h'.pnl.trans (by rw [h.pnl]; rfl)
  moment := h'.moment.trans (by rw [h.moment])
  conflict := h'.conflict.trans h.conflict
  marks m silent stuck overrun := (h'.marks m silent stuck overrun).trans (h.marks m silent stuck overrun)
  done j mem := (h'.done j mem).elim (h.done j) .inr
  quiet := by
    rcases h.quiet with ⟨quiet, dropped⟩ | more
    · rcases h'.quiet with ⟨quiet', dropped'⟩ | more'
      · exact .inl ⟨quiet'.trans quiet, dropped'.trans dropped⟩
      · exact .inr (by omega)
    · rcases h'.quiet with ⟨-, dropped'⟩ | more'
      · exact .inr (by omega)
      · exact .inr (by omega)

theorem withCap {p : Part} {c : Cap} (contribute : c.contribute = p.cap.contribute) (input : c.input = p.cap.input) :
    p.ClosesOn { p with cap := c } := by
  refine ⟨rfl, rfl, rfl, rfl, rfl, ?_, rfl, rfl, rfl, rfl, rfl, rfl, rfl, fun _ _ _ _ => Iff.rfl, fun _ => .inl, .inl ⟨rfl, rfl⟩⟩
  rw [← contribute, ← input]

theorem reports {p q : Part} (h : p.OnlyReports q) (conflict : q.faults.conflict = p.faults.conflict)
    (marks : ∀ m : FaultKey, m.kind ≠ .captureSilent → m.kind ≠ .captureStuck → m.kind ≠ .txOverrun →
      (m ∈ q.faults.marks ↔ m ∈ p.faults.marks)) : p.ClosesOn q :=
  ⟨h.sul, h.settings, by rw [h.liu], h.ptb, h.tau, by rw [h.cap], h.ast, h.plu, h.mxe, h.imn, h.pnl, by rw [h.moment],
    conflict, marks, fun _ mem => .inl (by rw [← h.moment]; exact mem), .inl ⟨by rw [h.liu], by rw [h.liu]⟩⟩

theorem enqueue (x : Parcel) (p : Part) : p.ClosesOn (p.enqueue x) := by
  rcases Nat.lt_or_ge p.liu.queue.length 8 with room | full
  · rw [Part.enqueue_room x p room]
    exact ⟨rfl, rfl, rfl, rfl, rfl, rfl, rfl, rfl, rfl, rfl, rfl, rfl, rfl, fun _ _ _ _ => Iff.rfl, fun _ => .inl,
      .inl ⟨rfl, rfl⟩⟩
  · rw [Part.enqueue_full x p full]
    let dropped : Part := { p with
      liu := { p.liu with
        queue := placeFull x p.liu.queue, txDropped := satAdd max32 p.liu.txDropped 1, txQuiet := 0 }
      moment := p.moment.took .txQuiet }
    have drops : p.ClosesOn dropped :=
      ⟨rfl, rfl, rfl, rfl, rfl, rfl, rfl, rfl, rfl, rfl, rfl, rfl, rfl, fun _ _ _ _ => Iff.rfl,
        fun j mem => (List.mem_cons.mp mem).symm, .inr (Nat.le_refl _)⟩
    refine drops.trans (reports (.raiseFault (FaultKey.plain .txOverrun) dropped) rfl fun m _ _ overrun => ?_)
    refine (Part.mem_marks_settleFault dropped (FaultKey.plain .txOverrun) true m).trans ?_
    have other : m ≠ FaultKey.plain .txOverrun := fun same => overrun (congrArg FaultKey.kind same)
    simp [other]

theorem enqueues (xs : List Parcel) (p : Part) : p.ClosesOn (xs.foldl (fun (q : Part) x => q.enqueue x) p) := by
  induction xs generalizing p with
  | nil => exact refl p
  | cons x xs ih => exact (enqueue x p).trans (ih _)

end Part.ClosesOn

/-! ## The detectors and their faults (R72, R73, R81) -/

/-- The capture faults of the own lanes, each with the flag it follows, in the order in which they are taken (R81). -/
def detectorTells (own : Station) (v : Vector Detector 8) : List (FaultKey × Bool) :=
  allProgLanes.flatMap fun k => [(captureSilentKey own k, v[k].silent), (captureStuckKey own k, v[k].stuck)]

/-- The part with the detectors as they stand after block b. -/
def Part.detected (p : Part) (b : CaptureBlock) : Part := { p with cap := { p.cap with detectors := p.detectorsAfter b } }

theorem Part.detectorFaults_eq (p : Part) (k : ProgLane) : p.detectorFaults k =
    (p.settleFault (captureSilentKey p.sul.own k) p.cap.detectors[k].silent).settleFault (captureStuckKey p.sul.own k)
      p.cap.detectors[k].stuck := rfl

theorem Part.runDetectors_eq (p : Part) (b : CaptureBlock) : p.runDetectors b =
    (p.detected b).settleFaults Prod.fst Prod.snd (detectorTells p.sul.own (p.detectorsAfter b)) := by
  have each (ks : List ProgLane) (q : Part) (sul : q.sul = p.sul) (detectors : q.cap.detectors = p.detectorsAfter b) :
      ks.foldl Part.detectorFaults q = q.settleFaults Prod.fst Prod.snd (ks.flatMap fun k =>
        [(captureSilentKey p.sul.own k, (p.detectorsAfter b)[k].silent),
          (captureStuckKey p.sul.own k, (p.detectorsAfter b)[k].stuck)]) := by
    induction ks generalizing q with
    | nil => rfl
    | cons k ks ih =>
      have one := q.detectorFaults_eq k
      have reports := (q.settleFault_reports (captureSilentKey q.sul.own k) q.cap.detectors[k].silent).trans
        (Part.settleFault_reports (captureStuckKey q.sul.own k) q.cap.detectors[k].stuck _)
      rw [← one] at reports
      rw [List.foldl_cons, ih _ (by rw [reports.sul, sul]) (by rw [reports.cap, detectors]), one, sul, detectors]
      rfl
  exact each allProgLanes (p.detected b) rfl rfl

theorem detectorTells_keys_nodup (own : Station) (v : Vector Detector 8) : ((detectorTells own v).map Prod.fst).Nodup := by
  have keys : (detectorTells own v).map Prod.fst =
      allProgLanes.flatMap fun k => [captureSilentKey own k, captureStuckKey own k] := by
    rw [detectorTells, List.map_flatMap]
    rfl
  rw [keys]
  clear keys
  revert own
  decide

theorem Part.runDetectors_reports (p : Part) (b : CaptureBlock) : (p.detected b).OnlyReports (p.runDetectors b) := by
  rw [p.runDetectors_eq b]
  exact Part.settleFaults_reports _ _

theorem mem_detectorTells {own : Station} {v : Vector Detector 8} (x : FaultKey × Bool) : x ∈ detectorTells own v ↔
    ∃ k : ProgLane, x = (captureSilentKey own k, v[k].silent) ∨ x = (captureStuckKey own k, v[k].stuck) := by
  simp [detectorTells, allProgLanes]

theorem Part.runDetectors_closesOn (p : Part) (b : CaptureBlock) : p.ClosesOn (p.runDetectors b) := by
  refine .trans (q := p.detected b) (.withCap rfl rfl) (.reports (p.runDetectors_reports b) ?_ fun m silent stuck _ => ?_)
  · rw [p.runDetectors_eq b]
    exact Part.settleFaults_conflict _ _
  · rw [p.runDetectors_eq b]
    refine Part.settleFaults_marks_of_ne (fun x mem same => ?_) _
    obtain ⟨k, rfl | rfl⟩ := (mem_detectorTells x).mp mem
    · exact silent (congrArg FaultKey.kind same).symm
    · exact stuck (congrArg FaultKey.kind same).symm

theorem Part.runDetectors_silent (p : Part) (b : CaptureBlock) (k : ProgLane) :
    captureSilentKey p.sul.own k ∈ (p.runDetectors b).faults.marks ↔ (p.detectorsAfter b)[k].silent = true := by
  rw [p.runDetectors_eq b]
  exact Part.settleFaults_marks (active := Prod.snd) (detectorTells_keys_nodup _ _)
    ((mem_detectorTells (captureSilentKey p.sul.own k, (p.detectorsAfter b)[k].silent)).mpr ⟨k, .inl rfl⟩) _

theorem Part.runDetectors_stuck (p : Part) (b : CaptureBlock) (k : ProgLane) :
    captureStuckKey p.sul.own k ∈ (p.runDetectors b).faults.marks ↔ (p.detectorsAfter b)[k].stuck = true := by
  rw [p.runDetectors_eq b]
  exact Part.settleFaults_marks (active := Prod.snd) (detectorTells_keys_nodup _ _)
    ((mem_detectorTells (captureStuckKey p.sul.own k, (p.detectorsAfter b)[k].stuck)).mpr ⟨k, .inr rfl⟩) _

end Sys2Proof.Machine

/-! # The closing of a block: what the parcels in assembly become (R70, R71, R74 to R76, R78, R84). -/

namespace Sys2Proof.Machine

/-! ## Parcels created together -/

/-- Parcels created one after another. -/
def Part.enqueues (xs : List Parcel) (p : Part) : Part := xs.foldl (fun (q : Part) x => q.enqueue x) p

/-- The Capture Unit set. -/
def Part.withCap (p : Part) (c : Cap) : Part := { p with cap := c }

theorem Part.withCap_withCap (p : Part) (c c' : Cap) : (p.withCap c).withCap c' = p.withCap c' := rfl

theorem Part.enqueues_cons (x : Parcel) (xs : List Parcel) (p : Part) :
    p.enqueues (x :: xs) = (p.enqueue x).enqueues xs := rfl

theorem Part.enqueue_withCap (x : Parcel) (c : Cap) (p : Part) : (p.withCap c).enqueue x = (p.enqueue x).withCap c := by
  rcases Nat.lt_or_ge p.liu.queue.length 8 with room | full
  · rw [Part.enqueue_room x p room]
    exact Part.enqueue_room x (p.withCap c) room
  · rw [Part.enqueue_full x p full]
    exact Part.enqueue_full x (p.withCap c) full

theorem Part.enqueues_withCap (xs : List Parcel) (c : Cap) (p : Part) :
    (p.withCap c).enqueues xs = (p.enqueues xs).withCap c := by
  induction xs generalizing p with
  | nil => rfl
  | cons x xs ih => exact (congrArg (Part.enqueues xs) (p.enqueue_withCap x c)).trans (ih _)

theorem Part.enqueues_append (xs ys : List Parcel) (p : Part) : p.enqueues (xs ++ ys) = (p.enqueues xs).enqueues ys :=
  List.foldl_append

theorem Part.enqueues_cap (xs : List Parcel) (p : Part) : (p.enqueues xs).cap = p.cap := by
  induction xs generalizing p with
  | nil => rfl
  | cons x xs ih =>
    have one : (p.enqueue x).cap = p.cap := by rw [Part.enqueue_frame]
    exact (ih _).trans one

/-- What joins a queue depends on the queue and the drop count alone. -/
theorem Part.enqueues_queue {p q : Part} (queue : q.liu.queue = p.liu.queue) (dropped : q.liu.txDropped = p.liu.txDropped)
    (xs : List Parcel) : (q.enqueues xs).liu.queue = (p.enqueues xs).liu.queue ∧
      (q.enqueues xs).liu.txDropped = (p.enqueues xs).liu.txDropped := by
  induction xs generalizing p q with
  | nil => exact ⟨queue, dropped⟩
  | cons x xs ih =>
    have one : (q.enqueue x).liu.queue = (p.enqueue x).liu.queue ∧
        (q.enqueue x).liu.txDropped = (p.enqueue x).liu.txDropped := by
      rcases Nat.lt_or_ge p.liu.queue.length 8 with room | full
      · rw [Part.enqueue_room x p room, Part.enqueue_room x q (by rw [queue]; exact room)]
        exact ⟨congrArg (placeParcel x) queue, dropped⟩
      · rw [Part.enqueue_full x p full, Part.enqueue_full x q (by rw [queue]; exact full)]
        exact ⟨congrArg (placeFull x) queue, congrArg (satAdd max32 · 1) dropped⟩
    exact ih one.1 one.2

/-! ## The parcels in assembly after a block -/

section
variable (p : Part) (b : CaptureBlock)

/-- The sender digest record after the block (R75, R76). -/
def Part.digestAfter : SenderDigest :=
  if p.contributes b then
    let r := p.cap.digest.take b.number (b.sum p.settings) b.afterStep
    if p.moment.stepped then { r with spoiled := true } else r
  else p.cap.digest

/-- The AUDIO parcel in assembly after the block, before it may close (R71, R76). -/
def Part.audioAfter : Option Assembly :=
  if p.contributes b then
    some ((joinAssembly b.number 0 (b.programme p.settings) p.cap.audio).withDigest ((p.digestAfter b).completed b.number))
  else p.cap.audio

/-- The TALK parcel in assembly after the block, before it may close (R84). -/
def Part.talkAfter : Option Assembly :=
  if p.cap.station.hands then
    match p.cap.session.holds with
    | some d => some (joinAssembly b.number d [b.talk] p.cap.talkParcel)
    | none => p.cap.talkParcel
  else p.cap.talkParcel

/-- The AUDIO parcel closes with the block (R71, R74, R78). -/
def Part.closesAudio : Bool := assemblyFull p.settings.span (p.audioAfter b) || p.moment.stepped || p.cap.leaves

/-- The TALK parcel closes with the block (R71, R74, R84). -/
def Part.closesTalk : Bool :=
  p.cap.station.hands && (assemblyFull p.settings.span (p.talkAfter b) || p.moment.stepped || p.cap.session.closing)

/-- The AUDIO parcel created with the block, if one closes. -/
def Part.audioClosed : List Parcel :=
  if p.closesAudio b then (p.audioAfter b).toList.map (p.detected b).audioParcel else []

/-- The TALK parcel created with the block, if one closes. -/
def Part.talkClosed : List Parcel :=
  if p.closesTalk b then (p.talkAfter b).toList.map (talkParcelOf p.cap.session.closing) else []

/-- The Capture Unit with its block taken, before parcels may close. -/
def Part.capTaken : Cap := { p.cap with
  detectors := p.detectorsAfter b, digest := p.digestAfter b, audio := p.audioAfter b, talkParcel := p.talkAfter b }

/-- The Capture Unit after the closing of the block. -/
def Part.capClosed : Cap := { p.capTaken b with
  audio := if p.closesAudio b then none else p.audioAfter b
  talkParcel := if p.closesTalk b then none else p.talkAfter b }

end

theorem Part.closeAudio_eq (p : Part) : p.closeAudio =
    (p.withCap { p.cap with audio := none }).enqueues (p.cap.audio.toList.map p.audioParcel) := by
  cases held : p.cap.audio with
  | none =>
    have same : ({ p.cap with audio := none } : Cap) = p.cap := by rw [← held]
    rw [Part.closeAudio, held, same]
    rfl
  | some a => rw [Part.closeAudio, held]; rfl

theorem Part.closeTalk_eq (endFlag : Bool) (p : Part) : p.closeTalk endFlag =
    (p.withCap { p.cap with talkParcel := none }).enqueues (p.cap.talkParcel.toList.map (talkParcelOf endFlag)) := by
  cases held : p.cap.talkParcel with
  | none =>
    have same : ({ p.cap with talkParcel := none } : Cap) = p.cap := by rw [← held]
    rw [Part.closeTalk, held, same]
    rfl
  | some a => rw [Part.closeTalk, held]; rfl

/-- The sender digest and the AUDIO parcel take a contributed block (R70 stage 3). -/
theorem Part.contributed_eq (p : Part) (b : CaptureBlock) :
    (if p.contributes b then (p.runDetectors b).contributeBlock b else p.runDetectors b) =
      (p.runDetectors b).withCap { p.cap with
        detectors := p.detectorsAfter b, digest := p.digestAfter b, audio := p.audioAfter b } := by
  have reports := p.runDetectors_reports b
  have cap : (p.runDetectors b).cap = { p.cap with detectors := p.detectorsAfter b } := reports.cap
  have settings : (p.runDetectors b).settings = p.settings := reports.settings
  have moment : (p.runDetectors b).moment = p.moment := reports.moment
  generalize p.runDetectors b = q at cap settings moment
  by_cases joins : p.contributes b = true
  · rw [if_pos joins, Part.audioAfter, if_pos joins, Part.digestAfter, if_pos joins]
    unfold Part.contributeBlock
    refine congrArg q.withCap ?_
    rw [cap, settings, moment]
  · rw [if_neg joins, Part.audioAfter, if_neg joins, Part.digestAfter, if_neg joins, ← cap]
    rfl

/-- The talk session takes the block (R70 stage 4). -/
theorem Part.talkBlock_eq (p : Part) (b : CaptureBlock) :
    p.talkBlock b = p.withCap { p.cap with talkParcel := p.talkAfter b } := by
  unfold Part.talkBlock Part.talkAfter
  by_cases hands : p.cap.station.hands = true
  · rw [if_pos hands, if_pos hands]
    rfl
  · rw [if_neg hands, if_neg hands]
    rfl

/-- The block taken by the detectors, the sender digest and both parcels in assembly. -/
theorem Part.blockTaken_eq (p : Part) (b : CaptureBlock) :
    (if p.contributes b then (p.runDetectors b).contributeBlock b else p.runDetectors b).talkBlock b =
      (p.runDetectors b).withCap (p.capTaken b) := by
  rw [p.contributed_eq b, Part.talkBlock_eq]
  generalize p.runDetectors b = q
  have talk : (q.withCap { p.cap with
      detectors := p.detectorsAfter b, digest := p.digestAfter b, audio := p.audioAfter b }).talkAfter b = p.talkAfter b := by
    unfold Part.talkAfter
    rfl
  rw [talk]
  rfl

/-- The parcels due to close are created, the AUDIO first (R70 stage 5, log 39). -/
theorem Part.closeParcels_eq {p q : Part} {b : CaptureBlock} (cap : q.cap = p.capTaken b) (settings : q.settings = p.settings)
    (moment : q.moment = p.moment) : q.closeParcels =
      (q.withCap (p.capClosed b)).enqueues (p.audioClosed b ++ p.talkClosed b) := by
  have audio : (if assemblyFull q.settings.span q.cap.audio || q.moment.stepped || q.cap.leaves then q.closeAudio else q) =
      (q.withCap { p.capTaken b with audio := if p.closesAudio b then none else p.audioAfter b }).enqueues
        (p.audioClosed b) := by
    have closes : (assemblyFull q.settings.span q.cap.audio || q.moment.stepped || q.cap.leaves) = p.closesAudio b := by
      rw [cap, settings, moment]
      rfl
    rw [closes, Part.audioClosed]
    by_cases h : p.closesAudio b = true
    · have parcel : q.audioParcel = (p.detected b).audioParcel := by
        funext a
        rw [Part.audioParcel, settings, cap]
        rfl
      rw [if_pos h, if_pos h, if_pos h, Part.closeAudio_eq, parcel, cap]
      rfl
    · have same : ({ p.capTaken b with audio := p.audioAfter b } : Cap) = q.cap := cap.symm
      rw [if_neg h, if_neg h, if_neg h, same]
      rfl
  have talk : (q.cap.station.hands &&
      (assemblyFull q.settings.span q.cap.talkParcel || q.moment.stepped || q.cap.session.closing)) = p.closesTalk b := by
    rw [cap, settings, moment]
    rfl
  unfold Part.closeParcels
  dsimp only
  rw [audio, talk, Part.enqueues_append, Part.talkClosed]
  by_cases h : p.closesTalk b = true
  · have closing : q.cap.session.closing = p.cap.session.closing := by rw [cap]; rfl
    rw [if_pos h, if_pos h, Part.closeTalk_eq, Part.enqueues_cap, ← Part.enqueues_withCap, closing]
    have closed : p.capClosed b = { p.capTaken b with
        audio := if p.closesAudio b then none else p.audioAfter b, talkParcel := none } := by
      rw [Part.capClosed, if_pos h]
    rw [closed]
    rfl
  · have closed : p.capClosed b = { p.capTaken b with audio := if p.closesAudio b then none else p.audioAfter b } := by
      rw [Part.capClosed, if_neg h]
      rfl
    rw [if_neg h, if_neg h, closed]
    rfl

/-- The closing of the block in capture: its parcels created over the Capture Unit as the block leaves it (R70). -/
theorem Part.closeBlock_eq {p : Part} {b : CaptureBlock} (block : p.cap.block = some b) : p.closeBlock =
    ((p.runDetectors b).withCap (p.capClosed b)).enqueues (p.audioClosed b ++ p.talkClosed b) := by
  have reports := p.runDetectors_reports b
  have taken := p.blockTaken_eq b
  rw [Part.closeBlock, block]
  dsimp only
  rw [taken]
  have settings : (p.runDetectors b).settings = p.settings := reports.settings
  have moment : (p.runDetectors b).moment = p.moment := reports.moment
  generalize p.runDetectors b = q at settings moment
  exact Part.closeParcels_eq (q := q.withCap (p.capTaken b)) rfl settings moment

/-! ## The closing, Station Control and the new block -/

/-- The Capture Unit after a block tick that closes block b (R69, R70, R78, R84). -/
def Part.capTicked (p : Part) (b : CaptureBlock) : Cap := { p.capClosed b with
  session := if p.cap.station.hands then p.cap.session.advance else p.cap.session
  station := if p.cap.leaves then .listening else p.cap.station
  block := p.captureTick.cap.block }

/-- Station Control and the new block change the Capture Unit alone. -/
theorem Part.captureTick_withCap (p : Part) : p.captureTick = p.closeBlock.withCap { p.closeBlock.cap with
    session := if p.closeBlock.cap.station.hands then p.closeBlock.cap.session.advance else p.closeBlock.cap.session
    station := if p.closeBlock.cap.leaves then .listening else p.closeBlock.cap.station
    block := p.captureTick.cap.block } := by
  unfold Part.captureTick
  generalize p.closeBlock = q
  rfl

section
variable {p : Part} {b : CaptureBlock} (block : p.cap.block = some b)
include block

theorem Part.captureTick_eq : p.captureTick =
    ((p.runDetectors b).withCap (p.capTicked b)).enqueues (p.audioClosed b ++ p.talkClosed b) := by
  have closed := Part.closeBlock_eq block
  have cap : p.closeBlock.cap = p.capClosed b := by
    rw [closed, Part.enqueues_cap]
    rfl
  rw [p.captureTick_withCap, cap, closed, ← Part.enqueues_withCap, Part.withCap_withCap]
  rfl

theorem Part.captureTick_cap : p.captureTick.cap = p.capTicked b := by
  rw [Part.captureTick_eq block, Part.enqueues_cap]
  rfl

/-- What joins the queue with the block, as if created from the part that the block finds. -/
theorem Part.captureTick_queue : p.captureTick.liu.queue = (p.enqueues (p.audioClosed b ++ p.talkClosed b)).liu.queue ∧
    p.captureTick.liu.txDropped = (p.enqueues (p.audioClosed b ++ p.talkClosed b)).liu.txDropped := by
  have liu : (p.runDetectors b).liu = p.liu := (p.runDetectors_reports b).liu
  rw [Part.captureTick_eq block]
  generalize p.runDetectors b = q at liu
  exact Part.enqueues_queue (q := q.withCap (p.capTicked b)) (congrArg Liu.queue liu) (congrArg Liu.txDropped liu) _

/-- Of the capture faults, those that the detectors leave stand after the closing. -/
theorem Part.captureTick_marks {m : FaultKey} (other : m.kind ≠ .txOverrun) :
    m ∈ p.captureTick.faults.marks ↔ m ∈ (p.runDetectors b).faults.marks := by
  have joins (xs : List Parcel) (q : Part) : m ∈ (q.enqueues xs).faults.marks ↔ m ∈ q.faults.marks := by
    induction xs generalizing q with
    | nil => exact Iff.rfl
    | cons x xs ih =>
      rw [Part.enqueues_cons, ih]
      rcases Nat.lt_or_ge q.liu.queue.length 8 with room | full
      · rw [Part.enqueue_room x q room]
      · have ne : m ≠ FaultKey.plain .txOverrun := fun same => other (congrArg FaultKey.kind same)
        rw [Part.enqueue_full x q full]
        refine (Part.mem_marks_settleFault _ (FaultKey.plain .txOverrun) true m).trans ?_
        simp [ne]
  rw [Part.captureTick_eq block]
  generalize p.runDetectors b = q
  exact joins _ (q.withCap (p.capTicked b))

end

/-- The closing of a block, Station Control and the new block keep the frame of a closing. -/
theorem Part.captureTick_closesOn (p : Part) : p.ClosesOn p.captureTick := by
  have moves (q : Part) : q.ClosesOn (q.withCap { q.cap with
      session := if q.cap.station.hands then q.cap.session.advance else q.cap.session
      station := if q.cap.leaves then .listening else q.cap.station
      block := p.captureTick.cap.block }) := .withCap rfl rfl
  have closes : p.ClosesOn p.closeBlock := by
    cases block : p.cap.block with
    | none => rw [Part.closeBlock, block]; exact .refl p
    | some b =>
      have detects := p.runDetectors_closesOn b
      have cap : (p.runDetectors b).cap = { p.cap with detectors := p.detectorsAfter b } := (p.runDetectors_reports b).cap
      rw [Part.closeBlock_eq block]
      generalize p.runDetectors b = q at detects cap
      refine (detects.trans (q := q) (.withCap (c := p.capClosed b) ?_ ?_)).trans (.enqueues _ _)
      · rw [cap]
        rfl
      · rw [cap]
        rfl
  have final := moves p.closeBlock
  rw [← p.captureTick_withCap] at final
  exact closes.trans final

end Sys2Proof.Machine

/-! # The jobs of a block tick, apart from the closing of the block (R46). -/

namespace Sys2Proof.Machine

/-- What the jobs of a block tick other than the closing may change (R46). -/
structure Part.CountsOn (p q : Part) : Prop where
  sul : q.sul = p.sul
  settings : q.settings = p.settings
  tau : q.tau = { p.tau with resyncTimer := q.tau.resyncTimer }
  cap : q.cap = p.cap
  plu : q.plu = { p.plu with lanes := q.plu.lanes }
  mxe : q.mxe = { p.mxe with
    switches := q.mxe.switches, meterCount := q.mxe.meterCount, peaks := q.mxe.peaks, clips := q.mxe.clips }
  moment : q.moment = { p.moment with done := q.moment.done }
  marks : ∀ m : FaultKey, m.kind = .captureSilent ∨ m.kind = .captureStuck → (m ∈ q.faults.marks ↔ m ∈ p.faults.marks)

namespace Part.CountsOn

theorem refl (p : Part) : p.CountsOn p := ⟨rfl, rfl, rfl, rfl, rfl, rfl, rfl, fun _ _ => Iff.rfl⟩

theorem trans {p q r : Part} (h : p.CountsOn q) (h' : q.CountsOn r) : p.CountsOn r :=
  ⟨h'.sul.trans h.sul, h'.settings.trans h.settings, h'.tau.trans (by rw [h.tau]), h'.cap.trans h.cap,
    h'.plu.trans (by rw [h.plu]), h'.mxe.trans (by rw [h.mxe]), h'.moment.trans (by rw [h.moment]),
    fun m kind => (h'.marks m kind).trans (h.marks m kind)⟩

/-- The link counts, the Peer Table, the store and the digest records changed. -/
theorem aside {p : Part} {l : Liu} {t : PeerTable} {a : Ast} {i : Vector DigestRecord 16} :
    p.CountsOn { p with liu := l, ptb := t, ast := a, imn := i } :=
  ⟨rfl, rfl, rfl, rfl, rfl, rfl, rfl, fun _ _ => Iff.rfl⟩

theorem took (j : TickJob) (p : Part) : p.CountsOn { p with moment := p.moment.took j } :=
  ⟨rfl, rfl, rfl, rfl, rfl, rfl, rfl, fun _ _ => Iff.rfl⟩

theorem reports {p q : Part} (h : p.OnlyReports q)
    (marks : ∀ m : FaultKey, m.kind = .captureSilent ∨ m.kind = .captureStuck →
      (m ∈ q.faults.marks ↔ m ∈ p.faults.marks)) : p.CountsOn q :=
  ⟨h.sul, h.settings, by rw [h.tau], h.cap, by rw [h.plu], by rw [h.mxe], by rw [h.moment], marks⟩

theorem emit (r : Report) (p : Part) : p.CountsOn (p.emit r) := reports (.emit r p) fun _ _ => Iff.rfl

theorem settleFault {key : FaultKey} (silent : key.kind ≠ .captureSilent) (stuck : key.kind ≠ .captureStuck) (on : Bool)
    (p : Part) : p.CountsOn (p.settleFault key on) := by
  refine reports (p.settleFault_reports key on) fun m kind => ?_
  have other : m ≠ key := by
    rintro rfl
    exact kind.elim silent stuck
  rw [Part.mem_marks_settleFault]
  simp [other]

theorem raiseFault {key : FaultKey} (silent : key.kind ≠ .captureSilent) (stuck : key.kind ≠ .captureStuck) (p : Part) :
    p.CountsOn (p.raiseFault key) := settleFault silent stuck true p

theorem endFault {key : FaultKey} (silent : key.kind ≠ .captureSilent) (stuck : key.kind ≠ .captureStuck) (p : Part) :
    p.CountsOn (p.endFault key) := settleFault silent stuck false p

theorem endFaults (keys : List FaultKey) (others : ∀ k ∈ keys, k.kind ≠ .captureSilent ∧ k.kind ≠ .captureStuck) (p : Part) :
    p.CountsOn (p.endFaults keys) := by
  induction keys generalizing p with
  | nil => exact refl p
  | cons k ks ih =>
    obtain ⟨silent, stuck⟩ := others k (by simp)
    exact (endFault silent stuck p).trans (ih (fun x h => others x (by simp [h])) _)

theorem mapPeer (s : Station) (f : PeerRecord → PeerRecord) (p : Part) : p.CountsOn (p.mapPeer s f) :=
  ⟨rfl, rfl, rfl, rfl, rfl, rfl, rfl, fun _ _ => Iff.rfl⟩

theorem clearStation (s : Station) (p : Part) : p.CountsOn (p.clearStation s) :=
  ⟨rfl, rfl, rfl, rfl, rfl, rfl, rfl, fun _ _ => Iff.rfl⟩

theorem removePeer (s : Station) (p : Part) : p.CountsOn (p.removePeer s) := by
  refine ((clearStation s p).trans (emit _ _)).trans (endFaults _ (fun k mem => ?_) _)
  simp only [removalFaults, List.cons_append, List.mem_cons, List.mem_append, List.mem_map] at mem
  rcases mem with rfl | ⟨j, -, rfl⟩ | rfl | none
  · exact ⟨FaultKind.noConfusion, FaultKind.noConfusion⟩
  · exact ⟨FaultKind.noConfusion, FaultKind.noConfusion⟩
  · exact ⟨FaultKind.noConfusion, FaultKind.noConfusion⟩
  · exact absurd none (by simp)

theorem enqueue (x : Parcel) (p : Part) : p.CountsOn (p.enqueue x) := by
  rcases Nat.lt_or_ge p.liu.queue.length 8 with room | full
  · rw [Part.enqueue_room x p room]
    exact aside
  · rw [Part.enqueue_full x p full]
    let dropped : Part := { p with
      liu := { p.liu with
        queue := placeFull x p.liu.queue, txDropped := satAdd max32 p.liu.txDropped 1, txQuiet := 0 }
      moment := p.moment.took .txQuiet }
    have drops : p.CountsOn dropped := ⟨rfl, rfl, rfl, rfl, rfl, rfl, rfl, fun _ _ => Iff.rfl⟩
    exact drops.trans (raiseFault (key := FaultKey.plain .txOverrun) FaultKind.noConfusion FaultKind.noConfusion dropped)

theorem meterTick (p : Part) : p.CountsOn p.meterTick := by
  unfold Part.meterTick
  split
  · split
    · refine (emit (meterReport p.mxe) p).trans ⟨rfl, rfl, rfl, rfl, rfl, rfl, rfl, fun _ _ => Iff.rfl⟩
    · exact ⟨rfl, rfl, rfl, rfl, rfl, rfl, rfl, fun _ _ => Iff.rfl⟩
  · exact refl p

theorem noticeTick (p : Part) : p.CountsOn p.noticeTick := by
  unfold Part.noticeTick
  split
  · split
    · exact (aside (p := p) (l := { p.liu with noticeCount := 0 })).trans (enqueue _ _)
    · exact aside
  · exact refl p

theorem echoTick (p : Part) : p.CountsOn p.echoTick := by
  unfold Part.echoTick
  split
  · dsimp only
    split
    · exact aside.trans (raiseFault (key := FaultKey.plain .echoLost) FaultKind.noConfusion FaultKind.noConfusion _)
    · exact aside
  · exact refl p

theorem txQuietTick (p : Part) : p.CountsOn p.txQuietTick := by
  unfold Part.txQuietTick
  split
  · dsimp only
    split
    · exact aside.trans (endFault (key := FaultKey.plain .txOverrun) FaultKind.noConfusion FaultKind.noConfusion _)
    · exact aside
  · exact refl p

theorem cleanTick (p : Part) : p.CountsOn p.cleanTick := by
  unfold Part.cleanTick
  split
  · dsimp only
    split
    · exact aside.trans (endFault (key := FaultKey.plain .linkErrors) FaultKind.noConfusion FaultKind.noConfusion _)
    · exact aside
  · exact refl p

theorem storeQuietTick (p : Part) : p.CountsOn p.storeQuietTick := by
  unfold Part.storeQuietTick
  split
  · dsimp only
    split
    · exact aside.trans (endFault (key := FaultKey.plain .storeFull) FaultKind.noConfusion FaultKind.noConfusion _)
    · exact aside
  · exact refl p

theorem endConflictWon (p : Part) : p.CountsOn p.endConflictWon :=
  reports (.of_eq (by rw [Part.endConflictWon, Part.withList, ← Pnl.emitAll_frame])) fun _ _ => Iff.rfl

theorem winTick (p : Part) : p.CountsOn p.winTick := by
  unfold Part.winTick
  split
  · dsimp only
    split
    · exact aside.trans (endConflictWon _)
    · exact aside
  · exact refl p

theorem lagWindowTick (p : Part) : p.CountsOn p.lagWindowTick := by
  unfold Part.lagWindowTick
  split
  · split
    · exact aside
    · exact aside
  · exact refl p

theorem resyncTick (p : Part) : p.CountsOn p.resyncTick := by
  unfold Part.resyncTick
  split
  · exact ⟨rfl, rfl, rfl, rfl, rfl, rfl, rfl, fun _ _ => Iff.rfl⟩
  · exact refl p

theorem joinTick (s : Station) (p : Part) : p.CountsOn (p.joinTick s) := by
  unfold Part.joinTick
  split
  · split
    · exact removePeer s p
    · exact mapPeer s _ p
  · exact refl p

theorem quietTick (s : Station) (p : Part) : p.CountsOn (p.quietTick s) := by
  unfold Part.quietTick
  split
  · exact refl p
  · split
    · split
      · exact ((mapPeer s _ p).trans (emit _ _)).trans
          (raiseFault (key := peerLapsedKey s) FaultKind.noConfusion FaultKind.noConfusion _)
      · exact mapPeer s _ p
    · split
      · exact removePeer s p
      · exact mapPeer s _ p
    · exact refl p

theorem resyncSeenTick (s : Station) (p : Part) : p.CountsOn (p.resyncSeenTick s) := by
  unfold Part.resyncSeenTick
  split
  · exact mapPeer s _ p
  · exact refl p

theorem jobWork {j : TickJob} (other : j ≠ .capture) (p : Part) : p.CountsOn (p.jobWork j) := by
  cases j with
  | capture => exact absurd rfl other
  | notice => exact noticeTick p
  | echoLost => exact echoTick p
  | txQuiet => exact txQuietTick p
  | cleanBlocks => exact cleanTick p
  | storeQuiet => exact storeQuietTick p
  | win => exact winTick p
  | lagWindow => exact lagWindowTick p
  | resyncTimer => exact resyncTick p
  | meter => exact meterTick p
  | join s => exact joinTick s p
  | quiet s => exact quietTick s p
  | resyncSeen s => exact resyncSeenTick s p

theorem runJob {j : TickJob} (other : j ≠ .capture) (p : Part) : p.CountsOn (p.runJob j) := by
  unfold Part.runJob Part.takeJob
  split
  · exact (took j p).trans (jobWork other _)
  · exact refl p

theorem runJobs {js : List TickJob} (others : .capture ∉ js) (p : Part) : p.CountsOn (p.runJobs js) := by
  induction js generalizing p with
  | nil => exact refl p
  | cons j js ih =>
    rw [List.mem_cons, not_or] at others
    exact (runJob (fun h => others.1 h.symm) p).trans (ih others.2 _)

end Part.CountsOn

/-! ## The queue and the jobs taken -/

/-- The queue, its drop count and the NOTICE count are the same, and so are the jobs taken. -/
structure Part.KeepsQueue (p q : Part) : Prop where
  queue : q.liu.queue = p.liu.queue
  txDropped : q.liu.txDropped = p.liu.txDropped
  noticeCount : q.liu.noticeCount = p.liu.noticeCount
  done : .capture ∈ q.moment.done ↔ .capture ∈ p.moment.done

namespace Part.KeepsQueue

theorem refl (p : Part) : p.KeepsQueue p := ⟨rfl, rfl, rfl, Iff.rfl⟩

theorem trans {p q r : Part} (h : p.KeepsQueue q) (h' : q.KeepsQueue r) : p.KeepsQueue r :=
  ⟨h'.queue.trans h.queue, h'.txDropped.trans h.txDropped, h'.noticeCount.trans h.noticeCount, h'.done.trans h.done⟩

theorem of_same {p q : Part} (liu : q.liu = p.liu) (moment : q.moment = p.moment) : p.KeepsQueue q :=
  ⟨by rw [liu], by rw [liu], by rw [liu], by rw [moment]⟩

theorem reports {p q : Part} (h : p.OnlyReports q) : p.KeepsQueue q := of_same h.liu h.moment

theorem took {j : TickJob} (other : j ≠ .capture) (p : Part) : p.KeepsQueue { p with moment := p.moment.took j } := by
  refine ⟨rfl, rfl, rfl, ?_⟩
  rw [Moment.took_done, List.mem_cons]
  exact or_iff_right other.symm

theorem removePeer (s : Station) (p : Part) : p.KeepsQueue (p.removePeer s) :=
  .trans (q := p.clearStation s) (of_same rfl rfl) (reports (p.removePeer_reports s))

theorem txQuietTick (p : Part) : p.KeepsQueue p.txQuietTick := by
  unfold Part.txQuietTick
  split
  · dsimp only
    split
    · exact .trans (q := { p with liu := { p.liu with txQuiet := satAdd 1000 p.liu.txQuiet 1 } }) ⟨rfl, rfl, rfl, Iff.rfl⟩
        (reports (.endFault _ _))
    · exact ⟨rfl, rfl, rfl, Iff.rfl⟩
  · exact refl p

theorem meterTick (p : Part) : p.KeepsQueue p.meterTick := by
  unfold Part.meterTick
  split
  · split
    · exact .trans (q := p.emit (meterReport p.mxe)) (reports (.emit _ p)) (of_same rfl rfl)
    · exact of_same rfl rfl
  · exact refl p

theorem echoTick (p : Part) : p.KeepsQueue p.echoTick := by
  unfold Part.echoTick
  split
  · dsimp only
    split
    · exact .trans (q := { p with liu := { p.liu with
        echoLostCount := p.liu.echoLostCount + 1, echoDelay := none, echoCount := 0 } }) ⟨rfl, rfl, rfl, Iff.rfl⟩
        (reports (.raiseFault _ _))
    · exact ⟨rfl, rfl, rfl, Iff.rfl⟩
  · exact refl p

theorem cleanTick (p : Part) : p.KeepsQueue p.cleanTick := by
  unfold Part.cleanTick
  split
  · dsimp only
    split
    · exact .trans (q := { p with liu := { p.liu with cleanBlocks := p.liu.cleanBlocks + 1 } }) ⟨rfl, rfl, rfl, Iff.rfl⟩
        (reports (.endFault _ _))
    · exact ⟨rfl, rfl, rfl, Iff.rfl⟩
  · exact refl p

theorem storeQuietTick (p : Part) : p.KeepsQueue p.storeQuietTick := by
  unfold Part.storeQuietTick
  split
  · dsimp only
    split
    · exact .trans (q := { p with ast := { p.ast with quiet := satAdd 1000 p.ast.quiet 1 } }) (of_same rfl rfl)
        (reports (.endFault _ _))
    · exact of_same rfl rfl
  · exact refl p

theorem winTick (p : Part) : p.KeepsQueue p.winTick := by
  unfold Part.winTick
  split
  · dsimp only
    split
    · exact of_same rfl rfl
    · exact of_same rfl rfl
  · exact refl p

theorem lagWindowTick (p : Part) : p.KeepsQueue p.lagWindowTick := by
  unfold Part.lagWindowTick
  split
  · split
    · exact of_same rfl rfl
    · exact of_same rfl rfl
  · exact refl p

theorem resyncTick (p : Part) : p.KeepsQueue p.resyncTick := by
  unfold Part.resyncTick
  split
  · exact of_same rfl rfl
  · exact refl p

theorem joinTick (s : Station) (p : Part) : p.KeepsQueue (p.joinTick s) := by
  unfold Part.joinTick
  split
  · split
    · exact removePeer s p
    · exact of_same rfl rfl
  · exact refl p

theorem quietTick (s : Station) (p : Part) : p.KeepsQueue (p.quietTick s) := by
  unfold Part.quietTick
  split
  · exact refl p
  · split
    · split
      · exact .trans (q := p.mapPeer s fun r => { r with state := .lapsed, quietCount := satAdd 5200 r.quietCount 1 })
          (of_same rfl rfl) (reports ((Part.OnlyReports.emitPeer s _).trans (.raiseFault _ _)))
      · exact of_same rfl rfl
    · split
      · exact removePeer s p
      · exact of_same rfl rfl
    · exact refl p

theorem resyncSeenTick (s : Station) (p : Part) : p.KeepsQueue (p.resyncSeenTick s) := by
  unfold Part.resyncSeenTick
  split
  · exact of_same rfl rfl
  · exact refl p

theorem jobWork {j : TickJob} (capture : j ≠ .capture) (notice : j ≠ .notice) (p : Part) : p.KeepsQueue (p.jobWork j) := by
  cases j with
  | capture => exact absurd rfl capture
  | notice => exact absurd rfl notice
  | echoLost => exact echoTick p
  | txQuiet => exact txQuietTick p
  | cleanBlocks => exact cleanTick p
  | storeQuiet => exact storeQuietTick p
  | win => exact winTick p
  | lagWindow => exact lagWindowTick p
  | resyncTimer => exact resyncTick p
  | meter => exact meterTick p
  | join s => exact joinTick s p
  | quiet s => exact quietTick s p
  | resyncSeen s => exact resyncSeenTick s p

theorem runJob {j : TickJob} (capture : j ≠ .capture) (notice : j ≠ .notice) (p : Part) : p.KeepsQueue (p.runJob j) := by
  unfold Part.runJob Part.takeJob
  split
  · exact (took capture p).trans (jobWork capture notice _)
  · exact refl p

theorem runJobs {js : List TickJob} (capture : .capture ∉ js) (notice : .notice ∉ js) (p : Part) :
    p.KeepsQueue (p.runJobs js) := by
  induction js generalizing p with
  | nil => exact refl p
  | cons j js ih =>
    rw [List.mem_cons, not_or] at capture notice
    exact (runJob (fun h => capture.1 h.symm) (fun h => notice.1 h.symm) p).trans (ih capture.2 notice.2 _)

end Part.KeepsQueue

/-! ## A block tick around its closing -/

/-- The jobs of a block tick that come before the closing (log 3). -/
def earlyJobs : List TickJob :=
  [.resyncTimer, .echoLost, .cleanBlocks, .storeQuiet, .win, .lagWindow] ++ allStations.flatMap stationJobs

theorem earlyJobs_others : .capture ∉ earlyJobs ∧ .notice ∉ earlyJobs := by decide

theorem tickJobs_eq : tickJobs = earlyJobs ++ .capture :: [.notice, .txQuiet, .meter] := rfl

theorem Part.runJobs_append (js ks : List TickJob) (p : Part) : p.runJobs (js ++ ks) = (p.runJobs js).runJobs ks :=
  List.foldl_append

theorem Part.runJobs_cons (j : TickJob) (js : List TickJob) (p : Part) : p.runJobs (j :: js) = (p.runJob j).runJobs js :=
  rfl

theorem Part.runJob_due {j : TickJob} {p : Part} (due : p.moment.jobDue j = true) :
    p.runJob j = Part.jobWork j { p with moment := p.moment.took j } := if_pos due

/-- The part as the closing of a tick's block finds it, its job taken. -/
def Part.beforeClosing (p : Part) : Part :=
  let q := p.runJobs earlyJobs
  { q with moment := q.moment.took .capture }

theorem Part.tickWork_eq {p : Part} (tick : p.moment.tick = true) : p.tickWork =
    (((p.runJobs earlyJobs).runJob .capture).runJobs [.notice, .txQuiet, .meter]).idleBoundary.endTick := by
  rw [Part.tickWork, if_pos tick, tickJobs_eq, Part.runJobs_append, Part.runJobs_cons]

theorem Part.beforeClosing_countsOn (p : Part) : p.CountsOn p.beforeClosing :=
  (Part.CountsOn.runJobs earlyJobs_others.1 p).trans (.took _ _)

/-- A closing not yet taken comes after the early jobs. -/
theorem Part.closing_runs {p : Part} (tick : p.moment.tick = true) (fresh : .capture ∉ p.moment.done) :
    (p.runJobs earlyJobs).runJob .capture = p.beforeClosing.captureWork := by
  have counts := Part.CountsOn.runJobs earlyJobs_others.1 p
  have queue := Part.KeepsQueue.runJobs earlyJobs_others.1 earlyJobs_others.2 p
  have due : (p.runJobs earlyJobs).moment.tick = true := by rw [counts.moment]; exact tick
  have waits : (p.runJobs earlyJobs).moment.done.contains .capture = false := by
    rw [← Bool.not_eq_true, List.contains_iff_mem, queue.done]
    exact fresh
  unfold Part.beforeClosing
  rw [Part.runJob_due (by rw [Moment.jobDue, due, waits]; rfl)]
  rfl

/-- A NOTICE not yet due only counts (R11). -/
theorem Part.noticeTick_short {p : Part} (short : p.liu.noticeCount + 1 < noticePeriod p.tau.mode) :
    p.noticeTick.liu.queue = p.liu.queue ∧ p.noticeTick.liu.txDropped = p.liu.txDropped := by
  unfold Part.noticeTick
  split
  · rw [if_neg (Nat.not_le.mpr short)]
    exact ⟨rfl, rfl⟩
  · exact ⟨rfl, rfl⟩

end Sys2Proof.Machine

/-! # The closing of a block as its command and as the block tick take it (R70, log 3, 4). -/

namespace Sys2Proof.Machine

/-! ## What the closing finds -/

/-- What a parcel in assembly holds, its digest apart. -/
def Assembly.body (a : Assembly) : BlockNo × Byte × List BlockLanes := (a.firstBlock, a.destination, a.blocks)

/-- What the closing of a block finds of a part: a step of K taken before it spoils digests (R57). -/
structure Part.FoundBy (p q : Part) : Prop where
  sul : q.sul = p.sul
  settings : q.settings = p.settings
  cap : q.cap = { p.cap with audio := q.cap.audio, digest := q.cap.digest }
  body : q.cap.audio.map Assembly.body = p.cap.audio.map Assembly.body
  worked : p.moment.tauDue = false → q.cap = p.cap ∧ q.moment.stepped = p.moment.stepped

theorem Part.corrected_body (m : Int) (p : Part) :
    (p.corrected m).cap.audio.map Assembly.body = p.cap.audio.map Assembly.body := by
  have spoiled : (p.corrected m).cap.audio =
      p.cap.audio.map (Assembly.spoilAt (p.cap.block.map (·.number)) (blockOf (p.corrected m).now)) := rfl
  rw [spoiled, Option.map_map]
  refine congrArg (fun f => p.cap.audio.map f) (funext fun a => ?_)
  unfold Function.comp Assembly.spoilAt
  split <;> rfl

theorem Part.takeStep_body (m : Int) (p : Part) :
    (p.takeStep m).cap.audio.map Assembly.body = p.cap.audio.map Assembly.body := by
  have body := p.corrected_body m
  rw [Part.takeStep_eq]
  generalize p.corrected m = q at body
  rw [(Part.PlaysOn.stepPlayout q).cap]
  exact body

theorem Part.tauWork_body (p : Part) : p.tauWork.cap.audio.map Assembly.body = p.cap.audio.map Assembly.body := by
  by_cases due : p.moment.tauDue = true
  · obtain ⟨u, -, set | ⟨m, step⟩⟩ := Part.tauWork_setsTime due
    · rw [set]
      rfl
    · rw [step]
      exact Part.takeStep_body m _
  · rw [Part.tauWork_taken p (Bool.eq_false_iff.mpr due)]

/-- The Time Agreement Unit's work, taken before the closing where it is still due (log 21). -/
theorem Part.FoundBy.tauWork {p q : Part} (sul : q.sul = p.sul) (settings : q.settings = p.settings) (cap : q.cap = p.cap)
    (tauDue : q.moment.tauDue = p.moment.tauDue) (stepped : q.moment.stepped = p.moment.stepped) : p.FoundBy q.tauWork := by
  have body := q.tauWork_body
  rw [cap] at body
  by_cases due : q.moment.tauDue = true
  · have works := Part.tauWork_worksTime due
    refine ⟨works.sul.trans sul, works.settings.trans settings, ?_, body, fun idle => ?_⟩
    · rw [works.cap, ← cap]
      rfl
    · rw [← tauDue, due] at idle
      exact absurd idle (by decide)
  · rw [Part.tauWork_taken q (Bool.eq_false_iff.mpr due)] at body ⊢
    exact ⟨sul, settings, by rw [cap], body, fun _ => ⟨cap, stepped⟩⟩

namespace Part.FoundBy

section
variable {p q : Part} (h : p.FoundBy q)
include h

theorem block : q.cap.block = p.cap.block := by rw [h.cap]

theorem detectorsAfter (b : CaptureBlock) : q.detectorsAfter b = p.detectorsAfter b := by
  have detectors : q.cap.detectors = p.cap.detectors := by rw [h.cap]
  unfold Part.detectorsAfter
  rw [detectors, h.settings]

end

section
variable {p q : Part} (h : p.FoundBy q) (idle : p.moment.tauDue = false) (b : CaptureBlock)
include h idle

theorem digestAfter : q.digestAfter b = p.digestAfter b := by
  obtain ⟨cap, stepped⟩ := h.worked idle
  unfold Part.digestAfter Part.contributes
  rw [cap, h.settings, stepped]

theorem audioAfter : q.audioAfter b = p.audioAfter b := by
  obtain ⟨cap, -⟩ := h.worked idle
  unfold Part.audioAfter Part.contributes
  rw [h.digestAfter idle, cap, h.settings]

theorem talkAfter : q.talkAfter b = p.talkAfter b := by
  obtain ⟨cap, -⟩ := h.worked idle
  unfold Part.talkAfter
  rw [cap]

theorem closesAudio : q.closesAudio b = p.closesAudio b := by
  obtain ⟨cap, stepped⟩ := h.worked idle
  unfold Part.closesAudio
  rw [h.audioAfter idle, cap, h.settings, stepped]

theorem closesTalk : q.closesTalk b = p.closesTalk b := by
  obtain ⟨cap, stepped⟩ := h.worked idle
  unfold Part.closesTalk
  rw [h.talkAfter idle, cap, h.settings, stepped]

theorem audioClosed : q.audioClosed b = p.audioClosed b := by
  have parcel : (q.detected b).audioParcel = (p.detected b).audioParcel := by
    funext a
    unfold Part.audioParcel Part.detected
    dsimp only
    rw [h.settings, h.detectorsAfter]
  unfold Part.audioClosed
  rw [h.closesAudio idle, h.audioAfter idle, parcel]

theorem talkClosed : q.talkClosed b = p.talkClosed b := by
  obtain ⟨cap, -⟩ := h.worked idle
  unfold Part.talkClosed
  rw [h.closesTalk idle, h.talkAfter idle, cap]

theorem capClosed : q.capClosed b = p.capClosed b := by
  obtain ⟨cap, -⟩ := h.worked idle
  unfold Part.capClosed Part.capTaken
  rw [h.closesAudio idle, h.closesTalk idle, h.audioAfter idle, h.talkAfter idle, h.digestAfter idle, h.detectorsAfter, cap]

end

end Part.FoundBy

/-! ## The closing of a part's block -/

/-- The part t after a command that closes the block of p as a part q finds it. -/
structure Part.Closes (p q t : Part) : Prop where
  found : p.FoundBy q
  cap : t.cap = q.captureTick.cap
  marks : ∀ m : FaultKey, m.kind = .captureSilent ∨ m.kind = .captureStuck →
    (m ∈ t.faults.marks ↔ m ∈ q.captureTick.faults.marks)

/-- The queue after such a command, when nothing but the closing reaches it. -/
structure Part.Queues (p q t : Part) : Prop where
  before : q.liu.queue = p.liu.queue ∧ q.liu.txDropped = p.liu.txDropped
  after : t.liu.queue = q.captureTick.liu.queue ∧ t.liu.txDropped = q.captureTick.liu.txDropped

/-- The part that a command of the closing finds: its job taken, and then the Time Agreement Unit's work. -/
def Part.closingNow (p : Part) : Part := ({ p with moment := p.moment.took .capture } : Part).tauWork

/-- The part that the closing of a block tick finds. -/
def Part.closingTicked (p : Part) : Part := p.beforeClosing.tauWork

theorem Part.closingNow_found (p : Part) : p.FoundBy p.closingNow :=
  .tauWork rfl rfl rfl rfl rfl

theorem Part.closingNow_liu (p : Part) : p.closingNow.liu = p.liu := by
  let q : Part := { p with moment := p.moment.took .capture }
  have same : q.tauWork.liu = q.liu := by
    by_cases due : q.moment.tauDue = true
    · exact Part.tauWork_liu due
    · rw [Part.tauWork_taken q (Bool.eq_false_iff.mpr due)]
  exact same

/-- A command of the closing, due and its outcome met. -/
theorem Part.expire_closes {p : Part} {outcome : Bool} (due : p.moment.due .capture) (met : outcome = true) :
    p.expire .capture outcome = p.closingNow.captureTick :=
  Part.expire_due .capture outcome p due met

theorem Part.closingNow_closes (p : Part) : p.Closes p.closingNow p.closingNow.captureTick :=
  ⟨p.closingNow_found, rfl, fun _ _ => Iff.rfl⟩

theorem Part.closingNow_queues (p : Part) : p.Queues p.closingNow p.closingNow.captureTick :=
  ⟨⟨congrArg Liu.queue p.closingNow_liu, congrArg Liu.txDropped p.closingNow_liu⟩, rfl, rfl⟩

theorem Part.idleBoundary_rest (p : Part) : p.idleBoundary.cap = p.cap ∧ p.idleBoundary.liu = p.liu ∧
    p.idleBoundary.faults = p.faults := by
  unfold Part.idleBoundary
  split
  · exact ⟨p.mixBoundary_cap, p.mixBoundary_liu, p.mixBoundary_faults⟩
  · exact ⟨rfl, rfl, rfl⟩

/-- What a block tick keeps of a part once the last of its jobs are taken. -/
theorem Part.endTick_rest (p : Part) : p.idleBoundary.endTick.cap = p.cap ∧ p.idleBoundary.endTick.liu = p.liu ∧
    p.idleBoundary.endTick.faults = p.faults := p.idleBoundary_rest

theorem Part.closingTicked_found (p : Part) : p.FoundBy p.closingTicked := by
  have counts := p.beforeClosing_countsOn
  exact .tauWork counts.sul counts.settings counts.cap (by rw [counts.moment]) (by rw [counts.moment])

theorem Part.beforeClosing_liu (p : Part) : p.beforeClosing.liu.queue = p.liu.queue ∧
    p.beforeClosing.liu.txDropped = p.liu.txDropped ∧ p.beforeClosing.liu.noticeCount = p.liu.noticeCount := by
  have early := Part.KeepsQueue.runJobs earlyJobs_others.1 earlyJobs_others.2 p
  unfold Part.beforeClosing
  generalize p.runJobs earlyJobs = q at early
  exact ⟨early.queue, early.txDropped, early.noticeCount⟩

section
variable {p : Part} (tick : p.moment.tick = true) (fresh : p.moment.done = [])
include tick fresh

theorem Part.tickWork_closing : p.tickWork =
    (p.closingTicked.captureTick.runJobs [.notice, .txQuiet, .meter]).idleBoundary.endTick := by
  have waits : TickJob.capture ∉ p.moment.done := by simp [fresh]
  rw [Part.tickWork_eq tick, Part.closing_runs tick waits]
  rfl

/-- A block tick closes the block in capture (log 3). -/
theorem Part.tickWork_closes : p.Closes p.closingTicked p.tickWork := by
  have found := p.closingTicked_found
  rw [Part.tickWork_closing tick fresh]
  generalize p.closingTicked = q at found
  have counts := Part.CountsOn.runJobs (js := [.notice, .txQuiet, .meter]) (by decide) q.captureTick
  obtain ⟨cap, -, faults⟩ := (q.captureTick.runJobs [.notice, .txQuiet, .meter]).endTick_rest
  refine ⟨found, cap.trans counts.cap, fun m kind => ?_⟩
  rw [faults]
  exact counts.marks m kind

/-- The queue after a block tick whose NOTICE is not yet due. -/
theorem Part.tickWork_queues (idle : p.moment.tauDue = false) (short : p.liu.noticeCount + 1 < noticePeriod p.tau.mode) :
    p.Queues p.closingTicked p.tickWork := by
  have early := p.beforeClosing_liu
  have counts := p.beforeClosing_countsOn
  have same : p.closingTicked = p.beforeClosing := Part.tauWork_taken _ (by rw [counts.moment]; exact idle)
  rw [Part.tickWork_closing tick fresh, same]
  generalize p.beforeClosing = q at early counts
  have closes := q.captureTick_closesOn
  refine ⟨⟨early.1, early.2.1⟩, ?_⟩
  generalize q.captureTick = r at closes
  obtain ⟨-, liu, -⟩ := (r.runJobs [.notice, .txQuiet, .meter]).endTick_rest
  rw [liu]
  have late := Part.KeepsQueue.runJobs (js := [.txQuiet, .meter]) (by decide) (by decide) (r.runJob .notice)
  have noticed : (r.runJob .notice).liu.queue = r.liu.queue ∧ (r.runJob .notice).liu.txDropped = r.liu.txDropped := by
    by_cases due : r.moment.jobDue .notice = true
    · rw [Part.runJob_due due]
      refine Part.noticeTick_short (p := { r with moment := r.moment.took .notice }) ?_
      have count : r.liu.noticeCount = p.liu.noticeCount := by rw [closes.liu, early.2.2]
      have mode : r.tau.mode = p.tau.mode := by rw [closes.tau, counts.tau]
      exact (congrArg (· + 1) count).trans_lt (short.trans_eq (congrArg noticePeriod mode.symm))
    · rw [Part.runJob, Part.takeJob, if_neg due]
      exact ⟨rfl, rfl⟩
  exact ⟨late.queue.trans noticed.1, late.txDropped.trans noticed.2⟩

end

end Sys2Proof.Machine

/-! # The detectors of a lane, and what the closing of a block leaves of them: O44 (R70, R72, R73, R81). -/

namespace Sys2Proof.Machine

/-! ## The rows of a detector -/

theorem uniform_iff (xs : List Sample) : uniform xs = true ↔ ∀ x ∈ xs, ∀ y ∈ xs, x = y := by
  unfold uniform
  cases xs with
  | nil => simp
  | cons v vs =>
    rw [List.all_eq_true]
    constructor
    · intro all x hx y hy
      rw [beq_iff_eq.mp (all x hx), beq_iff_eq.mp (all y hy)]
    · intro same x hx
      exact beq_iff_eq.mpr (same x hx v (by simp))

/-- The STUCK detector leaves what SILENT holds (R73). -/
theorem Detector.takeUniform_silence (xs : List Sample) (d : Detector) : (d.takeUniform xs).silent = d.silent ∧
    (d.takeUniform xs).quietRun = d.quietRun ∧ (d.takeUniform xs).loudRun = d.loudRun := by
  unfold Detector.takeUniform
  dsimp only
  split
  · split
    · exact ⟨rfl, rfl, rfl⟩
    · exact ⟨rfl, rfl, rfl⟩
  · exact ⟨rfl, rfl, rfl⟩

/-- The SILENT detector leaves what STUCK holds (R72). -/
theorem Detector.takePeak_stuck (set : Settings) (peak : Nat) (d : Detector) : (d.takePeak set peak).held = d.held ∧
    (d.takePeak set peak).stuckRun = d.stuckRun ∧ (d.takePeak set peak).stuck = d.stuck := by
  unfold Detector.takePeak
  split
  · split
    · split
      · exact ⟨rfl, rfl, rfl⟩
      · exact ⟨rfl, rfl, rfl⟩
    · exact ⟨rfl, rfl, rfl⟩
  · split
    · split
      · exact ⟨rfl, rfl, rfl⟩
      · exact ⟨rfl, rfl, rfl⟩
    · exact ⟨rfl, rfl, rfl⟩

section
variable (set : Settings) (xs : List Sample) (d : Detector)

theorem Detector.take_silence : (d.take set xs).silent = (d.takePeak set (blockPeak xs)).silent ∧
    (d.take set xs).quietRun = (d.takePeak set (blockPeak xs)).quietRun ∧
    (d.take set xs).loudRun = (d.takePeak set (blockPeak xs)).loudRun := Detector.takeUniform_silence xs _

/-- SILENT clear: a quiet block counts, and sets it at the silence time; any other ends the quiet run (R72). -/
theorem Detector.take_clear (clear : d.silent = false) :
    (blockPeak xs < set.silenceThreshold → d.quietRun + 1 < set.silenceTime →
      (d.take set xs).silent = false ∧ (d.take set xs).quietRun = d.quietRun + 1 ∧
        (d.take set xs).loudRun = d.loudRun) ∧
    (blockPeak xs < set.silenceThreshold → set.silenceTime ≤ d.quietRun + 1 →
      (d.take set xs).silent = true ∧ (d.take set xs).quietRun = d.quietRun + 1 ∧ (d.take set xs).loudRun = 0) ∧
    (set.silenceThreshold ≤ blockPeak xs →
      (d.take set xs).silent = false ∧ (d.take set xs).quietRun = 0 ∧ (d.take set xs).loudRun = d.loudRun) := by
  obtain ⟨silent, quiet, loud⟩ := d.take_silence set xs
  rw [silent, quiet, loud]
  unfold Detector.takePeak
  refine ⟨fun low short => ?_, fun low long => ?_, fun high => ?_⟩
  · simp [clear, low, Nat.not_le.mpr short]
  · simp [clear, low, long]
  · simp [clear, Nat.not_lt.mpr high]

/-- SILENT set: a loud block counts, and clears it at 10; any other ends the loud run (R72). -/
theorem Detector.take_set (flagged : d.silent = true) :
    (set.releaseLevel ≤ blockPeak xs → d.loudRun + 1 < 10 →
      (d.take set xs).silent = true ∧ (d.take set xs).quietRun = d.quietRun ∧
        (d.take set xs).loudRun = d.loudRun + 1) ∧
    (set.releaseLevel ≤ blockPeak xs → 10 ≤ d.loudRun + 1 →
      (d.take set xs).silent = false ∧ (d.take set xs).quietRun = 0 ∧ (d.take set xs).loudRun = d.loudRun + 1) ∧
    (blockPeak xs < set.releaseLevel →
      (d.take set xs).silent = true ∧ (d.take set xs).quietRun = d.quietRun ∧ (d.take set xs).loudRun = 0) := by
  obtain ⟨silent, quiet, loud⟩ := d.take_silence set xs
  rw [silent, quiet, loud]
  unfold Detector.takePeak
  refine ⟨fun high short => ?_, fun high long => ?_, fun low => ?_⟩
  · have few : ¬10 ≤ d.loudRun + 1 := Nat.not_le.mpr short
    rw [flagged, if_neg (by decide), if_pos high, if_neg few]
    exact ⟨rfl, rfl, rfl⟩
  · rw [flagged, if_neg (by decide), if_pos high, if_pos long]
    exact ⟨rfl, rfl, rfl⟩
  · rw [flagged, if_neg (by decide), if_neg (Nat.not_le.mpr low)]
    exact ⟨rfl, rfl, rfl⟩

/-- A uniform block of a value other than 0 continues the run of that value, or begins one (R73). -/
theorem Detector.take_uniform {y : Sample} (some_ : xs ≠ []) (all : ∀ x ∈ xs, x = y) (loud : y ≠ 0) :
    (y = d.held → 0 < d.stuckRun → (d.take set xs).held = d.held ∧ (d.take set xs).stuckRun = min (d.stuckRun + 1) 200 ∧
      (d.take set xs).stuck = (d.stuck || decide (199 ≤ d.stuckRun))) ∧
    (y ≠ d.held ∨ d.stuckRun = 0 →
      (d.take set xs).held = y ∧ (d.take set xs).stuckRun = 1 ∧ (d.take set xs).stuck = false) := by
  obtain ⟨held, run, stuck⟩ := d.takePeak_stuck set (blockPeak xs)
  have head : xs.headD 0 = y := by
    cases xs with
    | nil => exact absurd rfl some_
    | cons v vs => exact all v (by simp)
  have same : uniform xs = true := (uniform_iff xs).mpr fun x hx z hz => (all x hx).trans (all z hz).symm
  unfold Detector.take Detector.takeUniform
  dsimp only
  rw [head, same, held, run, stuck, Bool.true_and, if_pos (bne_iff_ne.mpr loud)]
  refine ⟨fun value counts => ?_, fun begins => ?_⟩
  · rw [if_pos ⟨value, counts⟩]
    have full : (min (d.stuckRun + 1) 200 == 200) = decide (199 ≤ d.stuckRun) := by
      rw [Bool.eq_iff_iff, beq_iff_eq, decide_eq_true_iff]
      omega
    exact ⟨rfl, rfl, congrArg (d.stuck || ·) full⟩
  · rw [if_neg (by rintro ⟨value, counts⟩; exact begins.elim (· value) (Nat.ne_of_gt counts))]
    exact ⟨rfl, rfl, rfl⟩

/-- A block of zeros, or one that is not uniform, ends the run (R73). -/
theorem Detector.take_varied (h : (∀ x ∈ xs, x = 0) ∨ ∃ x ∈ xs, ∃ y ∈ xs, x ≠ y) :
    (d.take set xs).held = d.held ∧ (d.take set xs).stuckRun = 0 ∧ (d.take set xs).stuck = false := by
  obtain ⟨held, -, -⟩ := d.takePeak_stuck set (blockPeak xs)
  have ends : (uniform xs && xs.headD 0 != 0) = false := by
    rcases h with zeros | ⟨x, hx, y, hy, ne⟩
    · have head : xs.headD 0 = 0 := by
        cases xs with
        | nil => rfl
        | cons v vs => exact zeros v (by simp)
      rw [head]
      simp
    · have varied : uniform xs = false := by
        rw [← Bool.not_eq_true, uniform_iff]
        exact fun same => ne (same x hx y hy)
      rw [varied]
      rfl
  unfold Detector.take Detector.takeUniform
  dsimp only
  rw [ends, if_neg (by decide)]
  exact ⟨held, rfl, rfl⟩

end

/-! ## The detectors and their faults after a closing -/

theorem CaptureBlock.lane_ne_nil (b : CaptureBlock) (k : ProgLane) : b.lane k ≠ [] := by
  intro empty
  have length := congrArg List.length empty
  simp only [CaptureBlock.lane, CaptureBlock.closed, List.length_map, List.length_append, List.length_replicate,
    List.length_nil] at length
  omega

theorem Part.detectorsAfter_lane (p : Part) (b : CaptureBlock) (k : ProgLane) : (p.detectorsAfter b)[k] =
    if k.val < p.settings.laneCount then p.cap.detectors[k].take p.settings (b.lane k) else p.cap.detectors[k] :=
  Vector.getElem_ofFn k.isLt

/-- A closing leaves the detectors as the block leaves them, and their faults active exactly while flagged (R81). -/
theorem Part.Closes.detectors {p q t : Part} {b : CaptureBlock} (closes : p.Closes q t) (block : p.cap.block = some b)
    (k : ProgLane) : t.cap.detectors[k] = (p.detectorsAfter b)[k] ∧
      (⟨.captureSilent, .lane p.sul.own k⟩ ∈ t.faults.marks ↔ t.cap.detectors[k].silent = true) ∧
      (⟨.captureStuck, .lane p.sul.own k⟩ ∈ t.faults.marks ↔ t.cap.detectors[k].stuck = true) := by
  have held : q.cap.block = some b := closes.found.block.trans block
  have detectors : t.cap.detectors = p.detectorsAfter b := by
    rw [closes.cap, Part.captureTick_cap held]
    exact closes.found.detectorsAfter b
  have silent := q.runDetectors_silent b k
  have stuck := q.runDetectors_stuck b k
  rw [closes.found.detectorsAfter, closes.found.sul] at silent stuck
  rw [detectors, closes.marks _ (.inl rfl), closes.marks _ (.inr rfl),
    Part.captureTick_marks held FaultKind.noConfusion, Part.captureTick_marks held FaultKind.noConfusion]
  exact ⟨rfl, silent, stuck⟩

theorem Part.detectorTurn_eq {p : Part} {b : CaptureBlock} (block : p.cap.block = some b) (k : ProgLane) :
    p.detectorTurn k = some (p.cap.detectors[k], (p.detectorsAfter b)[k]) := by
  rw [Part.detectorTurn, block]
  rfl

/-- The commands that close the block in capture, with the outcome each stands for (log 4). -/
theorem exec_closing {s : State} {c : Instr} {k : ProgLane}
    (which : c = .silentSet k ∨ c = .silentClear k ∨ c = .stuckSet k ∨ c = .leaveOnAir ∨ c = .talkSessionAdvance) :
    ∃ outcome, exec c s = .next (s.withPart (s.part.expire .capture outcome)) := by
  rcases which with rfl | rfl | rfl | rfl | rfl
  · exact ⟨_, rfl⟩
  · exact ⟨_, rfl⟩
  · exact ⟨_, rfl⟩
  · exact ⟨_, rfl⟩
  · exact ⟨_, rfl⟩

/-- A command of the closing, once the Time Agreement Unit's work is done: nothing, or the closing with its job taken. -/
theorem Part.expire_closesOn {p : Part} (idle : p.moment.tauDue = false) (outcome : Bool) :
    p.expire .capture outcome = p ∨
      ({ p with moment := p.moment.took .capture } : Part).ClosesOn (p.expire .capture outcome) := by
  unfold Part.expire
  split
  · next due =>
    rw [Bool.and_eq_true] at due
    rw [Part.runJob_due due.1]
    let q : Part := { p with moment := p.moment.took .capture }
    have works : Part.jobWork .capture q = q.captureTick := q.captureWork_taken idle
    exact .inr (works ▸ q.captureTick_closesOn)
  · exact .inl rfl

/-- The part after a closing, written as what it keeps of the part before. -/
theorem Part.ClosesOn.shape {p q : Part} (h : p.ClosesOn q) : q = { p with
    liu := { p.liu with queue := q.liu.queue, txDropped := q.liu.txDropped, txQuiet := q.liu.txQuiet }
    cap := { q.cap with contribute := p.cap.contribute, input := p.cap.input }
    faults := q.faults, pnl := p.pnl.withReports q.pnl, moment := { p.moment with done := q.moment.done } } := by
  obtain ⟨sul, settings, liu, ptb, tau, cap, ast, plu, mxe, imn, pnl, moment, -⟩ := h
  rw [← sul, ← settings, ← liu, ← ptb, ← tau, ← cap, ← ast, ← plu, ← mxe, ← imn, ← pnl, ← moment]

/-- Settles O44: a detector's rows go through `Detector.take`, and every closing, by command or by the block tick, through
`Part.Closes`. -/
theorem detectorsSetAndClear : Obligations.DetectorsSetAndClear := by
  unfold Obligations.DetectorsSetAndClear
  refine ⟨fun s b k due block below => ?_, fun s b tick fresh block => ?_, fun set xs d => ?_, fun s c k idle which => ?_⟩
  · intro d peak
    have turn := Part.detectorTurn_eq block k
    obtain ⟨detector, silentMark, stuckMark⟩ := s.part.closingNow_closes.detectors block k
    have after : (s.part.detectorsAfter b)[k] = d.take s.part.settings (b.lane k) := by
      rw [Part.detectorsAfter_lane, if_pos below]
    rw [after] at turn detector
    have closed {outcome : Bool} (met : outcome = true) := next_withPart s (Part.expire_closes due met)
    refine ⟨fun clear low long => ?_, fun flagged high loud => ?_, fun clear held same run => ?_⟩
    · obtain ⟨silent, -, loud⟩ := (d.take_clear s.part.settings (b.lane k) clear).2.1 low long
      have sets : s.part.silentSets k = true := by
        rw [Part.silentSets, turn]
        exact Bool.and_eq_true_iff.mpr ⟨congrArg (! ·) clear, silent⟩
      refine ⟨_, closed sets, ?_, ?_, ?_⟩
      · rw [detector, silent]
      · rw [detector, loud]
      · exact List.contains_iff_mem.mpr (silentMark.mpr (by rw [detector, silent]))
    · obtain ⟨silent, quiet, -⟩ := (d.take_set s.part.settings (b.lane k) flagged).2.1 high (by omega)
      have clears : s.part.silentClears k = true := by
        rw [Part.silentClears, turn]
        exact Bool.and_eq_true_iff.mpr ⟨flagged, congrArg (! ·) silent⟩
      refine ⟨_, closed clears, ?_, ?_, ?_⟩
      · rw [detector, silent]
      · rw [detector, quiet]
      · refine Bool.eq_false_iff.mpr fun active => ?_
        have set := silentMark.mp (List.contains_iff_mem.mp active)
        rw [detector, silent] at set
        exact absurd set (by decide)
    · obtain ⟨-, runs, stuck⟩ :=
        (d.take_uniform s.part.settings (b.lane k) (b.lane_ne_nil k) same held).1 rfl (by omega)
      have flags : (d.take s.part.settings (b.lane k)).stuck = true := by
        rw [stuck, run]
        exact Bool.or_true _
      have sets : s.part.stuckSets k = true := by
        rw [Part.stuckSets, turn]
        exact Bool.and_eq_true_iff.mpr ⟨congrArg (! ·) clear, flags⟩
      refine ⟨_, closed sets, ?_, ?_, ?_⟩
      · rw [detector, flags]
      · rw [detector, runs, run]
        rfl
      · exact List.contains_iff_mem.mpr (stuckMark.mpr (by rw [detector, flags]))
  · refine ⟨_, rfl, fun k => ?_⟩
    obtain ⟨detector, marks⟩ := (Part.tickWork_closes tick fresh).detectors block k
    exact ⟨detector.trans (s.part.detectorsAfter_lane b k), marks⟩
  · intro v peak release
    refine ⟨fun clear => (d.take_clear set xs clear).1, fun clear => (d.take_clear set xs clear).2.1,
      fun clear => (d.take_clear set xs clear).2.2, fun flagged => (d.take_set set xs flagged).1,
      fun flagged => (d.take_set set xs flagged).2.1, fun flagged => (d.take_set set xs flagged).2.2,
      fun y some_ all loud => d.take_uniform set xs some_ all loud, fun h => d.take_varied set xs h⟩
  · obtain ⟨outcome, ran⟩ := exec_closing (s := s) which
    have closes := Part.expire_closesOn idle outcome
    generalize s.part.expire .capture outcome = t at ran closes
    rcases closes with rfl | closes
    · exact ⟨_, ran, rfl, rfl, fun _ _ _ _ => Iff.rfl, fun _ => .inl, fun _ _ => rfl⟩
    · refine ⟨t, ran, closes.shape, closes.conflict, closes.marks, fun j mem => ?_, fun same below => ?_⟩
      · rcases closes.done j mem with mem | rfl
        · exact (List.mem_cons.mp mem).elim (fun now => .inr (.inl now)) .inl
        · exact .inr (.inr rfl)
      · rcases closes.quiet with ⟨quiet, -⟩ | more
        · exact quiet
        · have more : min (s.part.liu.txDropped + 1) 4294967295 ≤ t.liu.txDropped := more
          omega

end Sys2Proof.Machine

/-! # The station state, the parcels and the sender digest at a closing: O45 (R70, R71, R74 to R78, R191). -/

namespace Sys2Proof.Machine

theorem ClockMode.settled_iff (m : ClockMode) : m.settled = true ↔ m = .tracking ∨ m = .holdover := by
  cases m <;> simp [ClockMode.settled]

/-! ## A closing whose instant needs no work -/

section
variable {p q t : Part} {b : CaptureBlock} (closes : p.Closes q t) (block : p.cap.block = some b)
include closes block

/-- The station and the session after a closing (R78, R84). -/
theorem Part.Closes.moves : t.cap.station = (if p.cap.leaves then .listening else p.cap.station) ∧
    t.cap.session = if p.cap.station.hands then p.cap.session.advance else p.cap.session := by
  have ticked := closes.cap.trans (Part.captureTick_cap (closes.found.block.trans block))
  have station : q.cap.station = p.cap.station := by rw [closes.found.cap]
  have session : q.cap.session = p.cap.session := by rw [closes.found.cap]
  have contribute : q.cap.contribute = p.cap.contribute := by rw [closes.found.cap]
  have leaves : q.cap.leaves = p.cap.leaves := by rw [Cap.leaves, station, contribute, Cap.leaves]
  rw [ticked, Part.capTicked, leaves, station, session]
  exact ⟨rfl, rfl⟩

/-- The digest and the parcels in assembly after a closing whose instant's work is done. -/
theorem Part.Closes.worked (idle : p.moment.tauDue = false) : t.cap.detectors = p.detectorsAfter b ∧
    t.cap.digest = p.digestAfter b ∧
    t.cap.audio = (if p.closesAudio b then none else p.audioAfter b) ∧
    t.cap.talkParcel = if p.closesTalk b then none else p.talkAfter b := by
  have ticked := closes.cap.trans (Part.captureTick_cap (closes.found.block.trans block))
  rw [ticked, Part.capTicked, closes.found.capClosed idle]
  exact ⟨rfl, rfl, rfl, rfl⟩

/-- The queue after such a closing: the parcels closed join it, the AUDIO first (log 39). -/
theorem Part.Closes.queued (queues : p.Queues q t) (idle : p.moment.tauDue = false) :
    t.liu.queue = (p.enqueues (p.audioClosed b ++ p.talkClosed b)).liu.queue ∧
      t.liu.txDropped = (p.enqueues (p.audioClosed b ++ p.talkClosed b)).liu.txDropped := by
  obtain ⟨queue, dropped⟩ := Part.captureTick_queue (closes.found.block.trans block)
  obtain ⟨queue', dropped'⟩ := Part.enqueues_queue queues.before.1 queues.before.2 (p.audioClosed b ++ p.talkClosed b)
  rw [closes.found.audioClosed idle, closes.found.talkClosed idle] at queue dropped
  exact ⟨(queues.after.1.trans queue).trans queue', (queues.after.2.trans dropped).trans dropped'⟩

end

/-- A closing taken by a command of its own. -/
theorem exec_closes {s : State} {c : Instr} {outcome : Bool}
    (ran : exec c s = .next (s.withPart (s.part.expire .capture outcome))) (due : s.part.moment.due .capture)
    (met : outcome = true) :
    ∃ q t, exec c s = .next (s.withPart t) ∧ s.part.Closes q t ∧ s.part.Queues q t :=
  ⟨_, _, ran.trans (next_withPart s (Part.expire_closes due met)), s.part.closingNow_closes, s.part.closingNow_queues⟩

/-- The closing of a block tick that finds all its jobs and no NOTICE due. -/
theorem blockTick_closes {s : State} (idle : s.part.moment.tauDue = false) (tick : s.part.moment.tick = true)
    (fresh : s.part.moment.done = []) (short : s.part.liu.noticeCount + 1 <
      if s.part.tau.mode = .tracking ∨ s.part.tau.mode = .holdover then 100 else 20) :
    ∃ q t, exec .blockTick s = .next (s.withPart t) ∧ s.part.Closes q t ∧ s.part.Queues q t := by
  rw [← noticePeriod_eq] at short
  exact ⟨_, _, rfl, Part.tickWork_closes tick fresh, Part.tickWork_queues tick fresh idle short⟩

/-! ## The AUDIO parcel and the sender digest -/

theorem joinAssembly_eq (b : BlockNo) (dest : Byte) (lanes : BlockLanes) (a : Option Assembly) :
    joinAssembly b dest lanes a =
      { a.getD ⟨b, dest, none, []⟩ with blocks := (a.getD ⟨b, dest, none, []⟩).blocks ++ [lanes] } := by
  cases a <;> rfl

theorem assemblyFull_iff (span : Nat) (a : Option Assembly) :
    assemblyFull span a = true ↔ ∃ x ∈ a, span ≤ x.blocks.length := by
  cases a <;> simp [assemblyFull]

theorem Assembly.withDigest_blocks (d : Option Sample) (a : Assembly) : (a.withDigest d).blocks = a.blocks := by
  cases d <;> rfl

theorem Assembly.withDigest_firstBlock (d : Option Sample) (a : Assembly) :
    (a.withDigest d).firstBlock = a.firstBlock := by
  cases d <;> rfl

theorem Assembly.withDigest_eq (d : Option Sample) (a : Assembly) : a.withDigest d = { a with digest := d.or a.digest } := by
  cases d <;> rfl

section
variable {p : Part} {b : CaptureBlock}

theorem Part.contributes_iff (air : p.cap.station = .onAir) :
    p.contributes b = true ↔ b.onAir = true ∧ p.settings.laneCount ≠ 0 := by
  simp [Part.contributes, air]

theorem Part.closesAudio_iff : p.closesAudio b = true ↔
    p.moment.stepped = true ∨ p.cap.leaves = true ∨ ∃ x ∈ p.audioAfter b, p.settings.span ≤ x.blocks.length := by
  rw [Part.closesAudio, Bool.or_eq_true, Bool.or_eq_true, assemblyFull_iff, or_assoc, or_comm, or_assoc]

theorem Cap.leaves_iff {c : Cap} (air : c.station = .onAir) : c.leaves = true ↔ c.contribute = false := by
  simp [Cap.leaves, air]

/-- Only talk parcels close from the talk session. -/
theorem Part.talkClosed_kind (x : Parcel) (mem : x ∈ p.talkClosed b) : x.kind = .talk := by
  unfold Part.talkClosed at mem
  split at mem
  · obtain ⟨a, -, rfl⟩ := List.mem_map.mp mem
    rfl
  · exact absurd mem (by simp)

theorem Part.audioClosed_kind (x : Parcel) (mem : x ∈ p.audioClosed b) : x.kind = .audio := by
  unfold Part.audioClosed at mem
  split at mem
  · obtain ⟨a, -, rfl⟩ := List.mem_map.mp mem
    rfl
  · exact absurd mem (by simp)

theorem Part.talkAfter_idle (session : p.cap.session = .idle) : p.talkAfter b = p.cap.talkParcel := by
  rw [Part.talkAfter, session]
  exact ite_self _

theorem Part.talkClosed_idle (session : p.cap.session = .idle) (none : p.cap.talkParcel = none) : p.talkClosed b = [] := by
  rw [Part.talkClosed, Part.talkAfter_idle session, none]
  exact ite_self _

/-- At most two parcels close with a block. -/
theorem Part.closed_length : (p.audioClosed b ++ p.talkClosed b).length ≤ 2 := by
  have one {f : Assembly → Parcel} (on : Bool) (a : Option Assembly) :
      (if on then a.toList.map f else []).length ≤ 1 := by
    cases on <;> cases a <;> simp
  rw [List.length_append]
  exact Nat.add_le_add (one _ _) (one _ _)

end

/-! ## Parcels that find room -/

theorem mem_placeParcel {x y : Parcel} {q : List Parcel} : y ∈ placeParcel x q ↔ y = x ∨ y ∈ q := by
  unfold placeParcel placeNotice
  split
  · rw [List.mem_append, List.mem_append, List.mem_singleton]
    have parts : y ∈ q ↔ y ∈ q.takeWhile (·.kind == .notice) ∨ y ∈ q.dropWhile (·.kind == .notice) := by
      rw [← List.mem_append, List.takeWhile_append_dropWhile]
    rw [parts]
    tauto
  · rw [List.mem_append, List.mem_singleton, or_comm]

/-- A queue with room for all keeps what it holds and takes every parcel. -/
theorem Part.mem_enqueues {p : Part} {xs : List Parcel} (room : xs.length + p.liu.queue.length ≤ 8) (y : Parcel) :
    y ∈ (p.enqueues xs).liu.queue ↔ y ∈ xs ∨ y ∈ p.liu.queue := by
  induction xs generalizing p with
  | nil => exact (or_iff_right List.not_mem_nil).symm
  | cons x xs ih =>
    rw [List.length_cons] at room
    have queue : (p.enqueue x).liu.queue = placeParcel x p.liu.queue := by
      rw [Part.enqueue_room x p (by omega)]
    have length := placeParcel_length x p.liu.queue
    rw [Part.enqueues_cons, ih (by rw [queue]; omega), queue, mem_placeParcel, List.mem_cons]
    tauto

/-! ## The station state -/

/-- The block that begins as the station leaves ON_AIR is not contributed (R69, R71, R78). -/
theorem Part.captureTick_left {p : Part} {b : CaptureBlock} (block : p.cap.block = some b) (leaves : p.cap.leaves = true) :
    ∃ nb, p.captureTick.cap.block = some nb ∧ nb.onAir = false ∧ nb.samples = [p.cap.input] := by
  have cap : p.closeBlock.cap = p.capClosed b := by
    rw [Part.closeBlock_eq block, Part.enqueues_cap]
    rfl
  have leaving : p.closeBlock.cap.leaves = true := by rw [cap]; exact leaves
  have input : p.closeBlock.cap.input = p.cap.input := by rw [cap]; rfl
  unfold Part.captureTick
  generalize p.closeBlock = q at leaving input
  have station : q.moveOn.cap.station = .listening := if_pos leaving
  have running : q.moveOn.running = true := by rw [Part.running, station]; rfl
  refine ⟨⟨blockOf q.moveOn.now, q.moveOn.cap.station == .onAir, q.moveOn.moment.stepped, [q.moveOn.cap.input]⟩,
    if_pos running, ?_, ?_⟩
  · rw [station]
    rfl
  · rw [← input]
    rfl

/-- A part that leaves ON_AIR: what it holds after the closing, whatever a step before it has spoiled. -/
theorem Part.Closes.left {p q t : Part} {b : CaptureBlock} (closes : p.Closes q t) (queues : p.Queues q t)
    (block : p.cap.block = some b) (air : p.cap.station = .onAir) (clear : p.cap.contribute = false) :
    t.cap.station = .listening ∧ t.cap.audio = none ∧
      (∃ nb, t.cap.block = some nb ∧ nb.onAir = false ∧ nb.samples = [p.cap.input]) ∧
      ∀ a, p.cap.audio = some a → p.liu.queue.length ≤ 6 →
        ∃ x ∈ t.liu.queue, x.kind = .audio ∧ x.firstBlock = a.firstBlock ∧ x.blocks.length = a.blocks.length +
          if b.onAir = true ∧ p.settings.laneCount ≠ 0 then 1 else 0 := by
  have leaves : p.cap.leaves = true := (Cap.leaves_iff air).mpr clear
  have held := closes.found.block.trans block
  have station : q.cap.station = .onAir := by rw [closes.found.cap]; exact air
  have leaves' : q.cap.leaves = true := by
    have clear' : q.cap.contribute = false := by rw [closes.found.cap]; exact clear
    exact (Cap.leaves_iff station).mpr clear'
  have ends : q.closesAudio b = true := Part.closesAudio_iff.mpr (.inr (.inl leaves'))
  have input : q.cap.input = p.cap.input := by rw [closes.found.cap]
  have ticked := closes.cap.trans (Part.captureTick_cap held)
  refine ⟨by rw [(closes.moves block).1, if_pos leaves], ?_, ?_, fun a assembly short => ?_⟩
  · rw [ticked, Part.capTicked, Part.capClosed, if_pos ends]
  · obtain ⟨nb, opens, off, samples⟩ := Part.captureTick_left held leaves'
    rw [closes.cap]
    exact ⟨nb, opens, off, by rw [samples, input]⟩
  · have queue : t.liu.queue = (q.enqueues (q.audioClosed b ++ q.talkClosed b)).liu.queue :=
      queues.after.1.trans (Part.captureTick_queue held).1
    have few := Part.closed_length (p := q) (b := b)
    have body := closes.found.body
    rw [assembly] at body
    obtain ⟨a', kept, same⟩ := Option.map_eq_some_iff.mp body
    obtain ⟨first, -, blocks⟩ : a'.firstBlock = a.firstBlock ∧ a'.destination = a.destination ∧ a'.blocks = a.blocks := by
      simpa [Assembly.body] using same
    have after : ∃ x ∈ q.audioAfter b, x.firstBlock = a.firstBlock ∧ x.blocks.length = a.blocks.length +
        if b.onAir = true ∧ p.settings.laneCount ≠ 0 then 1 else 0 := by
      have joins := Part.contributes_iff (p := q) (b := b) station
      rw [closes.found.settings] at joins
      by_cases contributed : b.onAir = true ∧ p.settings.laneCount ≠ 0
      · rw [Part.audioAfter, if_pos (joins.mpr contributed), kept, if_pos contributed]
        refine ⟨_, rfl, (Assembly.withDigest_firstBlock _ _).trans first, ?_⟩
        rw [Assembly.withDigest_blocks, joinAssembly_eq, ← blocks]
        exact List.length_append
      · rw [Part.audioAfter, if_neg (fun h => contributed (joins.mp h)), if_neg contributed]
        exact ⟨a', kept, first, by rw [blocks]; rfl⟩
    obtain ⟨x, taken, start, length⟩ := after
    have parcels : q.audioClosed b = [(q.detected b).audioParcel x] := by
      rw [Part.audioClosed, if_pos ends, Option.mem_def.mp taken]
      rfl
    have room : (q.audioClosed b ++ q.talkClosed b).length + q.liu.queue.length ≤ 8 := by
      rw [queues.before.1]
      omega
    refine ⟨(q.detected b).audioParcel x, ?_, rfl, start, length⟩
    rw [queue, Part.mem_enqueues room, parcels]
    exact .inl (List.mem_append_left _ (List.mem_singleton_self _))

end Sys2Proof.Machine

/-! # The sender digest's rows, Station Control's turn, and O45 (R75 to R78). -/

namespace Sys2Proof.Machine

section
variable {p : Part} {b : CaptureBlock}

/-- The sender digest after a contributed block (R75, R76). -/
theorem Part.digestAfter_contributed (contributed : p.contributes b = true) : p.digestAfter b =
    { p.cap.digest.take b.number (b.sum p.settings) b.afterStep with
      spoiled := (p.cap.digest.take b.number (b.sum p.settings) b.afterStep).spoiled || p.moment.stepped } := by
  rw [Part.digestAfter, if_pos contributed]
  dsimp only
  generalize p.cap.digest.take b.number (b.sum p.settings) b.afterStep = r
  by_cases stepped : p.moment.stepped = true
  · rw [if_pos stepped, stepped, Bool.or_true]
  · rw [if_neg stepped, Bool.eq_false_iff.mpr stepped, Bool.or_false]

/-- The AUDIO parcel that a contributed block joins (R71, R76). -/
theorem Part.audioAfter_contributed (contributed : p.contributes b = true) :
    let a := p.cap.audio.getD ⟨b.number, 0, none, []⟩
    p.audioAfter b = some { a with
      blocks := a.blocks ++ [b.programme p.settings]
      digest := if b.number.toNat % 64 = 63 ∧ (p.digestAfter b).spoiled = false then some (p.digestAfter b).sum
        else a.digest } := by
  intro a
  rw [Part.audioAfter, if_pos contributed, joinAssembly_eq, Assembly.withDigest_eq, SenderDigest.completed]
  split
  · rfl
  · rfl

theorem Part.audioAfter_off (off : ¬p.contributes b = true) : p.audioAfter b = p.cap.audio := if_neg off

end

/-- The rows of the sender digest record (R75). -/
theorem SenderDigest.take_rows (r : SenderDigest) (b : BlockNo) (sum : Sample) (afterStep : Bool) :
    let v := r.take b sum afterStep
    let next := r.last = some (b - 1) ∧ r.window = some (b.toNat / 64)
    v.last = some b ∧ v.window = some (b.toNat / 64) ∧
      (b.toNat % 64 = 0 → v.sum = sum ∧ v.spoiled = afterStep) ∧
      (b.toNat % 64 ≠ 0 → next → v.sum = r.sum + sum ∧ v.spoiled = (r.spoiled || afterStep)) ∧
      (b.toNat % 64 ≠ 0 → ¬next → v.spoiled = true) := by
  intro v next
  by_cases first : b.toNat % 64 = 0
  · have begins : v = { window := some (windowOf b), sum := sum, last := some b, spoiled := afterStep } := if_pos first
    rw [begins]
    exact ⟨rfl, rfl, fun _ => ⟨rfl, rfl⟩, fun h => absurd first h, fun h => absurd first h⟩
  · by_cases follows : next
    · have adds : v = { r with sum := r.sum + sum, last := some b, spoiled := r.spoiled || afterStep } :=
        (if_neg first).trans (if_pos follows)
      rw [adds]
      exact ⟨rfl, follows.2, fun h => absurd h first, fun _ _ => ⟨rfl, rfl⟩, fun _ h => absurd follows h⟩
    · have spoils : v = { r with window := some (windowOf b), last := some b, spoiled := true } :=
        (if_neg first).trans (if_neg follows)
      rw [spoils]
      exact ⟨rfl, rfl, fun h => absurd h first, fun _ h => absurd h follows, fun _ _ => rfl⟩

/-- Station Control's turn at a due instant (R77). -/
theorem Part.controlTurn_due {p : Part} (due : p.moment.controlDue = true) : p.controlTurn = { p with
    cap :=
      if p.cap.station = .listening ∧ p.cap.contribute = true ∧ (p.tau.mode = .tracking ∨ p.tau.mode = .holdover) then
        { p.cap with
          station := .onAir
          block := if p.moment.tick = true ∧ .capture ∉ p.moment.done then p.cap.block
            else p.cap.block.map fun b => { b with onAir := true } }
      else p.cap
    moment := { p.moment with controlDue := false } } := by
  have goes : (p.cap.station = .listening ∧ p.cap.contribute = true ∧ p.tau.mode.settled = true) ↔
      p.cap.station = .listening ∧ p.cap.contribute = true ∧ (p.tau.mode = .tracking ∨ p.tau.mode = .holdover) := by
    rw [p.tau.mode.settled_iff]
  have block : (if p.moment.jobDue .capture = true then p.cap.block
        else p.cap.block.map (CaptureBlock.contributed true)) =
      if p.moment.tick = true ∧ .capture ∉ p.moment.done then p.cap.block
        else p.cap.block.map fun b => { b with onAir := true } :=
    if_congr (p.moment.jobDue_iff .capture) rfl rfl
  rw [Part.controlTurn, if_pos due]
  dsimp only
  by_cases on : p.cap.station = .listening ∧ p.cap.contribute = true ∧ (p.tau.mode = .tracking ∨ p.tau.mode = .holdover)
  · rw [if_pos on, if_pos (goes.mpr on), block]
  · rw [if_neg on, if_neg (fun h => on (goes.mp h))]

/-- Settles O45: both commands and the block tick close the block through `Part.Closes`, and the sender digest follows
`SenderDigest.take`. -/
theorem contributionMovesTheStationState : Obligations.ContributionMovesTheStationState := by
  unfold Obligations.ContributionMovesTheStationState
  refine ⟨fun s value => ?_, fun s due => ?_, fun s b due air clear block => ?_, fun s b c idle air block which => ?_,
    fun r b sum afterStep => r.take_rows b sum afterStep⟩
  · have request : (value != 0) = decide (value ≠ 0) := Bool.eq_iff_iff.mpr (by rw [bne_iff_ne, decide_eq_true_iff])
    have message : s.part.message (Part.setContribute value) = { s.part with
        cap := { s.part.cap with contribute := value != 0 }, pnl := s.part.pnl.afterMessage } :=
      Part.message_cap (fun c => { c with contribute := value != 0 }) rfl
    rw [request] at message
    exact next_withPart s message
  · exact next_withPart s (Part.controlTurn_due due)
  · obtain ⟨q, t, ran, closes, queues⟩ := exec_closes (s := s) (c := .leaveOnAir) rfl due ((Cap.leaves_iff air).mpr clear)
    exact ⟨t, ran, closes.left queues block air clear⟩
  · intro lanes samples contributed taken record a joined assembled closes
    have run : ∃ q t, exec c s = .next (s.withPart t) ∧ s.part.Closes q t ∧ s.part.Queues q t := by
      rcases which with ⟨rfl, due, clear⟩ | ⟨rfl, tick, fresh, short⟩
      · exact exec_closes rfl due ((Cap.leaves_iff air).mpr clear)
      · exact blockTick_closes idle tick fresh short
    obtain ⟨q, t, ran, closing, queues⟩ := run
    obtain ⟨station, -⟩ := closing.moves block
    obtain ⟨detectors, digest, audio, -⟩ := closing.worked block idle
    obtain ⟨queue, dropped⟩ := closing.queued block queues idle
    have contributes : s.part.contributes b = true ↔ contributed := Part.contributes_iff air
    have digested : s.part.digestAfter b = if contributed then record else s.part.cap.digest := by
      by_cases joins : contributed
      · rw [if_pos joins, Part.digestAfter_contributed (contributes.mpr joins)]
        rfl
      · rw [if_neg joins]
        exact if_neg fun h => joins (contributes.mp h)
    have assembling : s.part.audioAfter b = assembled := by
      by_cases joins : contributed
      · have taken := Part.audioAfter_contributed (contributes.mpr joins)
        rw [digested, if_pos joins] at taken
        exact taken.trans (if_pos joins).symm
      · exact (Part.audioAfter_off fun h => joins (contributes.mp h)).trans (if_neg joins).symm
    have ends : s.part.closesAudio b = true ↔ closes := by
      rw [Part.closesAudio_iff, Cap.leaves_iff air, assembling]
    refine ⟨t, ran, ?_, digest.trans digested, fun h => ?_, fun h => ?_, s.part.audioClosed b, s.part.talkClosed b,
      queue, dropped, Part.talkClosed_kind, Part.talkClosed_idle, fun h => ?_, fun h => ?_⟩
    · rw [station, air]
      cases on : s.part.cap.contribute with
      | false => exact if_pos ((Cap.leaves_iff air).mpr on)
      | true =>
        refine if_neg fun leaves => ?_
        rw [Cap.leaves_iff air, on] at leaves
        exact absurd leaves (by decide)
    · rw [audio, if_pos (ends.mpr h)]
    · rw [audio, if_neg (fun on => h (ends.mp on)), assembling]
    · exact if_neg fun on => h (ends.mp on)
    · rw [detectors]
      refine (if_pos (ends.mpr h)).trans ?_
      rw [assembling]
      rfl

end Sys2Proof.Machine

/-! # The talk session at a block tick: O46 (R70, R74, R84). -/

namespace Sys2Proof.Machine

section
variable {p : Part} {b : CaptureBlock} (hands : p.cap.station.hands = true)
include hands

/-- The TALK parcel in assembly after a block (R84). -/
theorem Part.talkAfter_eq : p.talkAfter b = match p.cap.session.holds with
    | none => p.cap.talkParcel
    | some d => some { p.cap.talkParcel.getD ⟨b.number, d, none, []⟩ with
        blocks := (p.cap.talkParcel.getD ⟨b.number, d, none, []⟩).blocks ++ [[b.talk]] } := by
  rw [Part.talkAfter, if_pos hands]
  cases p.cap.session.holds with
  | none => rfl
  | some d => exact congrArg some (joinAssembly_eq ..)

theorem Part.closesTalk_iff : p.closesTalk b = true ↔
    p.moment.stepped = true ∨ p.cap.session.closing = true ∨
      ∃ x ∈ p.talkAfter b, p.settings.span ≤ x.blocks.length := by
  rw [Part.closesTalk, hands, Bool.true_and, Bool.or_eq_true, Bool.or_eq_true, assemblyFull_iff, or_assoc, or_comm,
    or_assoc]

theorem Part.sessionMoves_of {after : TalkSession} (advances : p.cap.session.advance = after) (moves : after ≠ p.cap.session) :
    p.sessionMoves = true := by
  rw [Part.sessionMoves, hands, advances]
  exact bne_iff_ne.mpr moves

end

/-- No AUDIO parcel closes in LISTENING with none in assembly. -/
theorem Part.audioClosed_listening {p : Part} {b : CaptureBlock} (station : p.cap.station = .listening)
    (none : p.cap.audio = none) : p.audioClosed b = [] := by
  have off : ¬p.contributes b = true := by simp [Part.contributes, station]
  rw [Part.audioClosed, Part.audioAfter_off off, none]
  exact ite_self _

/-- A session moves on at every tick but from IDLE and OPEN (R84). -/
theorem TalkSession.advance_ne {x : TalkSession} (idle : x ≠ .idle) (opened : ∀ d, x ≠ .opened d) : x.advance ≠ x := by
  cases x with
  | idle => exact absurd rfl idle
  | opened d => exact absurd rfl (opened d)
  | starting d => exact TalkSession.noConfusion
  | ending d => exact TalkSession.noConfusion
  | switching d next => exact TalkSession.noConfusion

/-- A session that ends or changes destination closes a TALK parcel with END, one of a single block if none was in
assembly. -/
theorem Part.Closes.ended {p q t : Part} {b : CaptureBlock} {d : Byte} (closes : p.Closes q t) (queues : p.Queues q t)
    (block : p.cap.block = some b) (hands : p.cap.station.hands = true) (closing : p.cap.session.closing = true)
    (holds : p.cap.session.holds = some d) :
    t.cap.talkParcel = none ∧ (p.cap.talkParcel = none → p.liu.queue.length ≤ 6 →
      ∃ x ∈ t.liu.queue, x.kind = .talk ∧ x.endFlag = true ∧ x.destination = d ∧ x.firstBlock = b.number ∧
        x.blocks = [[b.talk]]) := by
  have held := closes.found.block.trans block
  have hands' : q.cap.station.hands = true := by rw [closes.found.cap]; exact hands
  have session : q.cap.session = p.cap.session := by rw [closes.found.cap]
  have parcel : q.cap.talkParcel = p.cap.talkParcel := by rw [closes.found.cap]
  have closing' : q.cap.session.closing = true := by rw [session]; exact closing
  have ends : q.closesTalk b = true := (Part.closesTalk_iff hands').mpr (.inr (.inl closing'))
  refine ⟨?_, fun none short => ?_⟩
  · rw [closes.cap.trans (Part.captureTick_cap held), Part.capTicked, Part.capClosed, if_pos ends]
  · have queue : t.liu.queue = (q.enqueues (q.audioClosed b ++ q.talkClosed b)).liu.queue :=
      queues.after.1.trans (Part.captureTick_queue held).1
    have few := Part.closed_length (p := q) (b := b)
    have assembled : q.talkAfter b = some ⟨b.number, d, Option.none, [[b.talk]]⟩ := by
      rw [Part.talkAfter_eq hands', session, holds, parcel, none]
      rfl
    have created : q.talkClosed b = [talkParcelOf true ⟨b.number, d, Option.none, [[b.talk]]⟩] := by
      rw [Part.talkClosed, if_pos ends, assembled, closing']
      rfl
    have room : (q.audioClosed b ++ q.talkClosed b).length + q.liu.queue.length ≤ 8 := by
      rw [queues.before.1]
      omega
    refine ⟨talkParcelOf true ⟨b.number, d, Option.none, [[b.talk]]⟩, ?_, rfl, rfl, rfl, rfl, rfl⟩
    rw [queue, Part.mem_enqueues room, created]
    exact .inl (List.mem_append_right _ (List.mem_singleton_self _))

/-- Settles O46: the command and the block tick close the block through `Part.Closes`. -/
theorem talkSessionAdvancesAtTheTick : Obligations.TalkSessionAdvancesAtTheTick := by
  unfold Obligations.TalkSessionAdvancesAtTheTick
  refine ⟨fun s b due block station => ?_, fun s b c idle station block which => ?_⟩
  · have hands : s.part.cap.station.hands = true := (StationState.hands_iff _).mpr station
    have run {after : TalkSession} (advances : s.part.cap.session.advance = after) (moves : after ≠ s.part.cap.session) :
        ∃ q t, exec .talkSessionAdvance s = .next (s.withPart t) ∧ s.part.Closes q t ∧ s.part.Queues q t ∧
          t.cap.session = after := by
      obtain ⟨q, t, ran, closes, queues⟩ := exec_closes (s := s) (c := .talkSessionAdvance) rfl due
        (Part.sessionMoves_of hands advances moves)
      refine ⟨q, t, ran, closes, queues, ?_⟩
      rw [(closes.moves block).2, if_pos hands, advances]
    refine ⟨fun d starting => ?_, fun d d' after ends => ?_⟩
    · obtain ⟨q, t, ran, -, -, session⟩ := run (after := .opened d) (by rw [starting]; rfl)
        (by rw [starting]; exact TalkSession.noConfusion)
      exact ⟨t, ran, session⟩
    · have table : s.part.cap.session.advance = after ∧ after ≠ s.part.cap.session ∧
          s.part.cap.session.closing = true ∧ s.part.cap.session.holds = some d := by
        rcases ends with ⟨session, rfl⟩ | ⟨session, rfl⟩
        · rw [session]
          exact ⟨rfl, TalkSession.noConfusion, rfl, rfl⟩
        · rw [session]
          exact ⟨rfl, TalkSession.noConfusion, rfl, rfl⟩
      obtain ⟨advances, moves, closing, holds⟩ := table
      obtain ⟨q, t, ran, closes, queues, session⟩ := run advances moves
      exact ⟨t, ran, session, closes.ended queues block hands closing holds⟩
  · intro held ends assembled closes
    have hands : s.part.cap.station.hands = true := (StationState.hands_iff _).mpr station
    have run : ∃ q t, exec c s = .next (s.withPart t) ∧ s.part.Closes q t ∧ s.part.Queues q t := by
      rcases which with ⟨rfl, due, talks, moves⟩ | ⟨rfl, tick, fresh, short⟩
      · exact exec_closes rfl due (Part.sessionMoves_of hands rfl (TalkSession.advance_ne talks moves))
      · exact blockTick_closes idle tick fresh short
    obtain ⟨q, t, ran, closing, queues⟩ := run
    obtain ⟨-, session⟩ := closing.moves block
    obtain ⟨-, -, -, talkParcel⟩ := closing.worked block idle
    obtain ⟨queue, dropped⟩ := closing.queued block queues idle
    have holds : s.part.cap.session.holds = held := by
      cases h : s.part.cap.session <;> simp [held, h, TalkSession.holds]
    have ending : s.part.cap.session.closing = ends := by
      cases h : s.part.cap.session <;> simp [ends, h, TalkSession.closing]
    have assembling : s.part.talkAfter b = assembled := by
      have after := Part.talkAfter_eq (b := b) hands
      rw [holds] at after
      exact after
    have closed : s.part.closesTalk b = true ↔ closes := by
      rw [Part.closesTalk_iff hands, ending, assembling]
    refine ⟨t, ran, ?_, fun h => ?_, fun h => ?_, s.part.audioClosed b, s.part.talkClosed b, queue, dropped,
      Part.audioClosed_kind, Part.audioClosed_listening, fun h => ?_, fun h => ?_⟩
    · rw [session, if_pos hands]
      cases s.part.cap.session <;> rfl
    · rw [talkParcel, if_pos (closed.mpr h)]
    · rw [talkParcel, if_neg (fun on => h (closed.mp on)), assembling]
    · exact if_neg fun on => h (closed.mp on)
    · refine (if_pos (closed.mpr h)).trans ?_
      rw [assembling, ending]
      rfl

end Sys2Proof.Machine

/-! # What the jobs of a block tick leave to the mix and to the other turns of the moment (R46, R142, log 1). -/

namespace Sys2Proof.Machine

/-- What the jobs of a block tick keep: the turns due, that playout is started or not, and while it is not, the groups
and the duck level. -/
structure Part.TicksOn (p q : Part) : Prop where
  sul : q.sul = p.sul
  settings : q.settings = p.settings
  trimDue : q.moment.trimDue = p.moment.trimDue
  pluDue : q.moment.pluDue = p.moment.pluDue
  controlDue : q.moment.controlDue = p.moment.controlDue
  owed : p.plu.owed = none → q.plu.owed = none
  stopped : q.plu.position = none ↔ p.plu.position = none
  outside : p.cap.station ≠ .loading → q.cap.station ≠ .loading
  mix : p.plu.position = none →
    q.mxe.groups = p.mxe.groups ∧ q.mxe.duckLevel = p.mxe.duckLevel ∧ q.mxe.duckRamp = p.mxe.duckRamp

namespace Part.TicksOn

theorem refl (p : Part) : p.TicksOn p := ⟨rfl, rfl, rfl, rfl, rfl, id, Iff.rfl, id, fun _ => ⟨rfl, rfl, rfl⟩⟩

theorem trans {p q r : Part} (h : p.TicksOn q) (h' : q.TicksOn r) : p.TicksOn r := by
  refine ⟨h'.sul.trans h.sul, h'.settings.trans h.settings, h'.trimDue.trans h.trimDue, h'.pluDue.trans h.pluDue,
    h'.controlDue.trans h.controlDue, h'.owed ∘ h.owed, h'.stopped.trans h.stopped, h'.outside ∘ h.outside, fun still => ?_⟩
  obtain ⟨groups, level, ramp⟩ := h.mix still
  obtain ⟨groups', level', ramp'⟩ := h'.mix (h.stopped.mpr still)
  exact ⟨groups'.trans groups, level'.trans level, ramp'.trans ramp⟩

theorem took (j : TickJob) (p : Part) : p.TicksOn { p with moment := p.moment.took j } :=
  ⟨rfl, rfl, rfl, rfl, rfl, id, Iff.rfl, id, fun _ => ⟨rfl, rfl, rfl⟩⟩

theorem counts {p q : Part} (h : p.CountsOn q) : p.TicksOn q := by
  obtain ⟨sul, settings, -, cap, plu, mxe, moment, -⟩ := h
  refine ⟨sul, settings, by rw [moment], by rw [moment], by rw [moment], fun owed => ?_, by rw [plu], ?_,
    fun _ => ⟨by rw [mxe], by rw [mxe], by rw [mxe]⟩⟩
  · rw [plu]
    exact owed
  · rw [cap]
    exact id

theorem tauWork (p : Part) : p.TicksOn p.tauWork := by
  by_cases due : p.moment.tauDue = true
  · have works := Part.tauWork_worksTime due
    have steps := p.tauWork_stepsTime
    generalize p.tauWork = q at works steps
    obtain ⟨sul, settings, -, -, cap, -, moment⟩ := works
    refine ⟨sul, settings, by rw [moment]; rfl, by rw [moment]; rfl, by rw [moment]; rfl, steps.owed, steps.stopped, ?_,
      fun still => ?_⟩
    · rw [cap]
      exact id
    · obtain ⟨-, -, mxe, -⟩ := steps.idle still
      exact ⟨by rw [mxe], by rw [mxe], by rw [mxe]⟩
  · rw [Part.tauWork_taken p (Bool.eq_false_iff.mpr due)]
    exact refl p

end Part.TicksOn

/-- No closing brings the station to LOADING. -/
theorem Part.captureTick_outside {p : Part} (h : p.cap.station ≠ .loading) : p.captureTick.cap.station ≠ .loading := by
  have closed : p.closeBlock.cap.station = p.cap.station := by
    cases block : p.cap.block with
    | none => rw [Part.closeBlock, block]
    | some b =>
      rw [Part.closeBlock_eq block, Part.enqueues_cap]
      rfl
  rw [p.captureTick_withCap]
  change (if p.closeBlock.cap.leaves then StationState.listening else p.closeBlock.cap.station) ≠ .loading
  split
  · exact StationState.noConfusion
  · rw [closed]
    exact h

namespace Part.TicksOn

theorem captureTick (p : Part) : p.TicksOn p.captureTick := by
  have closes := p.captureTick_closesOn
  have outside := Part.captureTick_outside (p := p)
  generalize p.captureTick = q at closes outside
  exact ⟨closes.sul, closes.settings, by rw [closes.moment], by rw [closes.moment], by rw [closes.moment],
    fun owed => by rw [closes.plu]; exact owed, by rw [closes.plu], outside,
    fun _ => ⟨by rw [closes.mxe], by rw [closes.mxe], by rw [closes.mxe]⟩⟩

theorem runJob (j : TickJob) (p : Part) : p.TicksOn (p.runJob j) := by
  by_cases closing : j = .capture
  · subst closing
    by_cases due : p.moment.jobDue .capture = true
    · rw [Part.runJob_due due]
      exact (took .capture p).trans ((tauWork _).trans (captureTick _))
    · rw [Part.runJob, Part.takeJob, if_neg due]
      exact refl p
  · exact counts (.runJob closing p)

theorem runJobs (js : List TickJob) (p : Part) : p.TicksOn (p.runJobs js) := by
  induction js generalizing p with
  | nil => exact refl p
  | cons j js ih => exact (runJob j p).trans (ih _)

end Part.TicksOn

end Sys2Proof.Machine

/-! # The ramps and the duck level at each mix boundary: O38 (R142, R149, R156). -/

namespace Sys2Proof.Machine

/-- The ramps and the duck level of a boundary, from the part before it to the one after. -/
def Part.BoundaryAt (p t : Part) : Prop := p.RampsAt t ∧ p.DucksAt t

theorem Part.Bounded.boundary {p t : Part} {suspect : Station → Bool} (h : p.Bounded t suspect) : p.BoundaryAt t :=
  ⟨h.ramps, h.ducks⟩

/-- The boundary reads the groups, the duck gain and the duck level alone. -/
theorem Part.BoundaryAt.of_same {p q t : Part} (h : q.BoundaryAt t) (own : q.sul.own = p.sul.own)
    (settings : q.settings = p.settings) (groups : q.mxe.groups = p.mxe.groups)
    (level : q.mxe.duckLevel = p.mxe.duckLevel) (ramp : q.mxe.duckRamp = p.mxe.duckRamp) : p.BoundaryAt t := by
  obtain ⟨ramps, ducks⟩ := h
  unfold Part.RampsAt at ramps
  unfold Part.DucksAt at ducks
  rw [groups] at ramps
  rw [own, settings, level, ramp] at ducks
  exact ⟨ramps, ducks⟩

/-! ## The rows of a ramp and of the duck level -/

section
variable {p t : Part} (h : p.RampsAt t) (g : GroupIx)
include h

theorem Part.RampsAt.still (none : p.mxe.groups[g].ramp = none) : t.mxe.groups[g] = p.mxe.groups[g] := by
  rw [h g, none]

theorem Part.RampsAt.ended {r : GroupRamp} (runs : p.mxe.groups[g].ramp = some r) (last : r.length ≤ r.k + 1) :
    t.mxe.groups[g] = { p.mxe.groups[g] with gain := p.mxe.groups[g].target, ramp := none } := by
  rw [h g, runs]
  exact if_pos last

theorem Part.RampsAt.goes {r : GroupRamp} (runs : p.mxe.groups[g].ramp = some r) (short : r.k + 1 < r.length) :
    let n : Int := r.length
    let k : Int := r.k + 1
    let way : Int := (p.mxe.groups[g].target : Int) - r.start
    t.mxe.groups[g] = { p.mxe.groups[g] with
      gain := ((r.start : Int) + match r.shape with
        | .linear => Int.tdiv (way * k) n
        | .eased => Int.tdiv (way * (3 * k ^ 2 * n - 2 * k ^ 3)) (n ^ 3)).toNat
      ramp := some { r with k := r.k + 1 } } := by
  rw [h g, runs]
  exact if_neg (Nat.not_le.mpr short)

end

/-- The rows of the duck level for an aim (R156). -/
theorem DuckMoves.rows {aim level level' : Nat} {ramp ramp' : Option DuckRamp} (h : DuckMoves aim level ramp level' ramp') :
    let begun : Int → Nat := fun start => (start + Int.tdiv (((aim : Int) - start) * 1) 10).toNat
    (ramp = none → level = aim → level' = level ∧ ramp' = none) ∧
    (ramp = none → level ≠ aim → level' = begun level ∧ ramp' = some ⟨level, aim, 1⟩) ∧
    (∀ r : DuckRamp, ramp = some r → r.aim ≠ aim → level' = begun level ∧ ramp' = some ⟨level, aim, 1⟩) ∧
    (∀ r : DuckRamp, ramp = some r → r.aim = aim → 9 ≤ r.k → level' = aim ∧ ramp' = none) ∧
    ∀ r : DuckRamp, ramp = some r → r.aim = aim → r.k < 9 →
      level' = ((r.start : Int) + Int.tdiv (((aim : Int) - r.start) * (r.k + 1)) 10).toNat ∧
      ramp' = some ⟨r.start, aim, r.k + 1⟩ := by
  intro begun
  obtain ⟨still, last, short⟩ := h
  refine ⟨?_, ?_, ?_, ?_, ?_⟩
  · rintro rfl rfl
    exact still ⟨rfl, rfl⟩
  · rintro rfl other
    exact short (fun rest => other rest.2) (Nat.zero_lt_succ 8)
  · rintro r rfl other
    have begins := short (fun rest => absurd rest.1 (Option.some_ne_none r))
    dsimp only at begins
    rw [if_neg other] at begins
    exact begins (Nat.zero_lt_succ 8)
  · rintro r rfl same
    have ends := last (fun rest => absurd rest.1 (Option.some_ne_none r))
    dsimp only at ends
    rw [if_pos same] at ends
    exact ends
  · rintro r rfl same
    have goes := short (fun rest => absurd rest.1 (Option.some_ne_none r))
    dsimp only at goes
    rw [if_pos same] at goes
    rw [← same] at goes ⊢
    exact goes

/-- The aim of a boundary: the duck gain while a peer's talk lane plays, full level otherwise (R156). -/
theorem Part.DucksAt.moves {p t : Part} (h : p.DucksAt t) {aim : Nat} (aims :
    (∃ x : Station, x ≠ p.sul.own ∧
        ((t.plu.lane x talkLane).state = .playing ∨ (t.plu.lane x talkLane).state = .recovering)) ∧
      aim = p.settings.duckGain ∨
    (∀ x : Station, x ≠ p.sul.own →
      (t.plu.lane x talkLane).state ≠ .playing ∧ (t.plu.lane x talkLane).state ≠ .recovering) ∧ aim = 32768) :
    DuckMoves aim p.mxe.duckLevel p.mxe.duckRamp t.mxe.duckLevel t.mxe.duckRamp := by
  unfold Part.DucksAt at h
  rcases aims with ⟨talks, rfl⟩ | ⟨quiet, rfl⟩
  · rw [if_pos talks] at h
    exact h
  · rw [if_neg (by rintro ⟨x, peer, plays⟩; exact plays.elim (quiet x peer).1 (quiet x peer).2)] at h
    exact h

/-! ## The boundaries -/

/-- A move that leaves its block is a boundary (R113, R142). -/
theorem Part.takeMove_boundary {p : Part} {pos : SampleCount} {m : Move} (owed : p.plu.owed = some m)
    (at_ : p.plu.position = some pos) (order : CrossOrder)
    (leaves : 2 ^ 48 ≤ pos.toNat + p.owedStep pos m ∨
      blockOf (pos + BitVec.ofNat 48 (p.owedStep pos m)) ≠ blockOf pos) : p.BoundaryAt (p.takeMove order) := by
  by_cases past : 2 ^ 48 ≤ pos.toNat + p.owedStep pos m
  · exact (Part.takeMove_reanchored owed at_ order past).entered.bounded.boundary
  · exact (Part.takeMove_crossed owed at_ order (Nat.not_le.mp past) (leaves.resolve_left past)).entered.bounded.boundary

/-- A block tick while playout is not started is a boundary (R142). -/
theorem Part.tickWork_boundary {p : Part} (tick : p.moment.tick = true) (outside : p.cap.station ≠ .loading)
    (stopped : p.plu.position = none) : p.BoundaryAt p.tickWork := by
  have ticks := Part.TicksOn.runJobs tickJobs p
  rw [Part.tickWork, if_pos tick]
  generalize p.runJobs tickJobs = q at ticks
  obtain ⟨groups, level, ramp⟩ := ticks.mix stopped
  have idle : q.started = false := by rw [Part.started, ticks.stopped.mpr stopped]; rfl
  have boundary : q.idleBoundary = q.mixBoundary :=
    if_pos (Bool.and_eq_true_iff.mpr ⟨Part.running_of (ticks.outside outside), congrArg (! ·) idle⟩)
  have bounded : q.BoundaryAt q.mixBoundary.endTick := q.mixBoundary_bounded.boundary
  rw [boundary]
  exact bounded.of_same (congrArg Sul.own ticks.sul) ticks.settings groups level ramp

/-- Settles O38: every command named takes a mix boundary, whose rows are `Part.RampsAt` and `DuckMoves.rows`. -/
theorem rampsAdvanceAtABoundary : Obligations.RampsAdvanceAtABoundary := by
  intro s c which
  have run : ∃ t, exec c s = .next (s.withPart t) ∧ s.part.BoundaryAt t := by
    rcases which with ⟨slots, talk, order, pos, rfl, idle, owed, at_, leaves, short⟩ |
      ⟨order, pos, rfl, owed, at_, leaves⟩ | ⟨rfl, due, stopped, settled, peers⟩ |
      ⟨rfl, due, outside, tracking, echo, peers, large, run, placed, far⟩ | ⟨rfl, tick, outside, stopped⟩
    · have acts := Part.samplePeriod_stepping idle owed at_ short ⟨slots, talk⟩ order
      have boundary := Part.takeMove_boundary (p := s.part.stepping ⟨slots, talk⟩) (m := .step) rfl at_ order leaves
      generalize (s.part.stepping ⟨slots, talk⟩).takeMove order = t at acts boundary
      exact ⟨t, next_withPart s acts, boundary.of_same rfl rfl rfl rfl rfl⟩
    · rw [at_] at leaves
      exact ⟨_, next_withPart s (if_pos owed), Part.takeMove_boundary owed at_ order leaves⟩
    · have acts := (Part.startTurn_due due stopped).trans (if_pos ⟨settled, peers⟩)
      have started := Part.beginPlayout_started (p := s.part.pluTurn) peers
      generalize s.part.pluTurn.beginPlayout = t at acts started
      exact ⟨t, next_withPart s acts, started.entered.bounded.boundary.of_same rfl rfl rfl rfl rfl⟩
    · obtain ⟨falls, work⟩ := Part.largeRun_steps due outside tracking echo peers large run
      obtain ⟨-, steps⟩ := largeRunTakesAStep
      have anchored := steps { s.part with
        tau := { s.part.tau with emptyRun := 0, largeRun := 0 }
        moment := { s.part.moment with tauDue := false } } s.part.trackingError
      obtain ⟨-, -, -, -, -, -, -, -, -, anchored⟩ := anchored
      obtain ⟨-, -, -, -, -, -, -, -, -, -, -, -, ramps, ducks⟩ := anchored ⟨placed, far⟩
      exact ⟨_, next_withPart s ((if_pos falls).trans work), ramps, ducks⟩
    · exact ⟨_, rfl, Part.tickWork_boundary tick outside stopped⟩
  obtain ⟨t, ran, ramps, ducks⟩ := run
  exact ⟨t, ran, fun g => ramps.still g, fun g r => ramps.ended g, fun g r => ramps.goes g,
    fun aim aims => (ducks.moves aims).rows⟩

end Sys2Proof.Machine

/-! # What an output carries, what a switch hands over and what a lane plays (R128, R137, R139, R145, R154 to R159). -/

namespace Sys2Proof.Machine

/-! ## Sums -/

theorem sumBy_eq {α : Type} (f : α → Int) (xs : List α) : sumBy f xs = (xs.map f).sum := by
  rw [← sumBy_id, sumBy, sumBy, List.foldl_map]
  rfl

theorem sumBy_congr {α : Type} {f g : α → Int} {xs : List α} (h : ∀ x ∈ xs, f x = g x) : sumBy f xs = sumBy g xs := by
  rw [sumBy_eq, sumBy_eq, List.map_congr_left h]

/-- A sum over the entries that count is that of a list filtered. -/
theorem sumBy_filter {α : Type} (on : α → Prop) [DecidablePred on] (f : α → Int) (xs : List α) :
    sumBy (fun x => if on x then f x else 0) xs = ((xs.filter fun x => on x).map f).sum := by
  rw [sumBy_eq]
  induction xs with
  | nil => rfl
  | cons x xs ih =>
    rw [List.map_cons, List.sum_cons, ih]
    by_cases h : on x
    · rw [List.filter_cons_of_pos (p := fun x => decide (on x)) (decide_eq_true h), if_pos h, List.map_cons, List.sum_cons]
    · rw [List.filter_cons_of_neg (p := fun x => decide (on x)) (by rw [decide_eq_true_iff]; exact h), if_neg h, Int.zero_add]

/-! ## The groups and the programme -/

/-- A group takes each peer lane that resolved to it, 0 from a station held suspect, and no lane of the own number (R145,
R146, R158). -/
theorem Part.groupSum_eq (p : Part) (g : GroupIx) (i : Nat) : p.groupSum g i =
    (((List.finRange 16).filter fun x : Station => x ≠ p.sul.own).map fun x =>
      (((List.finRange 8).filter fun k : ProgLane => (p.mxe.resolved[x][k]).val = g.val + 1).map fun k =>
        if p.mxe.silenced[x] = true then 0 else p.switchSample x k i).sum).sum := by
  rw [← sumBy_filter]
  refine sumBy_congr fun x _ => ?_
  by_cases own : x = p.sul.own
  · have none (k : ProgLane) : p.contribution x k i = 0 := by
      have off : p.isPeer x = false := by simp [Part.isPeer, own]
      rw [Part.contribution, off]
      rfl
    rw [if_neg (not_not.mpr own), sumBy_filter (fun k : ProgLane => (p.mxe.resolved[x][k]).val = g.val + 1)]
    refine List.sum_eq_zero fun v mem => ?_
    obtain ⟨k, -, rfl⟩ := List.mem_map.mp mem
    exact none k
  · rw [if_pos own, ← sumBy_filter]
    refine sumBy_congr fun k _ => if_congr Iff.rfl ?_ rfl
    have peer : p.isPeer x = true := (p.isPeer_iff x).mpr own
    rw [Part.contribution, peer]
    cases p.mxe.silenced[x] <;> rfl

/-- The talk sum takes the talk lane of each peer (R155). -/
theorem Part.talkSum_eq (p : Part) (i : Nat) : p.talkSum i =
    (((List.finRange 16).filter fun x : Station => x ≠ p.sul.own).map fun x =>
      (p.plu.lane x talkLane).sampleAt i).sum := by
  rw [← sumBy_filter]
  exact sumBy_congr fun x _ => if_congr (p.isPeer_iff x) rfl rfl

theorem bankResult_eq (scaled : GroupIx → Int) (bank : MatrixBank) (o : OutputNo) : bankResult scaled bank o =
    ((List.finRange 8).map fun g : GroupIx => Int.fdiv (scaled g * bank[o][g]) 32768).sum := sumBy_eq ..

/-- The value of an output before saturation, and as driven (R154, R155, R158 to R160). -/
theorem Part.output_values (p : Part) (o : OutputNo) (i : Nat) :
    let peers := (List.finRange 16).filter fun x : Station => x ≠ p.sul.own
    let group : GroupIx → Int := fun g => (peers.map fun x =>
      (((List.finRange 8).filter fun k : ProgLane => (p.mxe.resolved[x][k]).val = g.val + 1).map fun k =>
        if p.mxe.silenced[x] = true then 0 else p.switchSample x k i).sum).sum
    let scaled : GroupIx → Int := fun g => Int.fdiv (group g * p.mxe.groups[g].gain) 32768
    let result : MatrixBank → Int := fun bank =>
      ((List.finRange 8).map fun g : GroupIx => Int.fdiv (scaled g * bank[o][g]) 32768).sum
    let programme :=
      if p.mxe.crossfade = true then
        Int.tdiv (result p.mxe.active * i) 48 + Int.tdiv (result p.mxe.pendingBank * (48 - (i : Int))) 48
      else result p.mxe.active
    let ducked :=
      if p.settings.outputs[o].duckOnTalk = true then Int.fdiv (programme * p.mxe.duckLevel) 32768 else programme
    let talk := (peers.map fun x => (p.plu.lane x talkLane).sampleAt i).sum
    p.unsaturated o i = ducked + (if p.settings.outputs[o].talkReceive = true then talk else 0) ∧
      p.outputValue o i =
        reduceWord p.settings.outputs[o] p.mxe.dither[o] (max (-8388608) (min 8388607 (p.unsaturated o i))) := by
  intro peers group scaled result programme ducked talk
  have groups : (fun g => p.scaledGroup g i) = scaled := by
    funext g
    rw [Part.scaledGroup, p.groupSum_eq g i]
    rfl
  have results (bank : MatrixBank) : bankResult scaled bank o = result bank := bankResult_eq scaled bank o
  have blended : p.programme o i = programme := by
    rw [Part.programme, groups, results, results]
    rfl
  refine ⟨?_, rfl⟩
  rw [Part.unsaturated, blended, p.talkSum_eq i]
  rfl

/-! ## What a switch hands over and what a lane plays -/

/-- The output of a fallback switch (R137, R139). -/
theorem Part.switchSample_rows (p : Part) (x : Station) (k u : ProgLane) (i : Nat) :
    let w := p.mxe.switches[x][k]
    let own := (p.plu.lane x k.lane).sampleAt i
    let other := (p.plu.lane x u.lane).sampleAt i
    let fade : Int → Int → Int := fun from_ to_ => Int.tdiv (to_ * i) 48 + Int.tdiv (from_ * (48 - (i : Int))) 48
    (w.state = .onPrimary → p.switchSample x k i = own) ∧
      (w.inUse = some u → w.state = .toFallback → p.switchSample x k i = fade own other) ∧
      (w.inUse = some u → w.state = .onFallback → p.switchSample x k i = other) ∧
      (w.inUse = some u → w.state = .toPrimary → p.switchSample x k i = fade other own) := by
  intro w own other fade
  unfold Part.switchSample
  refine ⟨fun state => ?_, fun uses state => ?_, fun uses state => ?_, fun uses state => ?_⟩
  · dsimp only
    rw [state]
  · dsimp only
    rw [state, uses]
    rfl
  · dsimp only
    rw [state, uses]
  · dsimp only
    rw [state, uses]
    rfl

/-- The sample that a lane hands over in each state (R128). -/
theorem LaneRecord.sampleAt_rows (r : LaneRecord) (i : Nat) :
    let c := (r.copy.getD i 0).toInt
    (r.state = .playing → r.sampleAt i = c) ∧ (r.state = .recovering → r.sampleAt i = Int.tdiv (c * i) 48) ∧
      (∀ n, r.state = .concealing n →
        r.sampleAt i = Int.tdiv (c * (96 - (i : Int))) (96 * 2 ^ n.val)) ∧
      (r.state = .muted ∨ r.state = .idle → r.sampleAt i = 0) := by
  intro c
  unfold LaneRecord.sampleAt
  refine ⟨fun state => ?_, fun state => ?_, fun n state => ?_, fun state => ?_⟩
  · rw [state]
  · rw [state]
    rfl
  · rw [state]
    rfl
  · rcases state with state | state
    · rw [state]
    · rw [state]

end Sys2Proof.Machine

/-! # The moment that a sample period settles, and O35 (R45, R113, log 1). -/

namespace Sys2Proof.Machine

/-! ## What is taken once is not taken again -/

theorem Part.takeMove_owed (order : CrossOrder) (p : Part) :
    p.takeMove order = p ∨ (p.takeMove order).plu.owed = none := by
  cases owed : p.plu.owed with
  | none => exact .inl (Part.takeMove_idle (.inl owed) order)
  | some m =>
    cases at_ : p.plu.position with
    | none => exact .inl (Part.takeMove_idle (.inr at_) order)
    | some pos =>
      have plu := Part.takeMove_plu owed at_ order
      generalize p.takeMove order = q at plu
      right
      rw [plu]

theorem Part.takeMove_again (order order' : CrossOrder) (p : Part) :
    (p.takeMove order).takeMove order' = p.takeMove order ∨ p.takeMove order = p := by
  rcases p.takeMove_owed order with same | none
  · exact .inr same
  · exact .inl (Part.takeMove_idle (.inl none) order')

theorem Part.settle_takeMove (p : Part) : (p.takeMove .evaluationFirst).settle = p.settle := by
  rcases p.takeMove_again .evaluationFirst .evaluationFirst with again | same
  · rw [Part.settle, again, Part.settle]
  · rw [same]

/-- With no move owed, the moment settles from the agreement instant on. -/
theorem Part.settle_unowed {p : Part} (owed : p.plu.owed = none) :
    p.settle = (((p.agreementWork .timeFirst).controlTurn).startTurn).tickWork := by
  rw [Part.settle, Part.takeMove_idle (.inl owed)]

/-- A turn that leaves no move owed and none of the earlier turns due is taken by the moment's settling. -/
theorem Part.settle_agreed {p : Part} (owed : p.plu.owed = none) (due : p.moment.trimDue = false) :
    p.settle = (p.controlTurn.startTurn).tickWork := by
  rw [Part.settle_unowed owed, Part.agreementWork_not_due due]

theorem Part.settle_controlled {p : Part} (owed : p.plu.owed = none) (due : p.moment.trimDue = false)
    (control : p.moment.controlDue = false) : p.settle = p.startTurn.tickWork := by
  rw [Part.settle_agreed owed due, Part.controlTurn_not_due control]

/-- The Playout Unit's turn waits when it is not due or playout is started. -/
theorem Part.startTurn_waits {p : Part} (h : p.moment.pluDue = false ∨ p.plu.position ≠ none) : p.startTurn = p := by
  rcases h with due | started
  · exact Part.startTurn_not_due due
  · have on : p.started = true := Option.isSome_iff_ne_none.mpr started
    rw [Part.startTurn, on, Bool.not_true, Bool.and_false]
    rfl

theorem Part.settle_ticks {p : Part} (owed : p.plu.owed = none) (due : p.moment.trimDue = false)
    (control : p.moment.controlDue = false) (start : p.moment.pluDue = false ∨ p.plu.position ≠ none) :
    p.settle = p.tickWork := by
  rw [Part.settle_controlled owed due control, Part.startTurn_waits start]

/-! ## Each turn, taken by its command and then settled -/

theorem Part.targetTurn_owed (p : Part) : p.targetTurn.plu.owed = p.plu.owed := by
  by_cases forms : p.Forms
  · rw [Part.targetTurn_forms forms]
  · rw [Part.targetTurn_waits forms]

/-- With no move owed, the whole of an instant leaves none owed, and its trim word sent. -/
theorem Part.agreementWork_after {p : Part} (owed : p.plu.owed = none) (due : p.moment.trimDue = true) :
    (p.agreementWork .timeFirst).plu.owed = none ∧ (p.agreementWork .timeFirst).moment.trimDue = false := by
  have unowed := p.tauWork_stepsTime.owed owed
  rw [Part.agreementWork_timeFirst due]
  generalize p.tauWork = q at unowed
  have after : q.trimTurn.targetTurn.plu.owed = none := (Part.targetTurn_owed _).trans unowed
  have moment := q.trimTurn.targetTurn_moment
  have sent : q.trimTurn.moment.trimDue = false := rfl
  generalize q.trimTurn = r at after moment sent
  generalize r.targetTurn = u at after moment
  have same : u.completeStep = u := by
    rw [Part.completeStep, after]
    rfl
  rw [same]
  exact ⟨after, by rw [moment]; exact sent⟩

theorem Part.settle_agreementWork {p : Part} (owed : p.plu.owed = none) :
    (p.agreementWork .timeFirst).settle = p.settle := by
  by_cases due : p.moment.trimDue = true
  · obtain ⟨unowed, sent⟩ := Part.agreementWork_after owed due
    rw [Part.settle_unowed owed]
    generalize p.agreementWork .timeFirst = q at unowed sent
    exact Part.settle_agreed unowed sent
  · rw [Part.agreementWork_not_due (Bool.eq_false_iff.mpr due)]

theorem Part.settle_controlTurn {p : Part} (owed : p.plu.owed = none) (due : p.moment.trimDue = false) :
    p.controlTurn.settle = p.settle := by
  by_cases control : p.moment.controlDue = true
  · have turn := Part.controlTurn_due control
    rw [Part.settle_agreed owed due]
    generalize p.controlTurn = q at turn
    exact Part.settle_controlled (by rw [turn]; exact owed) (by rw [turn]; exact due) (by rw [turn])
  · rw [Part.controlTurn_not_due (Bool.eq_false_iff.mpr control)]

theorem Part.settle_startTurn {p : Part} (owed : p.plu.owed = none) (due : p.moment.trimDue = false)
    (control : p.moment.controlDue = false) : p.startTurn.settle = p.settle := by
  by_cases waits : p.moment.pluDue = false ∨ p.plu.position ≠ none
  · rw [Part.startTurn_waits waits]
  · obtain ⟨start, stopped⟩ := not_or.mp waits
    have turn := Part.startTurn_due (Bool.not_eq_false _ ▸ start) (not_not.mp stopped)
    rw [Part.settle_controlled owed due control, turn]
    split
    · next starts =>
      have started := Part.beginPlayout_started (p := p.pluTurn) starts.2
      generalize p.pluTurn.beginPlayout = q at started
      have moment := started.moves.plays.moment
      exact Part.settle_ticks (by rw [started.plu]) (by rw [moment]; exact due) (by rw [moment]; exact control)
        (.inl (by rw [moment]; rfl))
    · exact Part.settle_ticks (p := p.pluTurn) owed due control (.inl rfl)

/-- The mix boundary and the end of a tick leave playout and the other turns of the moment. -/
theorem Part.endTick_turns (p : Part) : p.idleBoundary.endTick.plu = p.plu ∧
    p.idleBoundary.endTick.moment = { p.moment with tick := false, done := [] } := by
  have boundary : p.idleBoundary.plu = p.plu ∧ p.idleBoundary.moment = p.moment := by
    unfold Part.idleBoundary
    split
    · exact ⟨p.mixBoundary_plu, p.mixBoundary_moment⟩
    · exact ⟨rfl, rfl⟩
  obtain ⟨plu, moment⟩ := boundary
  generalize p.idleBoundary = q at plu moment
  rw [← plu, ← moment]
  exact ⟨rfl, rfl⟩

theorem Part.settle_tickWork {p : Part} (owed : p.plu.owed = none) (due : p.moment.trimDue = false)
    (control : p.moment.controlDue = false) (start : p.moment.pluDue = false ∨ p.plu.position ≠ none) :
    p.tickWork.settle = p.settle := by
  rw [Part.settle_ticks owed due control start]
  by_cases tick : p.moment.tick = true
  · have ticks := Part.TicksOn.runJobs tickJobs p
    rw [Part.tickWork, if_pos tick]
    generalize p.runJobs tickJobs = q at ticks
    obtain ⟨plu, moment⟩ := q.endTick_turns
    generalize q.idleBoundary.endTick = t at plu moment
    have ended : t.moment.tick = false := by rw [moment]
    refine (Part.settle_ticks ?_ ?_ ?_ ?_).trans (Part.tickWork_not_due ended)
    · rw [plu]
      exact ticks.owed owed
    · rw [moment]
      exact ticks.trimDue.trans due
    · rw [moment]
      exact ticks.controlDue.trans control
    · rw [moment, plu]
      exact start.imp ticks.pluDue.trans (mt ticks.stopped.mp)
  · have same : p.tickWork = p := Part.tickWork_not_due (Bool.eq_false_iff.mpr tick)
    rw [same, Part.settle_ticks owed due control start, same]

/-! ## A sample period once the moment is settled -/

section
variable {p : Part} (idle : p.moment.idle) (owed : p.plu.owed = none) (x : InputSample) (move : MoveTime) (order : CrossOrder)
include idle owed

theorem Part.samplePeriod_settled : p.samplePeriod x move order = (p.advance x).playTurn move order := by
  rw [Part.samplePeriod, Part.settle_idle p idle owed]

/-- Playout not started: the outputs carry 0 (R162). -/
theorem Part.samplePeriod_stopped (stopped : p.plu.position = none) :
    p.samplePeriod x move order = { p.advance x with mxe := { p.mxe with outputs := Vector.replicate 8 0 } } := by
  have off : (p.advance x).started = false := by
    rw [Part.started, show (p.advance x).plu.position = none from stopped]
    rfl
  rw [Part.samplePeriod_settled idle owed, Part.playTurn, off]
  rfl

variable {pos : SampleCount} (at_ : p.plu.position = some pos)
include at_

/-- Playout started: the move of the sample period falls due, and is taken at once where it is ordinary and the command
says so (R113). -/
theorem Part.samplePeriod_started : p.samplePeriod x move order =
    if (p.advance x).oweMove.plu.owed = some .step ∧ move = .now then (p.advance x).oweMove.takeMove order
    else (p.advance x).oweMove := by
  have on : (p.advance x).started = true := by
    rw [Part.started, show (p.advance x).plu.position = some pos from at_]
    rfl
  rw [Part.samplePeriod_settled idle owed, Part.playTurn, if_pos on]

/-- At slip phase Q the period is a slip decision (R117). -/
theorem Part.samplePeriod_slips (full : p.settings.slipRate ≤ p.plu.slipPhase + 1) :
    p.samplePeriod x move order = { p.advance x with plu := { p.plu with slipPhase := 0, owed := some .slip } } := by
  have owes : (p.advance x).oweMove = { p.advance x with plu := { p.plu with slipPhase := 0, owed := some .slip } } := by
    have slip : decide ((p.advance x).settings.slipRate ≤ (p.advance x).plu.slipPhase + 1) = true := decide_eq_true full
    rw [Part.oweMove, slip]
    rfl
  rw [Part.samplePeriod_started idle owed x move order at_, owes]
  exact if_neg fun h => Move.noConfusion (Option.some.inj h.1)

/-- A move that the command holds is left due (log 5). -/
theorem Part.samplePeriod_holds (short : p.plu.slipPhase + 1 < p.settings.slipRate) (later : move ≠ .now) :
    p.samplePeriod x move order = { p.advance x with
      plu := { p.plu with slipPhase := p.plu.slipPhase + 1, owed := some .step } } := by
  have owes : (p.advance x).oweMove = { p.advance x with
      plu := { p.plu with slipPhase := p.plu.slipPhase + 1, owed := some .step } } := by
    have step : decide ((p.advance x).settings.slipRate ≤ (p.advance x).plu.slipPhase + 1) = false :=
      decide_eq_false (Nat.not_le.mpr short)
    rw [Part.oweMove, step]
    rfl
  rw [Part.samplePeriod_started idle owed x move order at_, owes]
  exact if_neg fun h => later h.2

end

/-- Inside its block a sample period moves P by one and drives the outputs at the position reached (R113, R158 to
R163). -/
theorem Part.samplePeriod_inside {p : Part} {pos : SampleCount} (idle : p.moment.idle) (owed : p.plu.owed = none)
    (at_ : p.plu.position = some pos) (inside : pos.toNat % 48 ≠ 47) (within : pos.toNat + 1 < 2 ^ 48)
    (short : p.plu.slipPhase + 1 < p.settings.slipRate) (x : InputSample) (order : CrossOrder) :
    ∃ m : Mxe, p.samplePeriod x .now order = { p.advance x with
        plu := { p.plu with position := some (pos + 1), slipPhase := p.plu.slipPhase + 1 }
        mxe := { p.mxe with
          outputs := m.outputs, dither := m.dither, clipCount := m.clipCount, peaks := m.peaks, clips := m.clips } } ∧
      let i := pos.toNat % 48 + 1
      let clips : OutputNo → Bool := fun o => decide (p.unsaturated o i < -8388608 ∨ 8388607 < p.unsaturated o i)
      (∀ o : OutputNo, m.outputs[o] = BitVec.ofInt 24 (p.outputValue o i)) ∧
      (∀ o : OutputNo, m.dither[o] =
        if p.settings.outputs[o].dither = true ∧ p.settings.outputs[o].word ≠ .w24 then
          ditherAdvance (ditherAdvance p.mxe.dither[o]) else p.mxe.dither[o]) ∧
      m.clipCount = min (p.mxe.clipCount + ((List.finRange 8).filter clips).length) 4294967295 ∧
      (∀ o : OutputNo, m.peaks[o] = if p.mxe.metersOn = true then
        max p.mxe.peaks[o] (p.outputValue o i).natAbs else p.mxe.peaks[o]) ∧
      ∀ o : OutputNo, m.clips[o] = (p.mxe.clips[o] || (p.mxe.metersOn && clips o)) := by
  have acts := Part.samplePeriod_stepping idle owed at_ short x order
  obtain ⟨block, position⟩ := blockOf_inside pos inside within
  have plu := Part.takeMove_plu (p := p.stepping x) (m := .step) rfl at_ order
  have drives := Part.takeMove_drives (p := p.stepping x) (m := .step) rfl at_ order
  have stays := Part.takeMove_inside (p := p.stepping x) (m := .step) rfl at_ order within block
  generalize (p.stepping x).takeMove order = t at acts plu drives stays
  have plu := Part.stepping_plu owed plu
  have lanes : t.plu.lanes = p.plu.lanes := congrArg (fun q => q.plu.lanes) stays
  rw [if_pos within, lanes] at plu
  refine ⟨t.mxe, acts.trans (stays.trans ?_), ?_⟩
  · exact congrArg (fun u => ({ p.advance x with
      plu := u
      mxe := { p.mxe with
        outputs := t.mxe.outputs, dither := t.mxe.dither, clipCount := t.mxe.clipCount, peaks := t.mxe.peaks
        clips := t.mxe.clips } } : Part)) ((congrArg Part.plu stays).symm.trans plu)
  · intro i clips
    have drives : p.Drives t i := by
      change Part.Drives _ t (posInBlock (pos + 1)) at drives
      rw [position] at drives
      exact drives.of_same rfl rfl rfl rfl rfl rfl
    have same (o : OutputNo) : t.unsaturated o i = p.unsaturated o i := by
      rw [stays]
      rfl
    obtain ⟨each, count⟩ := drives
    simp only [same] at each count
    exact ⟨fun o => (each o).1, fun o => (each o).2.1, count, fun o => (each o).2.2.1, fun o => (each o).2.2.2⟩

/-- A sample period depends on the part as its moment settles. -/
theorem exec_samplePeriod_settled {s : State} {q : Part} (settled : q.settle = s.part.settle) (x : InputSample)
    (move : MoveTime) (order : CrossOrder) :
    exec (.samplePeriod x.slots x.talk move order) s = exec (.samplePeriod x.slots x.talk move order) (s.withPart q) := by
  have same : s.part.samplePeriod x move order = q.samplePeriod x move order := by
    rw [Part.samplePeriod, ← settled, Part.samplePeriod]
  exact next_withPart s same

/-- Settles O35: the moment settled, the outputs by `Part.output_values`, and each turn of the moment taken before it by
its own command. -/
theorem samplePeriodInsideABlock : Obligations.SamplePeriodInsideABlock := by
  refine ⟨fun s slots talk move order idle owed => ?_, fun p o i => p.output_values o i,
    fun p x k u i => p.switchSample_rows x k u i, fun r i => r.sampleAt_rows i,
    fun s u c slots talk move order which ran => ?_, fun s slots talk move order owed => ?_⟩
  · intro x sc tick instant p
    have same : p = s.part.advance x := (s.part.advance_eq x).symm
    clear_value p
    subst same
    refine ⟨fun stopped => ?_, fun pos at_ full => ?_, fun pos at_ short later => ?_,
      fun pos at_ inside within short now => ?_⟩
    · exact next_withPart s (Part.samplePeriod_stopped idle owed x move order stopped)
    · exact next_withPart s (Part.samplePeriod_slips idle owed x move order at_ full)
    · exact next_withPart s (Part.samplePeriod_holds idle owed x move order at_ short later)
    · subst now
      obtain ⟨m, acts, rest⟩ := Part.samplePeriod_inside idle owed at_ inside within short x order
      exact ⟨m, next_withPart s acts, rest⟩
  · have turn : ∃ q : Part, exec c s = .next (s.withPart q) ∧ q.settle = s.part.settle := by
      rcases which with ⟨rfl, slip⟩ | ⟨owed, which⟩
      · exact ⟨_, next_withPart s (if_pos slip), s.part.settle_takeMove⟩
      rcases which with ⟨rfl, -⟩ | ⟨due, which⟩
      · exact ⟨_, rfl, Part.settle_agreementWork owed⟩
      rcases which with ⟨rfl, -⟩ | ⟨control, which⟩
      · exact ⟨_, rfl, Part.settle_controlTurn owed due⟩
      rcases which with ⟨rfl, -⟩ | ⟨start, rfl, -⟩
      · exact ⟨_, rfl, Part.settle_startTurn owed due control⟩
      · exact ⟨_, rfl, Part.settle_tickWork owed due control start⟩
    obtain ⟨q, taken, settled⟩ := turn
    rw [← Host.Outcome.next.inj (taken.symm.trans ran)]
    exact exec_samplePeriod_settled settled ⟨slots, talk⟩ move order
  · exact exec_samplePeriod_settled s.part.settle_takeMove ⟨slots, talk⟩ move order

end Sys2Proof.Machine
